-- ==== Sys2Proof/Word.lean ====
section
/-! DEFINITION. The word types: a 32-bit register word (R14) and a byte. -/
namespace Sys2Proof

/-- A register of BAR0: 32 bits (R14). -/
abbrev Word := BitVec 32

/-- A byte of memory or of a packet. -/
abbrev Byte := BitVec 8

end Sys2Proof
end

