-- ==== Sys2Proof/Syntax.lean ====
section
/-! DEFINITION. The commands of the block: one constructor for each row of spec/opcode_table.json. A command is an access of the
host or of the management port, a packet or a pin event from outside, an instruction of a pixel engine, or the completion of a
process of the part. Its operands are what the spec makes the access or the event carry; what the environment alone decides
(bytes a flash delivers, a temperature, which test failed) is an operand too (notes/assumptions/1.md). -/
namespace Sys2Proof

/-- Who makes an access: the host through PCIe, or the management controller through the SPI target (R39, R16). -/
inductive Requester where
  | host
  | mgmt
deriving DecidableEq, Repr

/-- The fuse map of a die (R46): slot number; spare assignments of its SRAM macros, in the words of R394 (DESIGN CHOICE:
notes/assumptions/46.md); factory trims, words 0 to 62 of the trim set (R445); nominal delays of the pace monitor chains of blocks 0 to 7
(R48), and their RATIO (R449); the fuse identity that word 63 of a trim set covers (R445); and whether its record store array is readable
(R427), which the fuse load finds out. -/
structure FuseMap where
  slot    : Nat
  spares  : List (Nat × Nat)
  trims   : List Word
  nominal : List Nat
  ratio   : List Nat
  ident   : List Byte
  store   : Bool
deriving DecidableEq, Repr

/-- What an ECC checker answers to a code word (R50, R379). -/
inductive EccCheck where
  | noError
  | corrected (pos : Nat)
  | uncorrectable
deriving DecidableEq, Repr

/-- A fault that self-test item 3 finds in an on-chip memory (R49), and the spare that would repair it: MEMID, instance, macro, kind
(0 row, 1 column), row or bit column (R394). -/
structure MemFault where
  memid : Nat
  inst  : Nat
  mac   : Nat
  kind  : Nat
  addr  : Nat
deriving DecidableEq, Repr

/-- What self-test finds on one die (R48 to R50): `items`, the outcome of items 1, 2 and 5 (its write-read test), bit k − 1 set when item k
failed; the faults of item 3; what each SRAM and each DRAM ECC checker answers to the patterns P0 to P7; the measured delays of the
pace monitor chains; the cells whose engine check fails; installed GiB, trained channels and data rate of the die's LPDDR5X. -/
structure DieTest where
  items   : Nat
  faults  : List MemFault
  sram    : List (List EccCheck)
  dram    : List (List EccCheck)
  chains  : List Nat
  engines : List Nat
  gib     : Nat
  chOk    : Nat
  mts     : Nat
deriving DecidableEq, Repr

/-- What a scrub read meets (R389, R390): the next protected DRAM word, with the code bits that have flipped in it since it was
written, or a word of an on-chip memory with its syndrome. -/
inductive ScrubWhat where
  | dram (upset : List Nat)
  | sram (memid inst word synd : Nat)
deriving DecidableEq, Repr

/-- What goes wrong while the record store writes (R428 to R430): verify reads that fail on die 0 and die 1, dies on which a sector
erase fails, and, where a reset or a supply loss cuts the command short, how many of its steps (a byte programmed, a sector erased) are
done by then and which bits of the step in progress are still 1. -/
structure NvmFail where
  verify : List Nat
  erase  : List Nat
  cut    : Option (Nat × Byte)
deriving DecidableEq, Repr

/-- What a partner chip declares of itself in DECL parts 0 and 1 (R278). -/
structure Decl where
  classL    : Bool
  last      : Bool
  fwdRelay  : Nat
  backRelay : Nat
  tol       : Nat
  turn      : Nat
  lamps     : Nat
  keepMax   : Nat
  pid       : Nat
  widths    : Nat
  rows      : Nat
deriving DecidableEq, Repr

/-- What a line start finds on one die: phase error against die 0 in ticks (R86), oscillations of each block's pace chain (R449), µs since
the regulator's last acknowledgement (R451), whether the measuring window began before the region reached Run (R465), whether the source
lines that a streamed line needs have not arrived (R115), whether the timebase event FIFO has dropped an event, the lanes whose back-channel
FIFO or hold buffer has lost a block (R31, R464), and the words with a bit error that the users of the on-chip memories have read since the
line before: MEMID, instance, word, syndrome (R239, R368); and the partners of the die's strands, as lane and place, that have met a damaged
control block which no other command carries (R269, R288). -/
structure LineDie where
  lockErr : Int
  chains  : List Nat
  us      : Nat
  slept   : Bool
  late    : Bool
  tbOvf   : Bool
  backOvf : Nat
  sram    : List (Nat × Nat × Nat × Nat)
  rxBad   : List (Nat × Nat)
deriving DecidableEq, Repr



/-- A command block at the partners of a strand: its TAG, and the places of the chain at which it fails its check (R269, R273). -/
structure CmdRx where
  tag : Nat
  bad : List Nat
deriving DecidableEq, Repr

/-- A ROW at the partners: the places that it reaches after its T_ON, and those at which it fails its check (R269, R286). -/
structure RowRx where
  late : List Nat
  bad  : List Nat
deriving DecidableEq, Repr

/-- A launch marker at a partner: its timing point, and whether it arrives damaged: a packet by its packet check (`some false`) or by its
header (`some true`), a block by either (R269, R274, R275). -/
structure MarkerRx where
  tp  : Int
  bad : Option Bool
deriving DecidableEq, Repr

/-- A launch marker as the part sends it: its frame, and ADJ of its slot (R275). -/
structure MarkerTx where
  frame : Nat
  adj   : Nat
deriving DecidableEq, Repr

/-- A launch at place `k` of a chain: the partner's temperature, and the lamps that it finds open or short (R287, R288). -/
structure LaunchAt where
  k     : Nat
  temp  : Nat
  found : List (Nat × Bool)
deriving DecidableEq, Repr

/-- A back block that is discarded: for its CRC, or else for its type, and the place of its sender (R269, R279). -/
structure BadBlock where
  crc : Bool
  k   : Option Nat
deriving DecidableEq, Repr

/-- Who sends a DRAM request: its class (R374), and the die of the unit, which records an address error of a die that is not live (R373). -/
structure DramReq where
  cls : Nat
  die : Nat
deriving DecidableEq, Repr

/-- The bytes of a read frame of the management port, and whether the data is not ready in time (R487). -/
structure ReadFrame where
  body : List Byte
  late : Bool
deriving DecidableEq, Repr

/-- What a drive shows when it is initialised (R351): its controller is ready within 1,000 ms, LBA size and metadata of namespace 1 in
bytes, and MDTS as the power of two of 4 KiB pages, 0 for no limit. -/
structure NvmeId where
  ready : Bool
  lba   : Nat
  md    : Nat
  mdts  : Nat
deriving DecidableEq, Repr

/-- A drive that comes up: what it shows, and what has been written to it elsewhere, as byte offsets and bytes (R352, R357). -/
structure NvmeDrive where
  id      : NvmeId
  content : List (Nat × List Byte)
deriving DecidableEq, Repr

/-- The commands. Each constructor is the row of spec/opcode_table.json that its docstring names first, with the rule. -/
inductive Instr where
  /-- RESET_L_ASSERT (R517). -/
  | resetLAssert (pulseNs : Nat)
  /-- RESET_L_RELEASE (R42). -/
  | resetLRelease (bootMode : Nat) (refclk : Bool)
  /-- POWER_UP (R505). -/
  | powerUp
  /-- POWER_DOWN (R505). -/
  | powerDown
  /-- FUSE_LOAD_DONE (R46). -/
  | fuseLoadDone (fuses : List FuseMap) (straps : Nat) (speed : Nat) (width : Nat)
  /-- SELFTEST_DONE (R48). -/
  | selftestDone (results : List DieTest)
  /-- IMAGE_SOURCE_READ_DONE (R62). -/
  | imageSourceReadDone (bytes : Option (List Byte))
  /-- NVME_DRIVE_TIMEOUT (R70). -/
  | nvmeDriveTimeout
  /-- BOOT_GO (R69). -/
  | bootGo (who : Requester)
  /-- REQ_RESET (R41). -/
  | reqReset (who : Requester)
  /-- REQ_IDLE (R39). -/
  | reqIdle (who : Requester)
  /-- REQ_LIVE (R39). -/
  | reqLive (who : Requester)
  /-- REQ_COIL (R39). -/
  | reqCoil (who : Requester)
  /-- REQ_CALIBRATE (R39). -/
  | reqCalibrate (who : Requester)
  /-- REQ_LINK_TEST (R39). -/
  | reqLinkTest (who : Requester)
  /-- REQ_DORMANT (R39). -/
  | reqDormant (who : Requester)
  /-- REQ_RELOAD (R72). -/
  | reqReload (who : Requester)
  /-- REQ_RESERVED_MODE (R38). -/
  | reqReservedMode (who : Requester) (code : Nat)
  /-- RELOAD_DONE (R73). -/
  | reloadDone (bytes : Option (List Byte))
  /-- FATAL_CHIP_ERROR (R28). -/
  | fatalChipError (cause : Nat)
  /-- DIE_FAULT (R27). -/
  | dieFault (d : Nat) (cause : Nat) (afterCopy : Bool)
  /-- BLOCK_FAULT (R24). -/
  | blockFault (d : Nat) (b : Nat)
  /-- CELL_FAULT (R256). -/
  | cellFault (d : Nat) (e : Nat) (cause : Nat)
  /-- FRAME_START (R81). -/
  | frameStart
  /-- LINE_START (R86). -/
  | lineStart (ds : List LineDie)
  /-- VB_START (R338). -/
  | vbStart
  /-- LINE_MATCH (R338). -/
  | lineMatch (d : Nat) (k : Nat)
  /-- KNOT_LINE_START (R178). -/
  | knotLineStart (noVideo : List Nat)
  /-- KNOT_WINDOW_END (R175). -/
  | knotWindowEnd (ticks : Nat)
  /-- KNOT_REQ (R174). -/
  | knotReq (who : Requester)
  /-- KNOT_CANCEL (R186). -/
  | knotCancel (who : Requester)
  /-- READY_ARM (R181). -/
  | readyArm (who : Requester) (addr : Nat)
  /-- READY_DISARM (R181). -/
  | readyDisarm (who : Requester) (addr : Nat)
  /-- READY_SIGNAL (R181). -/
  | readySignal (who : Requester) (addr : Nat)
  /-- SNAP_REQ (R191). -/
  | snapReq (who : Requester)
  /-- SNAPSHOT_TAKE (R192). -/
  | snapshotTake
  /-- SNAP_LIVE (R192). -/
  | snapLive (who : Requester)
  /-- REG_WRITE (R17). -/
  | regWrite (addr : Nat) (bytes : Nat) (val : Word)
  /-- RC_READ (R17). -/
  | rcRead (addr : Nat) (bytes : Nat)
  /-- LO_READ (R16). -/
  | loRead (addr : Nat)
  /-- KNOT_PEEK_DATA_READ (R172). -/
  | knotPeekDataRead (who : Requester)
  /-- PAL_DATA (R134). -/
  | palData (addr : Nat) (wr : Option Word)
  /-- COEF_DATA (R134). -/
  | coefData (addr : Nat) (wr : Option Word)
  /-- LUT_DATA (R152). -/
  | lutData (addr : Nat) (wr : Option Word)
  /-- LANY_PAL_DATA (R134). -/
  | lanyPalData (wr : Option Word)
  /-- LAMP_DYN_DATA (R222). -/
  | lampDynData (d : Nat)
  /-- ECC_REPAIR_DATA1 (R394). -/
  | eccRepairData1 (d : Nat)
  /-- CAL_TRIM_DATA (R445). -/
  | calTrimData (d : Nat) (wr : Option Word)
  /-- NVM_DATA (R431). -/
  | nvmData (who : Requester) (k : Nat) (wr : Option Word)
  /-- SYNC_OUT_PULSE (R93). -/
  | syncOutPulse (n : Nat)
  /-- SYNC_IN_PULSE (R95). -/
  | syncInPulse (high : Nat) (word : Nat) (t : Nat)
  /-- SYNC_HOLDOVER (R96). -/
  | syncHoldover
  /-- STAMP_MEASURE (R91). -/
  | stampMeasure (g : Nat)
  /-- FRAME_SYNC_DEPARTURE (R89). -/
  | frameSyncDeparture (g : Nat) (m : MarkerTx)
  /-- FRAME_DONE (R339). -/
  | frameDone (d : Nat) (frame : Nat) (ticks : Nat)
  /-- SEGMENT_DEADLINE (R337). -/
  | segmentDeadline (seg : Nat) (line : Nat) (frame : Nat)
  /-- SOURCE_FRAME_START (R110). -/
  | sourceFrameStart (d : Nat) (ofs : Int) (enc : Nat) (bpc : Nat) (col : Nat) (rows : List (List (Nat × Nat × Nat)))
  /-- SOURCE_FRAME_END (R110). -/
  | sourceFrameEnd (d : Nat) (ovf : Bool)
  /-- AUX_TRANSACTION (R101). -/
  | auxTransaction (d : Nat) (native : Bool) (wr : Bool) (a : Nat) (data : List Byte) (n : Nat)
  /-- DP_LINK_LOSS (R105). -/
  | dpLinkLoss (d : Nat)
  /-- SRC_CTL_WRITE (R104). -/
  | srcCtlWrite (addr : Nat) (v : Word)
  /-- HPD_LOW_EXPIRY (R104). -/
  | hpdLowExpiry (d : Nat)
  /-- WB_SURFACE_COMPLETE (R160). -/
  | wbSurfaceComplete (d : Nat)
  /-- EOTF_LOAD_GO (R201). -/
  | eotfLoadGo (who : Requester) (addr : Nat)
  /-- EOTF_LOAD_DONE (R201). -/
  | eotfLoadDone (d : Nat)
  /-- OUT_LOAD_GO (R233). -/
  | outLoadGo (who : Requester) (addr : Nat)
  /-- OUT_LOAD_DONE (R233). -/
  | outLoadDone (d : Nat)
  /-- LAMP_DYN_CLR (R222). -/
  | lampDynClr (who : Requester) (addr : Nat)
  /-- FEED_SLOT_FILL (R243). -/
  | feedSlotFill (d : Nat) (g : Nat) (y : Nat)
  /-- GROUP_START (R241). -/
  | groupStart (eng : Nat)
  /-- GROUP_END (R252). -/
  | groupEnd (eng : Nat)
  /-- NOP (R245). -/
  | nop (eng : Nat)
  /-- FEED (R245). -/
  | feed (eng : Nat) (vd : Nat) (size : Nat) (sx : Bool) (shl : Nat) (off : Nat)
  /-- FEEDC (R245). -/
  | feedc (eng : Nat) (vd : Nat) (esel : Bool) (off : Nat)
  /-- FEEDS (R245). -/
  | feeds (eng : Nat) (sd : Nat) (off : Nat)
  /-- TLD (R245). -/
  | tld (eng : Nat) (vd : Nat) (va : Nat) (size : Nat) (sx : Bool) (disp : Nat)
  /-- TST (R245). -/
  | tst (eng : Nat) (va : Nat) (vb : Nat) (size : Nat) (disp : Nat)
  /-- TLDS (R245). -/
  | tlds (eng : Nat) (sd : Nat) (sa : Nat) (disp : Nat)
  /-- LUT1 (R247). -/
  | lut1 (eng : Nat) (vd : Nat) (va : Nat) (sb : Nat) (sh : Nat) (ef : Nat)
  /-- ODI (R245). -/
  | odi (eng : Nat) (vd : Nat) (va : Nat) (vb : Nat) (q : Nat)
  /-- LGI (R245). -/
  | lgi (eng : Nat) (vd : Nat) (va : Nat) (q : Nat)
  /-- ODI_LGI_RESULT (R249). -/
  | odiLgiResult (eng : Nat) (vd : Nat)
  /-- MULA (R245). -/
  | mula (eng : Nat) (va : Nat) (vb : Nat) (ua : Bool) (ub : Bool)
  /-- MACA (R245). -/
  | maca (eng : Nat) (va : Nat) (vb : Nat) (ua : Bool) (ub : Bool)
  /-- ADDA (R245). -/
  | adda (eng : Nat) (va : Nat) (ua : Bool) (sh : Nat)
  /-- RDA (R245). -/
  | rda (eng : Nat) (vd : Nat) (n : Nat) (sat : Nat)
  /-- MULR (R245). -/
  | mulr (eng : Nat) (vd : Nat) (va : Nat) (vb : Nat) (ua : Bool) (ub : Bool) (n : Nat) (sat : Nat)
  /-- ADD (R245). -/
  | add (eng : Nat) (vd : Nat) (va : Nat) (vb : Nat) (ua : Bool) (sat : Nat)
  /-- SUB (R245). -/
  | sub (eng : Nat) (vd : Nat) (va : Nat) (vb : Nat) (ua : Bool) (sat : Nat)
  /-- SHL (R245). -/
  | shl (eng : Nat) (vd : Nat) (va : Nat) (vb : Nat) (byreg : Bool) (amt : Nat) (sat : Nat)
  /-- SHR (R245). -/
  | shr (eng : Nat) (vd : Nat) (va : Nat) (vb : Nat) (byreg : Bool) (amt : Nat) (arith : Bool) (rnd : Bool) (sat : Nat)
  /-- MIN (R245). -/
  | min (eng : Nat) (vd : Nat) (va : Nat) (vb : Nat) (ua : Bool)
  /-- MAX (R245). -/
  | max (eng : Nat) (vd : Nat) (va : Nat) (vb : Nat) (ua : Bool)
  /-- CLMP (R245). -/
  | clmp (eng : Nat) (vd : Nat) (va : Nat) (sat : Nat) (cnt : Bool)
  /-- AND (R245). -/
  | and (eng : Nat) (vd : Nat) (va : Nat) (vb : Nat)
  /-- OR (R245). -/
  | or (eng : Nat) (vd : Nat) (va : Nat) (vb : Nat)
  /-- XOR (R245). -/
  | xor (eng : Nat) (vd : Nat) (va : Nat) (vb : Nat)
  /-- CMP (R245). -/
  | cmp (eng : Nat) (va : Nat) (vb : Nat) (ua : Bool) (cond : Nat)
  /-- SEL (R245). -/
  | sel (eng : Nat) (vd : Nat) (va : Nat) (vb : Nat)
  /-- VBC (R245). -/
  | vbc (eng : Nat) (vd : Nat) (sa : Nat)
  /-- VLDI (R245). -/
  | vldi (eng : Nat) (vd : Nat) (hi : Bool) (imm : Nat)
  /-- SLDI (R245). -/
  | sldi (eng : Nat) (sd : Nat) (hi : Bool) (imm : Nat)
  /-- SADD (R245). -/
  | sadd (eng : Nat) (sd : Nat) (sa : Nat) (sb : Nat)
  /-- DITH (R245). -/
  | dith (eng : Nat) (vd : Nat) (va : Nat) (vb : Nat) (mode : Nat)
  /-- EMIT (R252). -/
  | emit (eng : Nat) (va : Nat) (stream : Nat) (lamp : Nat) (deadz : Bool)
  /-- SKIP (R245). -/
  | skip (eng : Nat) (sa : Nat) (bit : Nat) (sense : Bool) (n : Nat)
  /-- END (R245). -/
  | end_ (eng : Nat)
  /-- UNDEFINED_OPCODE (R253). -/
  | undefinedOpcode (eng : Nat)
  /-- PE_FENCE_REQ (R259). -/
  | peFenceReq (who : Requester) (addr : Nat) (eng : Nat)
  /-- ENUM (R281). -/
  | enum (g : Nat) (k : Nat) (count : Nat) (decl : Decl)
  /-- STAMP (R282). -/
  | stamp (g : Nat) (addr : Nat) (rx : CmdRx) (seq : Nat)
  /-- TRIM (R283). -/
  | trim (g : Nat) (addr : Nat) (rx : CmdRx) (trim : Nat)
  /-- CFG_WR (R287). -/
  | cfgWr (g : Nat) (addr : Nat) (rx : CmdRx) (reg : Nat) (val : Nat)
  /-- CFG_RD (R287). -/
  | cfgRd (g : Nat) (addr : Nat) (rx : CmdRx) (reg : Nat)
  /-- ROW (R286). -/
  | row (g : Nat) (rx : RowRx)
  /-- ROW_T_ON (R286). -/
  | rowTOn (g : Nat) (k : Nat)
  /-- FWD_STATE (R313). -/
  | fwdState (g : Nat) (rx : CmdRx) (st : Nat) (frame : Nat)
  /-- BACK_STATE (R313). -/
  | backState (g : Nat) (rx : CmdRx) (off : Bool) (aux : Bool)
  /-- TEST (R312). -/
  | test (g : Nat) (addr : Nat) (rx : CmdRx) (pattern : Nat) (dir : Nat) (mask : Nat) (us : Nat)
  /-- TEST_RESULT (R312). -/
  | testResult (g : Nat) (addr : Nat) (rx : CmdRx) (lane : Nat) (runs : List Nat)
  /-- DRIVE (R284). -/
  | drive (g : Nat) (bad : List (Nat × Bool))
  /-- FRAME_SYNC (R283). -/
  | frameSync (g : Nat) (k : Nat) (frame : Nat) (lead : Nat) (rx : MarkerRx)
  /-- KEEP (R272). -/
  | keep (g : Nat) (k : Nat) (frame : Nat) (addr : Nat) (launch : Bool) (lead : Nat) (rx : MarkerRx)
  /-- PARTNER_LAUNCH (R284). -/
  | partnerLaunch (g : Nat) (x : LaunchAt)
  /-- PARTNER_OWN_LAUNCH (R285). -/
  | partnerOwnLaunch (g : Nat) (x : LaunchAt) (t : Int)
  /-- PARTNER_LINK_LOSS (R285). -/
  | partnerLinkLoss (g : Nat) (k : Nat) (training : Bool)
  /-- ECHO (R90). -/
  | echo (g : Nat) (addr : Nat) (tag : Nat) (seq : Nat) (wait : Nat) (rtt : Nat)
  /-- ACK (R279). -/
  | ack (g : Nat) (addr : Nat) (tag : Nat) (op : Nat) (result : Nat) (reg : Nat) (data : Nat)
  /-- DECL (R305). -/
  | decl (g : Nat) (addr : Nat) (part : Nat) (excess : Bool) (d : Decl)
  /-- STATUS (R279). -/
  | status (g : Nat) (addr : Nat) (f8 : Nat) (temp : Nat) (rxErr : Nat) (discard : Nat) (flags : Nat)
  /-- FAULT (R279). -/
  | fault (g : Nat) (addr : Nat) (lamps : List (Nat × Bool))
  /-- WAKE (R315). -/
  | wake (g : Nat) (addr : Nat) (reason : Nat)
  /-- EQ (R303). -/
  | eq (g : Nat) (lane : Nat) (pre : Nat) (post : Nat) (done : Bool) (fom : Nat) (seq : Nat)
  /-- BACK_TRAIN_BLOCK (R296). -/
  | backTrainBlock (g : Nat) (lane : Nat) (phase : Nat) (done : Bool) (inv : Bool) (rev : Bool) (skew : Nat) (fwd : Nat) (back : Nat) (widths : Nat)
  /-- BACK_INVALID_BLOCK (R269). -/
  | backInvalidBlock (g : Nat) (x : BadBlock)
  /-- INVALID_HEADER_LIMIT (R307). -/
  | invalidHeaderLimit (g : Nat)
  /-- CMD_TIMEOUT (R289). -/
  | cmdTimeout (g : Nat) (addr : Nat) (tag : Nat)
  /-- PCMD_CFG_RD (R290). -/
  | pcmdCfgRd (who : Requester) (g : Nat) (addr : Nat) (reg : Nat)
  /-- PCMD_CFG_WR (R290). -/
  | pcmdCfgWr (who : Requester) (g : Nat) (addr : Nat) (reg : Nat)
  /-- BLOCK_LOCK (R300). -/
  | blockLock (g : Nat) (lanes : Nat) (inv : Nat)
  /-- TRAIN_ATTEMPT_TIMEOUT (R297). -/
  | trainAttemptTimeout (g : Nat)
  /-- CAP_SWITCH (R302). -/
  | capSwitch (g : Nat)
  /-- GO_COUNTDOWN_END (R304). -/
  | goCountdownEnd (g : Nat)
  /-- BACKOFF_EXPIRY (R296). -/
  | backoffExpiry (g : Nat)
  /-- BACK_SIGNAL_LOST (R307). -/
  | backSignalLost (g : Nat)
  /-- STR_RETRAIN (R296). -/
  | strRetrain (who : Requester) (g : Nat) (v : Word)
  /-- ADAPT_FREEZE (R309). -/
  | adaptFreeze (g : Nat) (lane : Nat)
  /-- READAPT_WINDOW_END (R309). -/
  | readaptWindowEnd (g : Nat) (lane : Nat)
  /-- PRIMER_STAMP (R310). -/
  | primerStamp (g : Nat)
  /-- BACK_WAKE_TIMEOUT (R316). -/
  | backWakeTimeout (g : Nat)
  /-- PRBS_NEAR_END (R319). -/
  | prbsNearEnd (who : Requester) (g : Nat) (pattern : Nat)
  /-- PRBS_FAR_FORWARD (R319). -/
  | prbsFarForward (who : Requester) (g : Nat) (pattern : Nat) (addr : Nat)
  /-- PRBS_BACK (R319). -/
  | prbsBack (who : Requester) (g : Nat) (pattern : Nat) (addr : Nat)
  /-- PRBS_WINDOW_END (R319). -/
  | prbsWindowEnd (g : Nat) (runs : List (List Nat))
  /-- INJ_SINGLE (R320). -/
  | injSingle (who : Requester) (d : Nat) (n : Nat) (v : Word)
  /-- INJ_BURST (R320). -/
  | injBurst (who : Requester) (d : Nat) (n : Nat) (v : Word)
  /-- INJ_RATE (R320). -/
  | injRate (who : Requester) (d : Nat) (n : Nat) (v : Word)
  /-- NVME_COMPLETION (R352). -/
  | nvmeCompletion (d : Nat) (status : Nat)
  /-- NVME_CMD_TIMEOUT (R352). -/
  | nvmeCmdTimeout (d : Nat)
  /-- DRIVE_RESET (R352). -/
  | driveReset (d : Nat)
  /-- DRIVE_UP (R352). -/
  | driveUp (d : Nat) (x : NvmeDrive) (bad : List Nat)
  /-- RING_FILL_DONE (R360). -/
  | ringFillDone (err : Bool)
  /-- PLAYLIST_LOADED (R357). -/
  | playlistLoaded
  /-- BAR2_WRITE (R472). -/
  | bar2Write (o : Nat) (data : List Byte)
  /-- BAR2_READ (R472). -/
  | bar2Read (o : Nat) (n : Nat)
  /-- DRAM_WRITE (R383). -/
  | dramWrite (a : Nat) (data : List Byte) (who : DramReq)
  /-- DRAM_READ (R387). -/
  | dramRead (a : Nat) (n : Nat) (who : DramReq) (upset : List Nat)
  /-- MERGE_TIMEOUT (R384). -/
  | mergeTimeout (a : Nat)
  /-- SCRUB_READ (R390). -/
  | scrubRead (d : Nat) (what : ScrubWhat) (lap : Option Nat)
  /-- SCRUB_STARVED (R391). -/
  | scrubStarved (d : Nat)
  /-- WHIP_BATCH_START (R392). -/
  | whipBatchStart (d : Nat) (u : Nat)
  /-- WHIP_BATCH_DONE (R393). -/
  | whipBatchDone (d : Nat) (u : Nat) (up : List (Nat × Nat)) (down : List (Nat × Nat)) (last : List (Nat × Nat))
  /-- REPAIR_SAVE (R394). -/
  | repairSave (d : Nat) (fail : NvmFail)
  /-- PROT_ENABLE (R382). -/
  | protEnable (who : Requester) (addr : Nat) (base : Nat)
  /-- PROT_DISABLE (R382). -/
  | protDisable (who : Requester) (addr : Nat) (base : Nat)
  /-- PROT_INIT_DONE (R382). -/
  | protInitDone (d : Nat) (k : Nat)
  /-- SQ_DOORBELL (R477). -/
  | sqDoorbell (r : Nat) (v : Nat)
  /-- CQ_DOORBELL (R477). -/
  | cqDoorbell (r : Nat) (v : Nat)
  /-- DESCRIPTOR_FETCH (R477). -/
  | descriptorFetch (desc : Option (List Word))
  /-- COPY (R479). -/
  | copy (j : Nat)
  /-- FILL (R479). -/
  | fill (j : Nat)
  /-- HOST_RD (R479). -/
  | hostRd (j : Nat) (data : List Byte)
  /-- HOST_WR (R479). -/
  | hostWr (j : Nat) (ok : Nat)
  /-- ZBC_ENCODE (R402). -/
  | zbcEncode (j : Nat)
  /-- ZBC_DECODE (R403). -/
  | zbcDecode (j : Nat)
  /-- ZLC_COMPRESS (R411). -/
  | zlcCompress (j : Nat)
  /-- ZLC_DECOMPRESS (R409). -/
  | zlcDecompress (j : Nat)
  /-- STORE_WR (R479). -/
  | storeWr (j : Nat) (fail : Option (Nat × Nat))
  /-- STORE_RD (R479). -/
  | storeRd (j : Nat) (fail : Option (Nat × Nat))
  /-- STORE_FLUSH (R479). -/
  | storeFlush (j : Nat) (fail : Option (Nat × Nat))
  /-- JOB_COMPLETE (R480). -/
  | jobComplete (j : Nat)
  /-- JOB_ABORT (R481). -/
  | jobAbort (who : Requester) (r : Nat) (v : Word)
  /-- JOB_RING_DISABLE (R481). -/
  | jobRingDisable (who : Requester) (r : Nat) (v : Word)
  /-- JOB_RING_ENABLE (R476). -/
  | jobRingEnable (who : Requester) (r : Nat) (v : Word)
  /-- HOST_LINK_DOWN (R471). -/
  | hostLinkDown (kind : Nat)
  /-- NVM_READ (R426). -/
  | nvmRead (who : Requester) (k : Nat)
  /-- NVM_WRITE (R428). -/
  | nvmWrite (who : Requester) (k : Nat) (fail : NvmFail)
  /-- NVM_DELETE (R428). -/
  | nvmDelete (who : Requester) (k : Nat) (fail : NvmFail)
  /-- CTR_READ (R433). -/
  | ctrRead (who : Requester) (k : Nat)
  /-- CTR_ADD (R433). -/
  | ctrAdd (who : Requester) (k : Nat) (fail : NvmFail)
  /-- CTR_SET (R433). -/
  | ctrSet (who : Requester) (k : Nat) (fail : NvmFail)
  /-- NVM_BP_WRITE (R436). -/
  | nvmBpWrite (who : Requester) (v : Word)
  /-- NVM_BP_LOCK_WRITE (R436). -/
  | nvmBpLockWrite (who : Requester) (v : Word)
  /-- CAL_RUN_DONE (R440). -/
  | calRunDone (refs : List (Nat × Nat)) (pairs : List (List (List (Int × Int))))
  /-- VREF_CHECK (R439). -/
  | vrefCheck (samples : List (Nat × Nat × Nat))
  /-- TEMP_SAMPLE (R446). -/
  | tempSample (samples : List (List Int))
  /-- AVS_ACK (R504). -/
  | avsAck (d : Nat)
  /-- AVS_TIMEOUT (R455). -/
  | avsTimeout (d : Nat)
  /-- UNIT_WAKE_TIMER (R461). -/
  | unitWakeTimer (d : Nat) (unit : Nat) (us : Nat) (next : Nat) (starved : Bool)
  /-- WAKE_ON_DEMAND (R463). -/
  | wakeOnDemand (d : Nat) (unit : Nat) (us : Nat) (next : Nat) (starved : Bool)
  /-- DORMANT_WAKE_TIMER (R467). -/
  | dormantWakeTimer
  /-- PWR_WAKE_REQ (R467). -/
  | pwrWakeReq
  /-- LANY_COMMIT_REQ (R163). -/
  | lanyCommitReq (buf : Nat)
  /-- LANY_PROT_WRITE (R165). -/
  | lanyProtWrite (len : Bool) (v : Word)
  /-- LANY_LOCK_WRITE (R166). -/
  | lanyLockWrite (v : Word)
  /-- REGISTER_WRITE (R486). -/
  | registerWrite (body : List Byte) (ovf : Bool)
  /-- REGISTER_READ (R486). -/
  | registerRead (x : ReadFrame)
  /-- MEMORY_WRITE (R488). -/
  | memoryWrite (body : List Byte) (ovf : Bool)
  /-- MEMORY_READ (R486). -/
  | memoryRead (x : ReadFrame)
  /-- STATUS_FRAME (R487). -/
  | statusFrame
  /-- IDENTIFY (R486). -/
  | identify
  /-- SRC_LINK_UP (R443). -/
  | srcLinkUp (d : Nat) (lanes : Nat) (rate : Nat)
  /-- IRQ_HPD_END (R105). -/
  | irqHpdEnd (d : Nat)
  /-- TRAIN_BLIND_END (R306). -/
  | trainBlindEnd (g : Nat)
  /-- HOST_LINK_UP (R471). -/
  | hostLinkUp (speed : Nat) (width : Nat)
  /-- RC_PERST_L_RELEASE (R515). -/
  | rcPerstLRelease (d : Nat)
  /-- PE_FENCE_CAUSE_READ (R492). -/
  | peFenceCauseRead (d : Nat)
  /-- MSIX_TABLE_WRITE (R483). -/
  | msixTableWrite (off : Nat) (v : Word)
  /-- CONFIGURATION_REQUEST (R470). -/
  | configurationRequest (off : Nat) (be : Nat) (wr : Option Word)
  /-- CSTS_CFS (R352). -/
  | cstsCfs (d : Nat)
  /-- TCK_EDGE (R516). -/
  | tckEdge (rise : Bool) (tms : Bool) (tdi : Bool) (trst : Bool)
deriving DecidableEq, Repr

end Sys2Proof
end

