-- ==== Sys2Proof/Decode.lean ====
section
/-! DEFINITION. Words of the opcode table. Every row of spec/opcode_table.json has an empty list of bit fields: the commands are
accesses, packets, pin events and engine instructions whose encodings the block's own functions read (BAR accesses, management
frames, strand blocks, descriptors), so no word of the table spells a command. -/
namespace Sys2Proof

/-- The command that the `nbits` low bits of `w` spell by the table's bits: none, as no row gives bits.
(DESIGN CHOICE: notes/assumptions/6.md) -/
def decodeTableWord (_nbits _w : Nat) : Option Instr := none

end Sys2Proof
end

