-- ==== Sys2Proof/Config.lean ====
section
/-! DEFINITION. The values that the spec leaves open: constants without a body, so that nothing can be proved about them beyond what
holds for every value. -/
namespace Sys2Proof

/-- The k-th free value: a value that no rule states (DESIGN CHOICE: notes/assumptions/2.md). -/
opaque Config.freeWord : Nat → Word

/-- What the match search of the ZLC encoder proposes, from DYN, the block bytes, the positions of FLUSH, the input and a position in it:
length and distance (R411 states no search). (DESIGN CHOICE: notes/assumptions/2.md) -/
opaque Config.zlcMatch : Bool → Nat → List Nat → List Byte → Nat → Nat × Nat

/-- The code length that the ZLC encoder gives a symbol from a block's symbol counts (R411 states no construction).
(DESIGN CHOICE: notes/assumptions/2.md) -/
opaque Config.zlcLength : List Nat → Nat → Nat

/-- The error, within 1 LSB, of a component of the colour conversion (R132 states a bound, no value), from the layer's CSC, RANGE and
depth code, the component and the three samples. (DESIGN CHOICE: notes/assumptions/2.md) -/
opaque Config.cscError : Nat → Nat → Nat → List Nat → Nat

/-- An overdrive or low-grey entry outside the grid of R228 and R229 (an index beyond the table, primary 3), from the set, the primary
and the two indices: no rule states it. (DESIGN CHOICE: notes/assumptions/2.md) -/
opaque Config.beyondTable : Nat → Nat → Nat → Nat → Nat

/-- What a partner's back buffer holds at a lamp after a launch without a swap (R284: not defined), from the salt of that launch.
(DESIGN CHOICE: notes/assumptions/2.md) -/
opaque Config.partnerBuffer : Nat → Nat → Nat

/-- Whether a pinned range [lo, hi) that crosses from one die's address space into the next, which R187 does not define, holds an access
at an address inside it, from lo, hi and the address. (DESIGN CHOICE: notes/assumptions/2.md) -/
opaque Config.crossPin : Nat → Nat → Nat → Bool

/-- By how many blocks a partner's outgoing queue exceeds the 8 that R277 requires. (DESIGN CHOICE: notes/assumptions/2.md) -/
opaque Config.partnerQueue : Nat

/-- The row of R441 whose trims bit `i` of a trim set (32 bits a word) holds, from 0 to 6; any other value for a bit that belongs to none: R445
gives no layout. (DESIGN CHOICE: notes/assumptions/2.md) -/
opaque Config.trimRow : Nat → Nat

/-- The code of a job's status in its completion record (R417 names the statuses and gives no codes), by place in the list of
`JobEnd`. (DESIGN CHOICE: notes/assumptions/2.md) -/
opaque Config.jobStatus : Nat → Nat

/-- Bits of one die's JTAG instruction register (R516 gives no length).
(DESIGN CHOICE: notes/assumptions/2.md, DESIGN CHOICE: notes/assumptions/25.md) -/
opaque Config.tapIrBits : Nat

/-- The code in one die's instruction register that selects IDCODE (R516 gives none).
(DESIGN CHOICE: notes/assumptions/2.md, DESIGN CHOICE: notes/assumptions/25.md) -/
opaque Config.tapIdcodeIr : List Bool

/-- Bits of the data register that another instruction selects (R516 gives none).
(DESIGN CHOICE: notes/assumptions/2.md, DESIGN CHOICE: notes/assumptions/25.md) -/
opaque Config.tapDrBits : List Bool → Nat

end Sys2Proof
end

