-- ==== Sys2Proof/Machine/Fields.lean ====
section
/-! DEFINITION. The registers of BAR0 by name and the fields of each, from the field tables of spec/01 to spec/20 and the
register index spec/21_register_index.md (R494). A register is named by its BAR0 offset; a register of a die window takes the
die `d` first, then the family's index. A field is its lowest bit and its width. -/
namespace Sys2Proof.Machine

/-- A bit field of a 32-bit register: lowest bit and width. -/
structure Fd where
  lsb : Nat
  w   : Nat
deriving DecidableEq, Repr

/-- The base of die `d`'s register window (R14). -/
def dieBase (d : Nat) : Nat := 0x10000 + 0x10000 * d


/-! ### CHIP_ (chip window) -/
def CHIP_ID : Nat := 0
def CHIP_ID.FAMILY : Fd := ⟨16, 16⟩
def CHIP_ID.STEPPING : Fd := ⟨8, 8⟩
def CHIP_ID.DIES : Fd := ⟨0, 8⟩
def CHIP_DIES : Nat := 4
def CHIP_DIES.FENCED : Fd := ⟨16, 8⟩
def CHIP_DIES.POPULATED : Fd := ⟨0, 8⟩
def CHIP_MODE : Nat := 0x10
def CHIP_MODE.BUSY : Fd := ⟨31, 1⟩
def CHIP_MODE.REASON : Fd := ⟨16, 8⟩
def CHIP_MODE.PREV : Fd := ⟨8, 4⟩
def CHIP_MODE.MODE : Fd := ⟨0, 4⟩
def CHIP_MODE_REQ : Nat := 0x14
def CHIP_MODE_REQ.RESULT : Fd := ⟨30, 2⟩
def CHIP_MODE_REQ.MODE : Fd := ⟨0, 4⟩
def CHIP_MODE_CTL : Nat := 0x18
def CHIP_MODE_CTL.COIL_DELAY : Fd := ⟨16, 16⟩
def CHIP_MODE_CTL.COIL_YIELD : Fd := ⟨2, 1⟩
def CHIP_MODE_CTL.AUTO_COIL : Fd := ⟨1, 1⟩
def CHIP_MODE_CTL.AUTO_BELAY : Fd := ⟨0, 1⟩
def CHIP_BOOT_STATUS : Nat := 0x40
def CHIP_BOOT_STATUS.STAGE : Fd := ⟨28, 4⟩
def CHIP_BOOT_STATUS.SOURCE : Fd := ⟨26, 2⟩
def CHIP_BOOT_STATUS.DRIVE : Fd := ⟨25, 1⟩
def CHIP_BOOT_STATUS.LOCKED : Fd := ⟨24, 1⟩
def CHIP_BOOT_STATUS.ERR : Fd := ⟨16, 8⟩
def CHIP_BOOT_STATUS.ERR_SECTION : Fd := ⟨8, 8⟩
def CHIP_BOOT_STATUS.SKIPPED : Fd := ⟨2, 6⟩
def CHIP_BOOT_STATUS.STRAP : Fd := ⟨0, 2⟩
def CHIP_BOOT_CTL : Nat := 0x44
def CHIP_BOOT_CTL.RELOAD_SRC : Fd := ⟨2, 2⟩
def CHIP_BOOT_CTL.GO : Fd := ⟨0, 1⟩
def CHIP_IMG_VER : Nat := 0x48
def CHIP_STAGE_BASE_LO : Nat := 0x50
def CHIP_STAGE_BASE_LO.ADDR : Fd := ⟨12, 20⟩
def CHIP_STAGE_BASE_HI : Nat := 0x54
def CHIP_STAGE_BASE_HI.ADDR : Fd := ⟨0, 8⟩
def CHIP_STAGE_LEN : Nat := 0x58
def CHIP_STAGE_LEN.LEN : Fd := ⟨0, 27⟩
def CHIP_DIGEST (k : Nat) : Nat := 0x60 + 4 * k
def CHIP_BG_0 : Nat := 0x80
def CHIP_BG_0.G : Fd := ⟨16, 16⟩
def CHIP_BG_0.R : Fd := ⟨0, 16⟩
def CHIP_BG_1 : Nat := 0x84
def CHIP_BG_1.B : Fd := ⟨0, 16⟩
def CHIP_COMP_CTL : Nat := 0x88
def CHIP_COMP_CTL.OCCL_EN : Fd := ⟨0, 1⟩
def CHIP_SNAP : Nat := 0x90
def CHIP_SNAP.BUSY : Fd := ⟨31, 1⟩
def CHIP_SNAP.VIEW : Fd := ⟨30, 1⟩
def CHIP_SNAP.LIVE : Fd := ⟨1, 1⟩
def CHIP_SNAP.REQ : Fd := ⟨0, 1⟩
def CHIP_SNAP_FRAME_LO : Nat := 0x94
def CHIP_SNAP_FRAME_HI : Nat := 0x98
def CHIP_SNAP_FRAME_HI.FRAME : Fd := ⟨0, 16⟩

/-! ### TB_ (chip window) -/
def TB_CTL : Nat := 0x400
def TB_CTL.SLEW : Fd := ⟨16, 16⟩
def TB_CTL.SYNC_MEAS : Fd := ⟨3, 1⟩
def TB_CTL.SYNC_OUT_EN : Fd := ⟨2, 1⟩
def TB_CTL.ROLE : Fd := ⟨0, 2⟩
def TB_STATUS : Nat := 0x404
def TB_STATUS.SYNC_BAD : Fd := ⟨11, 1⟩
def TB_STATUS.FRAME_STEP : Fd := ⟨10, 1⟩
def TB_STATUS.LOCK_LOSS : Fd := ⟨9, 1⟩
def TB_STATUS.RTT_VALID : Fd := ⟨8, 1⟩
def TB_STATUS.HOPS : Fd := ⟨4, 3⟩
def TB_STATUS.STATE : Fd := ⟨0, 3⟩
def TB_FRAME_LO : Nat := 0x408
def TB_FRAME_HI : Nat := 0x40C
def TB_FRAME_HI.V : Fd := ⟨0, 16⟩
def TB_HTIMING0 : Nat := 0x410
def TB_HTIMING0.HSYNC_W : Fd := ⟨20, 12⟩
def TB_HTIMING0.LINE_TICKS : Fd := ⟨0, 20⟩
def TB_HTIMING1 : Nat := 0x414
def TB_HTIMING1.HACT_START : Fd := ⟨0, 20⟩
def TB_HTIMING2 : Nat := 0x418
def TB_HTIMING2.HACT_END : Fd := ⟨0, 20⟩
def TB_VTIMING0 : Nat := 0x41C
def TB_VTIMING0.VTOTAL : Fd := ⟨0, 16⟩
def TB_VTIMING1 : Nat := 0x420
def TB_VTIMING1.VSYNC_LINES : Fd := ⟨16, 16⟩
def TB_VTIMING1.VSYNC_START : Fd := ⟨0, 16⟩
def TB_FRAME_ADJ : Nat := 0x424
def TB_FRAME_ADJ.FRAME_ADJ : Fd := ⟨0, 20⟩
def TB_FRAC : Nat := 0x428
def TB_FRAC.FRAC_DEN : Fd := ⟨8, 8⟩
def TB_FRAC.FRAC_NUM : Fd := ⟨0, 8⟩
def TB_LAUNCH : Nat := 0x42C
def TB_LAUNCH.SYNC_LEAD : Fd := ⟨16, 16⟩
def TB_LAUNCH.LAUNCH_OFS : Fd := ⟨0, 16⟩
def TB_SYNC_OUT : Nat := 0x430
def TB_SYNC_OUT.OFS : Fd := ⟨0, 24⟩
def TB_SYNC_IN : Nat := 0x434
def TB_SYNC_IN.DLY : Fd := ⟨0, 24⟩
def TB_SYNC_RTT : Nat := 0x438
def TB_SYNC_RTT.RTT : Fd := ⟨0, 24⟩
def TB_STAMP : Nat := 0x43C
def TB_STAMP.PERIOD : Fd := ⟨0, 16⟩

/-! ### KNOT_ (chip window) -/
def KNOT_REQ : Nat := 0x800
def KNOT_REQ.CANCEL : Fd := ⟨1, 1⟩
def KNOT_REQ.REQ : Fd := ⟨0, 1⟩
def KNOT_CTL : Nat := 0x804
def KNOT_CTL.LINE : Fd := ⟨0, 16⟩
def KNOT_STATUS : Nat := 0x808
def KNOT_STATUS.BUSY : Fd := ⟨31, 1⟩
def KNOT_STATUS.PEND : Fd := ⟨30, 1⟩
def KNOT_STATUS.DEFERRED : Fd := ⟨29, 1⟩
def KNOT_STATUS.HELD : Fd := ⟨28, 1⟩
def KNOT_STATUS.PIN_WAIT : Fd := ⟨19, 1⟩
def KNOT_STATUS.FENCE : Fd := ⟨18, 1⟩
def KNOT_STATUS.BAD_SHADOW : Fd := ⟨17, 1⟩
def KNOT_STATUS.DROPPED : Fd := ⟨16, 1⟩
def KNOT_STATUS.INDEP_PEND : Fd := ⟨0, 7⟩
def KNOT_SEQ : Nat := 0x80C
def KNOT_APPLIED_LO : Nat := 0x810
def KNOT_APPLIED_HI : Nat := 0x814
def KNOT_APPLIED_HI.FRAME : Fd := ⟨0, 16⟩
def KNOT_APPLIED_SEQ : Nat := 0x818
def KNOT_INDEP : Nat := 0x81C
def KNOT_INDEP.LAYERS : Fd := ⟨0, 7⟩
def KNOT_DEFER_COUNT : Nat := 0x820
def KNOT_REJECT : Nat := 0x824
def KNOT_REJECT.CAUSE : Fd := ⟨28, 4⟩
def KNOT_REJECT.OFFSET : Fd := ⟨0, 20⟩
def KNOT_PEEK_ADDR : Nat := 0x828
def KNOT_PEEK_ADDR.OFFSET : Fd := ⟨2, 18⟩
def KNOT_PEEK_DATA : Nat := 0x82C
def KNOT_RELEASED_LO : Nat := 0x830
def KNOT_RELEASED_HI : Nat := 0x834
def KNOT_RELEASED_HI.FRAME : Fd := ⟨0, 16⟩

/-! ### HOST_ (chip window) -/
def HOST_WIN_BASE_LO : Nat := 0xC00
def HOST_WIN_BASE_LO.ADDR : Fd := ⟨30, 2⟩
def HOST_WIN_BASE_HI : Nat := 0xC04
def HOST_WIN_BASE_HI.ADDR : Fd := ⟨0, 8⟩
def HOST_IRQ_STAT : Nat := 0xC10
def HOST_IRQ_STAT.EVENT : Fd := ⟨0, 27⟩
def HOST_IRQ_EN : Nat := 0xC14
def HOST_IRQ_EN.EVENT : Fd := ⟨0, 27⟩
def HOST_IRQ_JOB : Nat := 0xC18
def HOST_IRQ_JOB.RING : Fd := ⟨0, 8⟩
def HOST_IRQ_JOB_EN : Nat := 0xC1C
def HOST_IRQ_JOB_EN.RING : Fd := ⟨0, 8⟩
def HOST_MGMT_IRQ_STAT : Nat := 0xC20
def HOST_MGMT_IRQ_STAT.EVENT : Fd := ⟨0, 27⟩
def HOST_MGMT_IRQ_EN : Nat := 0xC24
def HOST_MGMT_IRQ_EN.EVENT : Fd := ⟨0, 27⟩
def HOST_ACC_ERR : Nat := 0xC30
def HOST_ACC_ERR.CAUSE : Fd := ⟨28, 4⟩
def HOST_ACC_ERR.OFFSET : Fd := ⟨0, 20⟩
def HOST_ACC_ERR_CNT : Nat := 0xC34
def HOST_LINK : Nat := 0xC40
def HOST_LINK.WIDTH : Fd := ⟨4, 4⟩
def HOST_LINK.SPEED : Fd := ⟨0, 4⟩

/-! ### ERR_ (chip window) -/
def ERR_STATUS : Nat := 0x1000
def ERR_STATUS.FATAL : Fd := ⟨31, 1⟩
def ERR_STATUS.DIE_FENCE : Fd := ⟨16, 8⟩
def ERR_STATUS.DIE_ERR : Fd := ⟨8, 8⟩
def ERR_STATUS.ACCESS : Fd := ⟨4, 1⟩
def ERR_STATUS.CAL : Fd := ⟨3, 1⟩
def ERR_STATUS.TB : Fd := ⟨2, 1⟩
def ERR_STATUS.JOB : Fd := ⟨1, 1⟩
def ERR_STATUS.NVM : Fd := ⟨0, 1⟩
def ERR_FATAL : Nat := 0x1004
def ERR_FATAL.CAUSE : Fd := ⟨28, 4⟩
def ERR_FENCE (i : Nat) : Nat := 0x1010 + 4 * i
def ERR_FENCE.CAUSE : Fd := ⟨28, 4⟩
def ERR_DIE (i : Nat) : Nat := 0x1040 + 4 * i
def ERR_DIE.BLOCK : Fd := ⟨8, 1⟩
def ERR_DIE.CELL : Fd := ⟨7, 1⟩
def ERR_DIE.CAL : Fd := ⟨6, 1⟩
def ERR_DIE.PCK : Fd := ⟨5, 1⟩
def ERR_DIE.MEM : Fd := ⟨4, 1⟩
def ERR_DIE.LAMP : Fd := ⟨3, 1⟩
def ERR_DIE.STRAND : Fd := ⟨2, 1⟩
def ERR_DIE.SRC : Fd := ⟨1, 1⟩
def ERR_DIE.XFIFO : Fd := ⟨0, 1⟩

/-! ### PWR_ (chip window) -/
def PWR_CTL : Nat := 0x1400
def PWR_CTL.EN : Fd := ⟨31, 1⟩
def PWR_CTL.QUIET_EN : Fd := ⟨30, 1⟩
def PWR_CTL.NAP_EN : Fd := ⟨29, 1⟩
def PWR_CTL.DEEP_EN : Fd := ⟨28, 1⟩
def PWR_DORMANT : Nat := 0x1404
def PWR_DORMANT.BACK : Fd := ⟨1, 1⟩
def PWR_DORMANT.FWD : Fd := ⟨0, 1⟩
def PWR_WAKE_MS : Nat := 0x1408
def PWR_WAKE_MS.MS : Fd := ⟨0, 24⟩
def PWR_WAKE_REQ : Nat := 0x140C
def PWR_WAKE_REQ.WAKE : Fd := ⟨0, 1⟩
def PWR_STATUS : Nat := 0x1410
def PWR_STATUS.DORMANT : Fd := ⟨31, 1⟩
def PWR_STATUS.WAKE_PEND : Fd := ⟨30, 1⟩
def PWR_STATUS.TEMP_HOLD : Fd := ⟨29, 1⟩
def PWR_STATUS.REGION : Fd := ⟨0, 24⟩

/-! ### NVM_ (chip window) -/
def NVM_CMD (k : Nat) : Nat := 0x1800 + 0x40 * k
def NVM_CMD.GO : Fd := ⟨31, 1⟩
def NVM_CMD.OP : Fd := ⟨24, 4⟩
def NVM_ID (k : Nat) : Nat := 0x1804 + 0x40 * k
def NVM_ID.TYPE : Fd := ⟨16, 16⟩
def NVM_ID.KEY : Fd := ⟨0, 16⟩
def NVM_LEN (k : Nat) : Nat := 0x1808 + 0x40 * k
def NVM_LEN.LEN : Fd := ⟨0, 12⟩
def NVM_DIDX (k : Nat) : Nat := 0x180C + 0x40 * k
def NVM_DIDX.IDX : Fd := ⟨0, 10⟩
def NVM_DATA (k : Nat) : Nat := 0x1810 + 0x40 * k
def NVM_STAT (k : Nat) : Nat := 0x1814 + 0x40 * k
def NVM_STAT.BUSY : Fd := ⟨31, 1⟩
def NVM_STAT.RESULT : Fd := ⟨0, 4⟩
def NVM_SEQ (k : Nat) : Nat := 0x1818 + 0x40 * k
def NVM_VAL_LO (k : Nat) : Nat := 0x181C + 0x40 * k
def NVM_VAL_HI (k : Nat) : Nat := 0x1820 + 0x40 * k
def NVM_STATUS : Nat := 0x1880
def NVM_STATUS.DIE0_OK : Fd := ⟨31, 1⟩
def NVM_STATUS.DIE1_OK : Fd := ⟨30, 1⟩
def NVM_STATUS.BP_DENIED : Fd := ⟨3, 1⟩
def NVM_STATUS.TIE : Fd := ⟨2, 1⟩
def NVM_STATUS.DONE : Fd := ⟨0, 2⟩
def NVM_BP : Nat := 0x1884
def NVM_BP.BP : Fd := ⟨0, 2⟩
def NVM_BP_LOCK : Nat := 0x1888
def NVM_BP_LOCK.LOCK : Fd := ⟨0, 1⟩
def NVM_TIE_LAST : Nat := 0x188C
def NVM_TIE_LAST.TYPE : Fd := ⟨16, 16⟩
def NVM_TIE_LAST.KEY : Fd := ⟨0, 16⟩
def NVM_ZONE (z : Nat) : Nat := 0x1890 + 4 * z
def NVM_ZONE.FREE : Fd := ⟨24, 8⟩
def NVM_ZONE.LIVE : Fd := ⟨0, 20⟩
def NVM_WEAR : Nat := 0x18A0
def NVM_WEAR.RETIRED : Fd := ⟨24, 8⟩
def NVM_WEAR.MAX : Fd := ⟨0, 17⟩
def NVM_TIE_CNT : Nat := 0x18A4
def NVM_DIFF : Nat := 0x18A8

/-! ### CAL_ (chip window) -/
def CAL_CTL : Nat := 0x1C00
def CAL_CTL.REF_MODE : Fd := ⟨30, 2⟩
def CAL_CTL.SEL : Fd := ⟨0, 7⟩
def CAL_STATUS : Nat := 0x1C04
def CAL_STATUS.BUSY : Fd := ⟨31, 1⟩
def CAL_STATUS.REF_BAD : Fd := ⟨30, 1⟩
def CAL_STATUS.REF_LOST : Fd := ⟨29, 1⟩
def CAL_STATUS.ABORTED : Fd := ⟨28, 1⟩
def CAL_STATUS.TRIM_BAD : Fd := ⟨27, 1⟩
def CAL_STATUS.PAIRS : Fd := ⟨16, 8⟩
def CAL_STATUS.FAIL : Fd := ⟨0, 7⟩
def CAL_EVT : Nat := 0x1C08
def CAL_EVT.PACE_LOW : Fd := ⟨3, 1⟩
def CAL_EVT.THERM_CRIT : Fd := ⟨2, 1⟩
def CAL_EVT.THERM_WARN : Fd := ⟨1, 1⟩
def CAL_EVT.CAL_FAIL : Fd := ⟨0, 1⟩
def CAL_THERM : Nat := 0x1C0C
def CAL_THERM.HYST : Fd := ⟨16, 8⟩
def CAL_THERM.WARN : Fd := ⟨0, 8⟩
def CAL_THERM_STAT : Nat := 0x1C10
def CAL_THERM_STAT.DIE : Fd := ⟨16, 3⟩
def CAL_THERM_STAT.TMAX : Fd := ⟨0, 16⟩
def CAL_SHED : Nat := 0x1C14
def CAL_SHED.LEVEL : Fd := ⟨0, 3⟩
def CAL_SHED_CNT : Nat := 0x1C18

/-! ### COIL_ (chip window) -/
def COIL_CTL : Nat := 0x2000
def COIL_CTL.EN : Fd := ⟨31, 1⟩
def COIL_CTL.ORIGIN_MODE : Fd := ⟨30, 1⟩
def COIL_CTL.PL : Fd := ⟨8, 8⟩
def COIL_CTL.LEAD : Fd := ⟨0, 6⟩
def COIL_START_LO : Nat := 0x2004
def COIL_START_HI : Nat := 0x2008
def COIL_START_HI.V : Fd := ⟨0, 16⟩
def COIL_RING_BASE_LO : Nat := 0x2010
def COIL_RING_BASE_LO.ADDR : Fd := ⟨8, 24⟩
def COIL_RING_BASE_HI : Nat := 0x2014
def COIL_RING_BASE_HI.ADDR : Fd := ⟨0, 8⟩
def COIL_RING_SLOTS : Nat := 0x2018
def COIL_RING_SLOTS.SLOTS : Fd := ⟨0, 6⟩
def COIL_SLOT_CU : Nat := 0x201C
def COIL_SLOT_CU.CU : Fd := ⟨0, 24⟩
def COIL_STATUS : Nat := 0x2020
def COIL_STATUS.READY : Fd := ⟨31, 1⟩
def COIL_STATUS.RUN : Fd := ⟨30, 1⟩
def COIL_STATUS.ENDED : Fd := ⟨29, 1⟩
def COIL_STATUS.LATE : Fd := ⟨28, 1⟩
def COIL_STATUS.DRV1_UP : Fd := ⟨27, 1⟩
def COIL_STATUS.DRV0_UP : Fd := ⟨26, 1⟩
def COIL_STATUS.PL_LOADING : Fd := ⟨25, 1⟩
def COIL_STATUS.ENTRY : Fd := ⟨12, 12⟩
def COIL_STATUS.FILLED : Fd := ⟨0, 6⟩
def COIL_ORIGIN_LO : Nat := 0x2024
def COIL_ORIGIN_HI : Nat := 0x2028
def COIL_ORIGIN_HI.V : Fd := ⟨0, 16⟩
def COIL_POS : Nat := 0x202C
def COIL_EVT : Nat := 0x2030
def COIL_EVT.STEP : Fd := ⟨7, 1⟩
def COIL_EVT.ENTRY_BAD : Fd := ⟨6, 1⟩
def COIL_EVT.END : Fd := ⟨5, 1⟩
def COIL_EVT.LATE : Fd := ⟨4, 1⟩
def COIL_EVT.IO_ERR : Fd := ⟨3, 1⟩
def COIL_EVT.DRIVE_DOWN : Fd := ⟨2, 1⟩
def COIL_EVT.DRIVE_UP : Fd := ⟨1, 1⟩
def COIL_EVT.NO_STORE : Fd := ⟨0, 1⟩
def COIL_LATE_CNT : Nat := 0x2034
def COIL_IO_ERR_CNT : Nat := 0x2038
def COIL_DRV_STAT (i : Nat) : Nat := 0x2040 + 8 * i
def COIL_DRV_STAT.PRESENT : Fd := ⟨31, 1⟩
def COIL_DRV_STAT.READY : Fd := ⟨30, 1⟩
def COIL_DRV_STAT.MEMBER : Fd := ⟨29, 1⟩
def COIL_DRV_STAT.STATUS : Fd := ⟨0, 16⟩
def COIL_DRV_CAP (i : Nat) : Nat := 0x2044 + 8 * i

/-! ### CMP_ (chip window) -/
def CMP_STATUS : Nat := 0x2400
def CMP_STATUS.BUSY : Fd := ⟨0, 8⟩
def CMP_JOB_CNT : Nat := 0x2404
def CMP_FAIL_CNT : Nat := 0x2408
def CMP_NOGAIN_CNT : Nat := 0x240C
def CMP_ZBC_BAD_CNT : Nat := 0x2410
def CMP_IN_BYTES_LO : Nat := 0x2418
def CMP_IN_BYTES_HI : Nat := 0x241C
def CMP_OUT_BYTES_LO : Nat := 0x2420
def CMP_OUT_BYTES_HI : Nat := 0x2424

/-! ### BLY_ (chip window) -/
def BLY_CTL : Nat := 0x2800
def BLY_CTL.REFRESH_ALL : Fd := ⟨0, 1⟩
def BLY_STATUS : Nat := 0x2804
def BLY_STATUS.ACTIVE : Fd := ⟨31, 1⟩
def BLY_STATUS.REFRESH : Fd := ⟨16, 8⟩
def BLY_STATUS.NO_SURFACE : Fd := ⟨8, 8⟩
def BLY_ENTER_LO : Nat := 0x2808
def BLY_ENTER_HI : Nat := 0x280C
def BLY_ENTER_HI.V : Fd := ⟨0, 16⟩
def BLY_EXIT_LO : Nat := 0x2810
def BLY_EXIT_HI : Nat := 0x2814
def BLY_EXIT_HI.V : Fd := ⟨0, 16⟩
def BLY_CNT : Nat := 0x2818

/-! ### LANY_ (chip window) -/
def LANY_CTL : Nat := 0x2C00
def LANY_CTL.EN : Fd := ⟨31, 1⟩
def LANY_CTL.FMT : Fd := ⟨16, 5⟩
def LANY_CTL.OPAQUE : Fd := ⟨2, 1⟩
def LANY_CTL.PREMULT : Fd := ⟨1, 1⟩
def LANY_CTL.PAL_BANK : Fd := ⟨0, 1⟩
def LANY_ALPHA : Nat := 0x2C04
def LANY_ALPHA.ALPHA : Fd := ⟨0, 16⟩
def LANY_SRC_POS : Nat := 0x2C08
def LANY_SRC_POS.SY : Fd := ⟨16, 16⟩
def LANY_SRC_POS.SX : Fd := ⟨0, 16⟩
def LANY_SRC_SIZE : Nat := 0x2C0C
def LANY_SRC_SIZE.SH : Fd := ⟨16, 16⟩
def LANY_SRC_SIZE.SW : Fd := ⟨0, 16⟩
def LANY_DST_POS : Nat := 0x2C10
def LANY_DST_POS.DY : Fd := ⟨16, 16⟩
def LANY_DST_POS.DX : Fd := ⟨0, 16⟩
def LANY_BASE_A_LO : Nat := 0x2C20
def LANY_BASE_A_LO.ADDR : Fd := ⟨8, 24⟩
def LANY_BASE_A_HI : Nat := 0x2C24
def LANY_BASE_A_HI.ADDR : Fd := ⟨0, 8⟩
def LANY_BASE_B_LO : Nat := 0x2C28
def LANY_BASE_B_LO.ADDR : Fd := ⟨8, 24⟩
def LANY_BASE_B_HI : Nat := 0x2C2C
def LANY_BASE_B_HI.ADDR : Fd := ⟨0, 8⟩
def LANY_STRIDE : Nat := 0x2C30
def LANY_STRIDE.STRIDE : Fd := ⟨0, 24⟩
def LANY_PAL_IDX : Nat := 0x2C40
def LANY_PAL_IDX.IDX : Fd := ⟨0, 8⟩
def LANY_PAL_DATA : Nat := 0x2C44
def LANY_PROT_BASE : Nat := 0x2C50
def LANY_PROT_BASE.ADDR : Fd := ⟨0, 24⟩
def LANY_PROT_LEN : Nat := 0x2C54
def LANY_PROT_LEN.LEN : Fd := ⟨0, 16⟩
def LANY_CHK_POS : Nat := 0x2C60
def LANY_CHK_POS.Y : Fd := ⟨16, 16⟩
def LANY_CHK_POS.X : Fd := ⟨0, 16⟩
def LANY_CHK_SIZE : Nat := 0x2C64
def LANY_CHK_SIZE.H : Fd := ⟨16, 16⟩
def LANY_CHK_SIZE.W : Fd := ⟨0, 16⟩
def LANY_EXP (i : Nat) : Nat := 0x2C80 + 4 * i
def LANY_COMMIT : Nat := 0x2CA0
def LANY_COMMIT.BUF : Fd := ⟨1, 1⟩
def LANY_COMMIT.REQ : Fd := ⟨0, 1⟩
def LANY_LOCK : Nat := 0x2CA4
def LANY_LOCK.LOCK : Fd := ⟨0, 1⟩
def LANY_STATUS : Nat := 0x2CB0
def LANY_STATUS.LOCKED : Fd := ⟨31, 1⟩
def LANY_STATUS.BUF : Fd := ⟨30, 1⟩
def LANY_STATUS.PEND : Fd := ⟨29, 1⟩
def LANY_STATUS.BAD : Fd := ⟨28, 1⟩
def LANY_STATUS.LOCK_WR : Fd := ⟨27, 1⟩
def LANY_STATUS.MISMATCH : Fd := ⟨16, 8⟩
def LANY_STATUS.HOST_WR : Fd := ⟨0, 16⟩
def LANY_VIOL_ADDR_LO : Nat := 0x2CB8
def LANY_VIOL_ADDR_HI : Nat := 0x2CBC
def LANY_VIOL_ADDR_HI.V : Fd := ⟨0, 8⟩
def LANY_VIOL_CNT : Nat := 0x2CC0
def LANY_MISM_CNT : Nat := 0x2CC4
def LANY_APPLIED_LO : Nat := 0x2CC8
def LANY_APPLIED_HI : Nat := 0x2CCC
def LANY_APPLIED_HI.V : Fd := ⟨0, 16⟩

/-! ### JOB_ (chip window) -/
def JOB_SQ_BASE_LO (r : Nat) : Nat := 0x3000 + 0x40 * r
def JOB_SQ_BASE_LO.ADDR : Fd := ⟨12, 20⟩
def JOB_SQ_BASE_HI (r : Nat) : Nat := 0x3004 + 0x40 * r
def JOB_CQ_BASE_LO (r : Nat) : Nat := 0x3008 + 0x40 * r
def JOB_CQ_BASE_LO.ADDR : Fd := ⟨12, 20⟩
def JOB_CQ_BASE_HI (r : Nat) : Nat := 0x300C + 0x40 * r
def JOB_CQ_WB_LO (r : Nat) : Nat := 0x3010 + 0x40 * r
def JOB_CQ_WB_LO.ADDR : Fd := ⟨2, 30⟩
def JOB_CQ_WB_HI (r : Nat) : Nat := 0x3014 + 0x40 * r
def JOB_SIZE (r : Nat) : Nat := 0x3018 + 0x40 * r
def JOB_SIZE.LOG2 : Fd := ⟨0, 4⟩
def JOB_CTL (r : Nat) : Nat := 0x301C + 0x40 * r
def JOB_CTL.EN : Fd := ⟨31, 1⟩
def JOB_CTL.ABORT : Fd := ⟨30, 1⟩
def JOB_STAT (r : Nat) : Nat := 0x3020 + 0x40 * r
def JOB_STAT.FETCH_ERR : Fd := ⟨31, 1⟩
def JOB_STAT.SQ_HEAD : Fd := ⟨16, 13⟩
def JOB_STAT.CQ_TAIL : Fd := ⟨0, 13⟩
def JOB_INFLIGHT (r : Nat) : Nat := 0x3024 + 0x40 * r
def JOB_INFLIGHT.COUNT : Fd := ⟨0, 10⟩
def JOB_QUEUE : Nat := 0x3200
def JOB_QUEUE.COUNT : Fd := ⟨0, 10⟩

/-! ### DIE_ (die window) -/
def DIE_ID (d : Nat) : Nat := dieBase d + 0
def DIE_ID.FAMILY : Fd := ⟨16, 16⟩
def DIE_ID.STEPPING : Fd := ⟨8, 8⟩
def DIE_ID.SLOT : Fd := ⟨0, 3⟩
def DIE_XFIFO_ERR (d : Nat) : Nat := dieBase d + 0x40
def DIE_XFIFO_ERR.BACK_OVF : Fd := ⟨16, 16⟩
def DIE_XFIFO_ERR.SPI_OVF : Fd := ⟨3, 1⟩
def DIE_XFIFO_ERR.TB_OVF : Fd := ⟨2, 1⟩
def DIE_XFIFO_ERR.DP_OVF : Fd := ⟨1, 1⟩
def DIE_SELFTEST (d : Nat) : Nat := dieBase d + 0x44
def DIE_SELFTEST.DONE : Fd := ⟨31, 1⟩
def DIE_SELFTEST.DIE_FAIL : Fd := ⟨30, 1⟩
def DIE_SELFTEST.FAIL_ITEM : Fd := ⟨20, 7⟩
def DIE_SELFTEST.BLOCKS_FENCED : Fd := ⟨16, 4⟩
def DIE_SELFTEST.CELLS_FENCED : Fd := ⟨8, 8⟩
def DIE_SELFTEST.REPAIR_SKIP : Fd := ⟨4, 4⟩
def DIE_SELFTEST.SOFT_REPAIRS : Fd := ⟨0, 4⟩
def DIE_TB_STATUS (d : Nat) : Nat := dieBase d + 0x50
def DIE_TB_STATUS.LINE : Fd := ⟨16, 16⟩
def DIE_TB_STATUS.LOCK_ERR : Fd := ⟨8, 8⟩
def DIE_TB_STATUS.LOCKED : Fd := ⟨0, 1⟩
def DIE_WB_CTL (d : Nat) : Nat := dieBase d + 0x100
def DIE_WB_CTL.EN : Fd := ⟨31, 1⟩
def DIE_WB_CTL.LANY_EXCL : Fd := ⟨30, 1⟩
def DIE_WB_CTL.BUFS : Fd := ⟨29, 1⟩
def DIE_WB_CTL.PIN_POLICY : Fd := ⟨8, 2⟩
def DIE_WB_BASE0_LO (d : Nat) : Nat := dieBase d + 0x104
def DIE_WB_BASE0_LO.ADDR : Fd := ⟨8, 24⟩
def DIE_WB_BASE0_HI (d : Nat) : Nat := dieBase d + 0x108
def DIE_WB_BASE0_HI.ADDR : Fd := ⟨0, 8⟩
def DIE_WB_BASE1_LO (d : Nat) : Nat := dieBase d + 0x10C
def DIE_WB_BASE1_LO.ADDR : Fd := ⟨8, 24⟩
def DIE_WB_BASE1_HI (d : Nat) : Nat := dieBase d + 0x110
def DIE_WB_BASE1_HI.ADDR : Fd := ⟨0, 8⟩
def DIE_WB_STRIDE (d : Nat) : Nat := dieBase d + 0x114
def DIE_WB_STRIDE.STRIDE : Fd := ⟨0, 24⟩
def DIE_WB_STATUS (d : Nat) : Nat := dieBase d + 0x118
def DIE_WB_STATUS.VALID : Fd := ⟨31, 1⟩
def DIE_WB_STATUS.LAST : Fd := ⟨30, 1⟩
def DIE_WB_STATUS.LATE : Fd := ⟨29, 1⟩
def DIE_WB_FRAME_LO (d : Nat) : Nat := dieBase d + 0x120
def DIE_WB_FRAME_HI (d : Nat) : Nat := dieBase d + 0x124
def DIE_WB_FRAME_HI.V : Fd := ⟨0, 16⟩
def DIE_OCCL_TILES (d : Nat) : Nat := dieBase d + 0x130
def DIE_PIN_STATUS (d : Nat) : Nat := dieBase d + 0x140
def DIE_PIN_STATUS.WAIT : Fd := ⟨8, 7⟩
def DIE_PIN_STATUS.USED : Fd := ⟨0, 7⟩
def DIE_PIN_VIOL_ADDR_LO (d : Nat) : Nat := dieBase d + 0x144
def DIE_PIN_VIOL_ADDR_HI (d : Nat) : Nat := dieBase d + 0x148
def DIE_PIN_VIOL_ADDR_HI.BLOCKED : Fd := ⟨31, 1⟩
def DIE_PIN_VIOL_ADDR_HI.ADDR : Fd := ⟨0, 8⟩
def DIE_PIN_VIOL_CNT (d : Nat) : Nat := dieBase d + 0x14C

/-! ### SRC_ (die window) -/
def SRC_CTL (d : Nat) : Nat := dieBase d + 0x400
def SRC_CTL.EN : Fd := ⟨31, 1⟩
def SRC_CTL.HPD_LOW : Fd := ⟨30, 1⟩
def SRC_CTL.RATE_CAP : Fd := ⟨20, 8⟩
def SRC_CTL.LANE_CAP : Fd := ⟨16, 2⟩
def SRC_STATUS (d : Nat) : Nat := dieBase d + 0x404
def SRC_STATUS.LINK_UP : Fd := ⟨31, 1⟩
def SRC_STATUS.VIDEO : Fd := ⟨30, 1⟩
def SRC_STATUS.ASLEEP : Fd := ⟨29, 1⟩
def SRC_STATUS.LM : Fd := ⟨28, 1⟩
def SRC_STATUS.FILT : Fd := ⟨27, 1⟩
def SRC_STATUS.NO_RECORD : Fd := ⟨26, 1⟩
def SRC_STATUS.LANES : Fd := ⟨24, 2⟩
def SRC_STATUS.RATE : Fd := ⟨20, 4⟩
def SRC_STATUS.ENC : Fd := ⟨18, 2⟩
def SRC_STATUS.BPC : Fd := ⟨16, 2⟩
def SRC_STATUS.COLORIMETRY : Fd := ⟨12, 4⟩
def SRC_SLEEP_FRAMES (d : Nat) : Nat := dieBase d + 0x408
def SRC_SLEEP_FRAMES.FRAMES : Fd := ⟨0, 8⟩
def SRC_GEOM (d : Nat) : Nat := dieBase d + 0x40C
def SRC_GEOM.H : Fd := ⟨16, 16⟩
def SRC_GEOM.W : Fd := ⟨0, 16⟩
def SRC_STRIDE (d : Nat) : Nat := dieBase d + 0x410
def SRC_STRIDE.STRIDE : Fd := ⟨0, 24⟩
def SRC_BUF_LO (d k : Nat) : Nat := dieBase d + 0x420 + 8 * k
def SRC_BUF_LO.ADDR : Fd := ⟨8, 24⟩
def SRC_BUF_HI (d k : Nat) : Nat := dieBase d + 0x424 + 8 * k
def SRC_BUF_HI.ADDR : Fd := ⟨0, 8⟩
def SRC_BUF_STATE (d : Nat) : Nat := dieBase d + 0x440
def SRC_BUF_STATE.CAPTURED : Fd := ⟨16, 16⟩
def SRC_BUF_STATE.REL : Fd := ⟨12, 2⟩
def SRC_BUF_STATE.W : Fd := ⟨8, 2⟩
def SRC_BUF_STATE.C : Fd := ⟨4, 2⟩
def SRC_BUF_STATE.D : Fd := ⟨0, 2⟩
def SRC_DROP_CNT (d : Nat) : Nat := dieBase d + 0x444
def SRC_REPEAT_CNT (d : Nat) : Nat := dieBase d + 0x448
def SRC_DAMAGED_CNT (d : Nat) : Nat := dieBase d + 0x44C
def SRC_LM_CTL (d : Nat) : Nat := dieBase d + 0x450
def SRC_LM_CTL.EN : Fd := ⟨31, 1⟩
def SRC_LM_CTL.TOL : Fd := ⟨0, 16⟩
def SRC_LM_OFS (d : Nat) : Nat := dieBase d + 0x454
def SRC_LM_OFS.OFS : Fd := ⟨0, 24⟩
def SRC_EVT (d : Nat) : Nat := dieBase d + 0x460
def SRC_EVT.SLEEP : Fd := ⟨7, 1⟩
def SRC_EVT.WAKE : Fd := ⟨6, 1⟩
def SRC_EVT.LM_EXIT : Fd := ⟨5, 1⟩
def SRC_EVT.LM_LATE : Fd := ⟨4, 1⟩
def SRC_EVT.NO_BUF : Fd := ⟨3, 1⟩
def SRC_EVT.FORMAT : Fd := ⟨2, 1⟩
def SRC_EVT.GEOM : Fd := ⟨1, 1⟩
def SRC_EVT.DAMAGED : Fd := ⟨0, 1⟩

/-! ### PE_ (die window) -/
def PE_STATUS (d : Nat) : Nat := dieBase d + 0x2000
def PE_STATUS.LOADED : Fd := ⟨31, 1⟩
def PE_STATUS.LINE_EN : Fd := ⟨30, 1⟩
def PE_STATUS.GROUP_COST : Fd := ⟨16, 12⟩
def PE_STATUS.LINE_COST : Fd := ⟨0, 12⟩
def PE_BUDGET (d : Nat) : Nat := dieBase d + 0x2004
def PE_BUDGET.AVAIL : Fd := ⟨12, 20⟩
def PE_BUDGET.GPC_MAX : Fd := ⟨0, 8⟩
def PE_NEED (d : Nat) : Nat := dieBase d + 0x2008
def PE_NEED.NEED : Fd := ⟨0, 20⟩
def PE_CHUNK (d : Nat) : Nat := dieBase d + 0x200C
def PE_CHUNK.CHUNK : Fd := ⟨0, 8⟩
def PE_FENCE (d m : Nat) : Nat := dieBase d + 0x2010 + 4 * m
def PE_FENCE_CAUSE (d : Nat) : Nat := dieBase d + 0x2020
def PE_FENCE_CAUSE.ENGINE : Fd := ⟨16, 7⟩
def PE_FENCE_CAUSE.CAUSE : Fd := ⟨0, 3⟩
def PE_FENCE_REQ (d : Nat) : Nat := dieBase d + 0x2024
def PE_FENCE_REQ.GO : Fd := ⟨31, 1⟩
def PE_FENCE_REQ.ENGINE : Fd := ⟨0, 7⟩
def PE_COST_MAX (d : Nat) : Nat := dieBase d + 0x2028
def PE_COST_MAX.COST : Fd := ⟨0, 16⟩
def PE_ACC_ERR (d : Nat) : Nat := dieBase d + 0x202C

/-! ### LYR_ (die window) -/
def LYR_CTL (d n : Nat) : Nat := dieBase d + 0x1000 + 0x100 * n
def LYR_CTL.EN : Fd := ⟨31, 1⟩
def LYR_CTL.SRC_SEL : Fd := ⟨29, 2⟩
def LYR_CTL.PORT : Fd := ⟨24, 3⟩
def LYR_CTL.FMT : Fd := ⟨16, 5⟩
def LYR_CTL.CSC : Fd := ⟨14, 2⟩
def LYR_CTL.RANGE : Fd := ⟨13, 1⟩
def LYR_CTL.PIN_POLICY : Fd := ⟨8, 2⟩
def LYR_CTL.PAL_BANK : Fd := ⟨1, 1⟩
def LYR_CTL.COEF_BANK : Fd := ⟨0, 1⟩
def LYR_SRC_POS (d n : Nat) : Nat := dieBase d + 0x1004 + 0x100 * n
def LYR_SRC_POS.SY : Fd := ⟨16, 16⟩
def LYR_SRC_POS.SX : Fd := ⟨0, 16⟩
def LYR_SRC_SIZE (d n : Nat) : Nat := dieBase d + 0x1008 + 0x100 * n
def LYR_SRC_SIZE.SH : Fd := ⟨16, 16⟩
def LYR_SRC_SIZE.SW : Fd := ⟨0, 16⟩
def LYR_DST_POS (d n : Nat) : Nat := dieBase d + 0x100C + 0x100 * n
def LYR_DST_POS.DY : Fd := ⟨16, 16⟩
def LYR_DST_POS.DX : Fd := ⟨0, 16⟩
def LYR_DST_SIZE (d n : Nat) : Nat := dieBase d + 0x1010 + 0x100 * n
def LYR_DST_SIZE.DH : Fd := ⟨16, 16⟩
def LYR_DST_SIZE.DW : Fd := ⟨0, 16⟩
def LYR_LMEM (d n : Nat) : Nat := dieBase d + 0x1014 + 0x100 * n
def LYR_LMEM.PAGES : Fd := ⟨0, 7⟩
def LYR_BASE_LO (d n k : Nat) : Nat := dieBase d + 0x1020 + 0x100 * n + 8 * k
def LYR_BASE_LO.ADDR : Fd := ⟨8, 24⟩
def LYR_BASE_HI (d n k : Nat) : Nat := dieBase d + 0x1024 + 0x100 * n + 8 * k
def LYR_BASE_HI.ADDR : Fd := ⟨0, 8⟩
def LYR_STRIDE0 (d n : Nat) : Nat := dieBase d + 0x1038 + 0x100 * n
def LYR_STRIDE0.STRIDE : Fd := ⟨0, 24⟩
def LYR_STRIDE1 (d n : Nat) : Nat := dieBase d + 0x103C + 0x100 * n
def LYR_STRIDE1.STRIDE : Fd := ⟨0, 24⟩
def LYR_PAL_IDX (d n : Nat) : Nat := dieBase d + 0x1040 + 0x100 * n
def LYR_PAL_IDX.IDX : Fd := ⟨0, 8⟩
def LYR_PAL_DATA (d n : Nat) : Nat := dieBase d + 0x1044 + 0x100 * n
def LYR_COEF_IDX (d n : Nat) : Nat := dieBase d + 0x1048 + 0x100 * n
def LYR_COEF_IDX.IDX : Fd := ⟨0, 9⟩
def LYR_COEF_DATA (d n : Nat) : Nat := dieBase d + 0x104C + 0x100 * n
def LYR_COEF_DATA.TAP_ODD : Fd := ⟨16, 12⟩
def LYR_COEF_DATA.TAP_EVEN : Fd := ⟨0, 12⟩
def LYR_BLEND (d n : Nat) : Nat := dieBase d + 0x1080 + 0x100 * n
def LYR_BLEND.ALPHA : Fd := ⟨16, 16⟩
def LYR_BLEND.LUT_BANK : Fd := ⟨3, 1⟩
def LYR_BLEND.LINEAR : Fd := ⟨2, 1⟩
def LYR_BLEND.OPAQUE : Fd := ⟨1, 1⟩
def LYR_BLEND.PREMULT : Fd := ⟨0, 1⟩
def LYR_LUT_IDX (d n : Nat) : Nat := dieBase d + 0x1084 + 0x100 * n
def LYR_LUT_IDX.IDX : Fd := ⟨0, 12⟩
def LYR_LUT_DATA (d n : Nat) : Nat := dieBase d + 0x1088 + 0x100 * n
def LYR_LUT_DATA.T : Fd := ⟨0, 17⟩
def LYR_READY (d n : Nat) : Nat := dieBase d + 0x10C0 + 0x100 * n
def LYR_READY.ARM : Fd := ⟨31, 1⟩
def LYR_READY.DISARM : Fd := ⟨30, 1⟩
def LYR_READY.SIGNAL : Fd := ⟨29, 1⟩
def LYR_READY.ARMED : Fd := ⟨1, 1⟩
def LYR_READY.SIGNALLED : Fd := ⟨0, 1⟩
def LYR_RELEASE_LO (d n : Nat) : Nat := dieBase d + 0x10C4 + 0x100 * n
def LYR_RELEASE_HI (d n : Nat) : Nat := dieBase d + 0x10C8 + 0x100 * n
def LYR_RELEASE_HI.DONE : Fd := ⟨31, 1⟩
def LYR_RELEASE_HI.FRAME : Fd := ⟨0, 16⟩
def LYR_KSTAT (d n : Nat) : Nat := dieBase d + 0x10CC + 0x100 * n
def LYR_KSTAT.PEND : Fd := ⟨31, 1⟩
def LYR_KSTAT.APPLIED : Fd := ⟨0, 24⟩

/-! ### LAMP_ (die window) -/
def LAMP_CTL (d : Nat) : Nat := dieBase d + 0x1800
def LAMP_CTL.EN_LIN : Fd := ⟨31, 1⟩
def LAMP_CTL.EN_CC : Fd := ⟨30, 1⟩
def LAMP_CTL.EN_SEAM : Fd := ⟨29, 1⟩
def LAMP_CTL.EN_CONCEAL : Fd := ⟨28, 1⟩
def LAMP_CTL.EN_OD : Fd := ⟨27, 1⟩
def LAMP_CTL.EN_LOWGREY : Fd := ⟨26, 1⟩
def LAMP_CTL.EN_DITHER : Fd := ⟨25, 1⟩
def LAMP_CTL.EOTF_BANK : Fd := ⟨0, 1⟩
def LAMP_TILE_GEOM (d : Nat) : Nat := dieBase d + 0x1804
def LAMP_TILE_GEOM.TH : Fd := ⟨16, 16⟩
def LAMP_TILE_GEOM.TW : Fd := ⟨0, 16⟩
def LAMP_TILE_PITCH (d : Nat) : Nat := dieBase d + 0x1808
def LAMP_TILE_PITCH.PITCH : Fd := ⟨0, 16⟩
def LAMP_TILE_BASE_LO (d : Nat) : Nat := dieBase d + 0x1810
def LAMP_TILE_BASE_LO.ADDR : Fd := ⟨8, 24⟩
def LAMP_TILE_BASE_HI (d : Nat) : Nat := dieBase d + 0x1814
def LAMP_TILE_BASE_HI.ADDR : Fd := ⟨0, 8⟩
def LAMP_PIX_BASE_LO (d : Nat) : Nat := dieBase d + 0x1818
def LAMP_PIX_BASE_LO.ADDR : Fd := ⟨8, 24⟩
def LAMP_PIX_BASE_HI (d : Nat) : Nat := dieBase d + 0x181C
def LAMP_PIX_BASE_HI.ADDR : Fd := ⟨0, 8⟩
def LAMP_PIX_STRIDE (d : Nat) : Nat := dieBase d + 0x1820
def LAMP_PIX_STRIDE.STRIDE : Fd := ⟨0, 24⟩
def LAMP_SEAM_BASE_LO (d : Nat) : Nat := dieBase d + 0x1828
def LAMP_SEAM_BASE_LO.ADDR : Fd := ⟨8, 24⟩
def LAMP_SEAM_BASE_HI (d : Nat) : Nat := dieBase d + 0x182C
def LAMP_SEAM_BASE_HI.ADDR : Fd := ⟨0, 8⟩
def LAMP_SEAM_COUNT (d : Nat) : Nat := dieBase d + 0x1830
def LAMP_SEAM_COUNT.COUNT : Fd := ⟨0, 16⟩
def LAMP_EOTF_SRC_LO (d : Nat) : Nat := dieBase d + 0x1840
def LAMP_EOTF_SRC_LO.ADDR : Fd := ⟨8, 24⟩
def LAMP_EOTF_SRC_HI (d : Nat) : Nat := dieBase d + 0x1844
def LAMP_EOTF_SRC_HI.ADDR : Fd := ⟨0, 8⟩
def LAMP_EOTF_LOAD (d : Nat) : Nat := dieBase d + 0x1848
def LAMP_EOTF_LOAD.GO : Fd := ⟨0, 1⟩
def LAMP_STATUS (d : Nat) : Nat := dieBase d + 0x184C
def LAMP_STATUS.LOAD_BUSY : Fd := ⟨31, 1⟩
def LAMP_STATUS.LOAD_BANK : Fd := ⟨30, 1⟩
def LAMP_STATUS.BANK1_OK : Fd := ⟨29, 1⟩
def LAMP_STATUS.BANK0_OK : Fd := ⟨28, 1⟩
def LAMP_STATUS.LOAD_REFUSED : Fd := ⟨1, 1⟩
def LAMP_STATUS.LOAD_ERR : Fd := ⟨0, 1⟩
def LAMP_NEUTRAL_CNT (d : Nat) : Nat := dieBase d + 0x1850
def LAMP_NEUTRAL_ADDR_LO (d : Nat) : Nat := dieBase d + 0x1854
def LAMP_NEUTRAL_ADDR_HI (d : Nat) : Nat := dieBase d + 0x1858
def LAMP_NEUTRAL_ADDR_HI.CAUSE : Fd := ⟨30, 2⟩
def LAMP_NEUTRAL_ADDR_HI.ADDR : Fd := ⟨0, 8⟩
def LAMP_HI_CNT (d : Nat) : Nat := dieBase d + 0x185C
def LAMP_CONC_CTL (d : Nat) : Nat := dieBase d + 0x1880
def LAMP_CONC_CTL.DYN_EN : Fd := ⟨31, 1⟩
def LAMP_CONC_DEFW (d : Nat) : Nat := dieBase d + 0x1884
def LAMP_DEAD_BASE_LO (d : Nat) : Nat := dieBase d + 0x1888
def LAMP_DEAD_BASE_LO.ADDR : Fd := ⟨8, 24⟩
def LAMP_DEAD_BASE_HI (d : Nat) : Nat := dieBase d + 0x188C
def LAMP_DEAD_BASE_HI.ADDR : Fd := ⟨0, 8⟩
def LAMP_CONC_STATUS (d : Nat) : Nat := dieBase d + 0x1890
def LAMP_CONC_STATUS.DYN_FULL : Fd := ⟨31, 1⟩
def LAMP_CONC_STATUS.DYN_USED : Fd := ⟨0, 11⟩
def LAMP_CONC_CNT (d : Nat) : Nat := dieBase d + 0x1894
def LAMP_CONC_DROP (d : Nat) : Nat := dieBase d + 0x1898
def LAMP_DYN_IDX (d : Nat) : Nat := dieBase d + 0x189C
def LAMP_DYN_IDX.IDX : Fd := ⟨0, 10⟩
def LAMP_DYN_DATA (d : Nat) : Nat := dieBase d + 0x18A0
def LAMP_DYN_DATA.VALID : Fd := ⟨31, 1⟩
def LAMP_DYN_DATA.LAMP : Fd := ⟨29, 2⟩
def LAMP_DYN_DATA.X : Fd := ⟨14, 15⟩
def LAMP_DYN_DATA.Y : Fd := ⟨0, 14⟩
def LAMP_DYN_CLR (d : Nat) : Nat := dieBase d + 0x18A4
def LAMP_DYN_CLR.CLR : Fd := ⟨0, 1⟩
def LAMP_OUT_CTL (d : Nat) : Nat := dieBase d + 0x18C0
def LAMP_OUT_CTL.OD_SETS : Fd := ⟨28, 4⟩
def LAMP_OUT_CTL.DEF_SET : Fd := ⟨24, 4⟩
def LAMP_OUT_CTL.HYST : Fd := ⟨16, 8⟩
def LAMP_OUT_CTL.DITHER_P2 : Fd := ⟨1, 1⟩
def LAMP_OUT_CTL.OUT_BANK : Fd := ⟨0, 1⟩
def LAMP_OD_BAND (d m : Nat) : Nat := dieBase d + 0x18C4 + 4 * m
def LAMP_LG_KNEE (d : Nat) : Nat := dieBase d + 0x18D4
def LAMP_LG_KNEE.K2 : Fd := ⟨16, 5⟩
def LAMP_LG_KNEE.K1 : Fd := ⟨8, 5⟩
def LAMP_LG_KNEE.K0 : Fd := ⟨0, 5⟩
def LAMP_OUT_SRC_LO (d : Nat) : Nat := dieBase d + 0x18E0
def LAMP_OUT_SRC_LO.ADDR : Fd := ⟨8, 24⟩
def LAMP_OUT_SRC_HI (d : Nat) : Nat := dieBase d + 0x18E4
def LAMP_OUT_SRC_HI.ADDR : Fd := ⟨0, 8⟩
def LAMP_OUT_LOAD (d : Nat) : Nat := dieBase d + 0x18E8
def LAMP_OUT_LOAD.GO : Fd := ⟨0, 1⟩
def LAMP_OUT_STATUS (d : Nat) : Nat := dieBase d + 0x18EC
def LAMP_OUT_STATUS.LOAD_BUSY : Fd := ⟨31, 1⟩
def LAMP_OUT_STATUS.LOAD_BANK : Fd := ⟨30, 1⟩
def LAMP_OUT_STATUS.BANK1_OK : Fd := ⟨29, 1⟩
def LAMP_OUT_STATUS.BANK0_OK : Fd := ⟨28, 1⟩
def LAMP_OUT_STATUS.LOAD_REFUSED : Fd := ⟨1, 1⟩
def LAMP_OUT_STATUS.LOAD_ERR : Fd := ⟨0, 1⟩
def LAMP_OD_HIST_BASE0_LO (d : Nat) : Nat := dieBase d + 0x1900
def LAMP_OD_HIST_BASE0_LO.ADDR : Fd := ⟨8, 24⟩
def LAMP_OD_HIST_BASE0_HI (d : Nat) : Nat := dieBase d + 0x1904
def LAMP_OD_HIST_BASE0_HI.ADDR : Fd := ⟨0, 8⟩
def LAMP_OD_HIST_BASE1_LO (d : Nat) : Nat := dieBase d + 0x1908
def LAMP_OD_HIST_BASE1_LO.ADDR : Fd := ⟨8, 24⟩
def LAMP_OD_HIST_BASE1_HI (d : Nat) : Nat := dieBase d + 0x190C
def LAMP_OD_HIST_BASE1_HI.ADDR : Fd := ⟨0, 8⟩
def LAMP_OD_HIST_STRIDE (d : Nat) : Nat := dieBase d + 0x1910
def LAMP_OD_HIST_STRIDE.STRIDE : Fd := ⟨0, 24⟩
def LAMP_OD_BYPASS_CNT (d : Nat) : Nat := dieBase d + 0x1918
def LAMP_CLIP_CNT (d : Nat) : Nat := dieBase d + 0x191C
def LAMP_DITHER_CUBE (d m : Nat) : Nat := dieBase d + 0x1940 + 4 * m
def LAMP_SHED (d : Nat) : Nat := dieBase d + 0x1980
def LAMP_SHED.ITEMS : Fd := ⟨0, 5⟩

/-! ### STR_ (die window) -/
def STR_CTL (d n : Nat) : Nat := dieBase d + 0x4000 + 0x100 * n
def STR_CTL.RETRAIN : Fd := ⟨31, 1⟩
def STR_CTL.BLIND_EN : Fd := ⟨30, 1⟩
def STR_CTL.DOWN_POLICY : Fd := ⟨28, 2⟩
def STR_CTL.MAX_RATE : Fd := ⟨24, 4⟩
def STR_CTL.BACK_MAX : Fd := ⟨23, 1⟩
def STR_CTL.MIN_WIDTH : Fd := ⟨20, 2⟩
def STR_CTL.RETRIES : Fd := ⟨16, 4⟩
def STR_CTL.TIMEOUT : Fd := ⟨8, 8⟩
def STR_STATE (d n : Nat) : Nat := dieBase d + 0x4004 + 0x100 * n
def STR_STATE.STATE : Fd := ⟨28, 4⟩
def STR_STATE.BLIND : Fd := ⟨27, 1⟩
def STR_STATE.HOLDING : Fd := ⟨26, 1⟩
def STR_STATE.FAIL_STEP : Fd := ⟨20, 4⟩
def STR_STATE.FAIL_CAUSE : Fd := ⟨16, 4⟩
def STR_STATE.BACKOFF : Fd := ⟨12, 4⟩
def STR_STATE.ATTEMPT : Fd := ⟨7, 5⟩
def STR_TRAIN_STAT (d n : Nat) : Nat := dieBase d + 0x4008 + 0x100 * n
def STR_TRAIN_STAT.REV : Fd := ⟨31, 1⟩
def STR_TRAIN_STAT.FWD_INV : Fd := ⟨24, 4⟩
def STR_TRAIN_STAT.BACK_INV : Fd := ⟨20, 4⟩
def STR_TRAIN_STAT.LANES_SEEN : Fd := ⟨16, 4⟩
def STR_TRAIN_STAT.COMMON_FWD : Fd := ⟨12, 4⟩
def STR_TRAIN_STAT.COMMON_BACK : Fd := ⟨10, 2⟩
def STR_TRAIN_STAT.COMMON_WIDTH : Fd := ⟨6, 3⟩
def STR_TRAIN_STAT.MAX_SKEW : Fd := ⟨0, 6⟩
def STR_PRESET (d n : Nat) : Nat := dieBase d + 0x400C + 0x100 * n
def STR_PRESET.POST : Fd := ⟨4, 4⟩
def STR_PRESET.PRE : Fd := ⟨0, 3⟩
def STR_EVT (d n : Nat) : Nat := dieBase d + 0x4010 + 0x100 * n
def STR_EVT.UP : Fd := ⟨31, 1⟩
def STR_EVT.DOWN : Fd := ⟨30, 1⟩
def STR_EVT.NARROW : Fd := ⟨29, 1⟩
def STR_EVT.WAKE_REQ : Fd := ⟨28, 1⟩
def STR_EVT.FAULT_RESYNC : Fd := ⟨27, 1⟩
def STR_DOWN_CNT (d n : Nat) : Nat := dieBase d + 0x4014 + 0x100 * n
def STR_FAIL_CNT (d n : Nat) : Nat := dieBase d + 0x4018 + 0x100 * n
def STR_EQ (d n : Nat) : Nat := dieBase d + 0x4020 + 0x100 * n
def STR_EQ.FOM : Fd := ⟨24, 8⟩
def STR_EQ.STEPS : Fd := ⟨16, 8⟩
def STR_EQ.POST : Fd := ⟨12, 4⟩
def STR_EQ.PRE : Fd := ⟨8, 3⟩
def STR_EQ.DONE : Fd := ⟨0, 1⟩
def STR_ADAPT (d n : Nat) : Nat := dieBase d + 0x4024 + 0x100 * n
def STR_ADAPT.FROZEN : Fd := ⟨31, 1⟩
def STR_ADAPT.WINDOW : Fd := ⟨30, 1⟩
def STR_READAPT_DROP (d n : Nat) : Nat := dieBase d + 0x4028 + 0x100 * n
def STR_LINK (d n : Nat) : Nat := dieBase d + 0x4040 + 0x100 * n
def STR_LINK.RATE : Fd := ⟨28, 4⟩
def STR_LINK.BACK_RATE : Fd := ⟨27, 1⟩
def STR_LINK.WIDTH : Fd := ⟨25, 2⟩
def STR_LINK.ANY_L : Fd := ⟨24, 1⟩
def STR_LINK.ANY_H : Fd := ⟨23, 1⟩
def STR_LINK.PARTNERS : Fd := ⟨0, 10⟩
def STR_PERR (d n : Nat) : Nat := dieBase d + 0x4044 + 0x100 * n
def STR_PERR.PART_BLANK : Fd := ⟨9, 1⟩
def STR_PERR.PART_LOST : Fd := ⟨8, 1⟩
def STR_PERR.LATE_ROW : Fd := ⟨7, 1⟩
def STR_PERR.FAULT : Fd := ⟨6, 1⟩
def STR_PERR.TEMP_STALE : Fd := ⟨5, 1⟩
def STR_PERR.CMD_TO : Fd := ⟨4, 1⟩
def STR_PERR.ENUM_OVER : Fd := ⟨3, 1⟩
def STR_PERR.BAD_ADDR : Fd := ⟨2, 1⟩
def STR_PERR.BACK_TYPE : Fd := ⟨1, 1⟩
def STR_PERR.BACK_CRC : Fd := ⟨0, 1⟩
def STR_BACK_ERR_CNT (d n : Nat) : Nat := dieBase d + 0x4048 + 0x100 * n
def STR_KEEP_CNT (d n : Nat) : Nat := dieBase d + 0x404C + 0x100 * n
def STR_PCMD (d n : Nat) : Nat := dieBase d + 0x4050 + 0x100 * n
def STR_PCMD.GO : Fd := ⟨31, 1⟩
def STR_PCMD.OP : Fd := ⟨29, 2⟩
def STR_PCMD.ADDR : Fd := ⟨8, 10⟩
def STR_PCMD.REG : Fd := ⟨0, 8⟩
def STR_PCMD_WDATA (d n : Nat) : Nat := dieBase d + 0x4054 + 0x100 * n
def STR_PCMD_STAT (d n : Nat) : Nat := dieBase d + 0x4058 + 0x100 * n
def STR_PCMD_STAT.BUSY : Fd := ⟨31, 1⟩
def STR_PCMD_STAT.RESULT : Fd := ⟨28, 3⟩
def STR_PCMD_RDATA (d n : Nat) : Nat := dieBase d + 0x405C + 0x100 * n
def STR_PINFO_IDX (d n : Nat) : Nat := dieBase d + 0x4060 + 0x100 * n
def STR_PINFO_IDX.ADDR : Fd := ⟨0, 9⟩
def STR_PINFO0 (d n : Nat) : Nat := dieBase d + 0x4064 + 0x100 * n
def STR_PINFO0.VALID : Fd := ⟨31, 1⟩
def STR_PINFO0.CLASS : Fd := ⟨30, 1⟩
def STR_PINFO0.LAST : Fd := ⟨29, 1⟩
def STR_PINFO0.BACK_RELAY : Fd := ⟨12, 12⟩
def STR_PINFO0.FWD_RELAY : Fd := ⟨0, 12⟩
def STR_PINFO1 (d n : Nat) : Nat := dieBase d + 0x4068 + 0x100 * n
def STR_PINFO1.LAMPS : Fd := ⟨16, 16⟩
def STR_PINFO1.TURN : Fd := ⟨0, 16⟩
def STR_PINFO3 (d n : Nat) : Nat := dieBase d + 0x4070 + 0x100 * n
def STR_PINFO2 (d n : Nat) : Nat := dieBase d + 0x406C + 0x100 * n
def STR_PINFO2.TRIM : Fd := ⟨16, 16⟩
def STR_PINFO2.TEMP : Fd := ⟨8, 8⟩
def STR_PINFO2.FLAGS : Fd := ⟨0, 8⟩
def STR_SLEEP_CTL (d n : Nat) : Nat := dieBase d + 0x4080 + 0x100 * n
def STR_SLEEP_CTL.FAULT_RESYNC : Fd := ⟨6, 1⟩
def STR_SLEEP_CTL.WAKE_ACT : Fd := ⟨5, 1⟩
def STR_SLEEP_CTL.AUX : Fd := ⟨4, 1⟩
def STR_SLEEP_CTL.BACK : Fd := ⟨2, 2⟩
def STR_SLEEP_CTL.FWD : Fd := ⟨0, 2⟩
def STR_SLEEP_STAT (d n : Nat) : Nat := dieBase d + 0x4084 + 0x100 * n
def STR_SLEEP_STAT.DROPPING : Fd := ⟨31, 1⟩
def STR_SLEEP_STAT.BUSY : Fd := ⟨30, 1⟩
def STR_SLEEP_STAT.BACK : Fd := ⟨2, 2⟩
def STR_SLEEP_STAT.FWD : Fd := ⟨0, 2⟩
def STR_PRBS_CTL (d n : Nat) : Nat := dieBase d + 0x4090 + 0x100 * n
def STR_PRBS_CTL.GO : Fd := ⟨31, 1⟩
def STR_PRBS_CTL.PATTERN : Fd := ⟨28, 3⟩
def STR_PRBS_CTL.PATH : Fd := ⟨26, 2⟩
def STR_PRBS_CTL.ADDR : Fd := ⟨16, 10⟩
def STR_PRBS_TIME (d n : Nat) : Nat := dieBase d + 0x4094 + 0x100 * n
def STR_PRBS_TIME.US : Fd := ⟨0, 24⟩
def STR_PRBS_INJ (d n : Nat) : Nat := dieBase d + 0x4098 + 0x100 * n
def STR_PRBS_INJ.MODE : Fd := ⟨30, 2⟩
def STR_PRBS_INJ.BURST : Fd := ⟨16, 8⟩
def STR_PRBS_INJ.N : Fd := ⟨0, 5⟩
def STR_PRBS_STAT (d n : Nat) : Nat := dieBase d + 0x409C + 0x100 * n
def STR_PRBS_STAT.BUSY : Fd := ⟨31, 1⟩
def STR_PRBS_STAT.LOCK : Fd := ⟨30, 1⟩
def STR_PRBS_STAT.LOCK_LOST : Fd := ⟨29, 1⟩
def STR_PRBS_STAT.REFUSED : Fd := ⟨28, 1⟩
def STR_PRBS_STAT.PARTNER_ERR : Fd := ⟨27, 1⟩
def STR_PRBS_ERR (d n : Nat) : Nat := dieBase d + 0x40A0 + 0x100 * n
def STR_PRBS_BITS_LO (d n : Nat) : Nat := dieBase d + 0x40A8 + 0x100 * n
def STR_PRBS_BITS_HI (d n : Nat) : Nat := dieBase d + 0x40AC + 0x100 * n
def STR_TIMING (d n : Nat) : Nat := dieBase d + 0x40C0 + 0x100 * n
def STR_TIMING.JUMP : Fd := ⟨31, 1⟩
def STR_TIMING.VALID : Fd := ⟨30, 1⟩
def STR_TIMING.FDMAX : Fd := ⟨0, 16⟩
def STR_UNDERRUN_CNT (d n : Nat) : Nat := dieBase d + 0x40D0 + 0x100 * n
def STR_UNDERRUN_LAST (d n : Nat) : Nat := dieBase d + 0x40D4 + 0x100 * n
def STR_UNDERRUN_LAST.SEG : Fd := ⟨16, 16⟩
def STR_UNDERRUN_LAST.FRAME : Fd := ⟨0, 16⟩
def STR_SEGS (d n : Nat) : Nat := dieBase d + 0x40D8 + 0x100 * n
def STR_SEGS.SEGS : Fd := ⟨0, 16⟩
def STR_PKT_CNT (d n : Nat) : Nat := dieBase d + 0x40DC + 0x100 * n
def STR_ROW_CNT (d n : Nat) : Nat := dieBase d + 0x40E0 + 0x100 * n

/-! ### SCAN_ (die window) -/
def SCAN_EVT (d : Nat) : Nat := dieBase d + 0x5000
def SCAN_EVT.VB_START : Fd := ⟨6, 1⟩
def SCAN_EVT.FRAME_DONE : Fd := ⟨1, 1⟩
def SCAN_EVT.UNDERRUN : Fd := ⟨0, 1⟩
def SCAN_EVT.LM : Fd := ⟨2, 4⟩
def SCAN_LM (d k : Nat) : Nat := dieBase d + 0x5010 + 4 * k
def SCAN_LM.EN : Fd := ⟨31, 1⟩
def SCAN_LM.LINE : Fd := ⟨0, 16⟩
def SCAN_DONE_FRAME_LO (d : Nat) : Nat := dieBase d + 0x5020
def SCAN_DONE_FRAME_HI (d : Nat) : Nat := dieBase d + 0x5024
def SCAN_DONE_FRAME_HI.EMPTY : Fd := ⟨31, 1⟩
def SCAN_DONE_FRAME_HI.FRAME : Fd := ⟨0, 16⟩
def SCAN_DONE_TICK (d : Nat) : Nat := dieBase d + 0x5028
def SCAN_UNDERRUN_CNT (d : Nat) : Nat := dieBase d + 0x5030
def SCAN_UNDERRUN_LAST (d : Nat) : Nat := dieBase d + 0x5034
def SCAN_UNDERRUN_LAST.SEG : Fd := ⟨16, 16⟩
def SCAN_UNDERRUN_LAST.CLASS : Fd := ⟨7, 1⟩
def SCAN_UNDERRUN_LAST.STRAND : Fd := ⟨0, 7⟩
def SCAN_GROUP_EN (d : Nat) : Nat := dieBase d + 0x5040
def SCAN_MAP_INFO (d : Nat) : Nat := dieBase d + 0x5044
def SCAN_MAP_INFO.SEGS : Fd := ⟨0, 16⟩

/-! ### PCK_ (die window) -/
def PCK_POS (d k : Nat) : Nat := dieBase d + 0x5400 + 0x20 * k
def PCK_POS.Y : Fd := ⟨16, 16⟩
def PCK_POS.X : Fd := ⟨0, 16⟩
def PCK_SIZE (d k : Nat) : Nat := dieBase d + 0x5404 + 0x20 * k
def PCK_SIZE.H : Fd := ⟨16, 16⟩
def PCK_SIZE.W : Fd := ⟨0, 16⟩
def PCK_CTL (d k : Nat) : Nat := dieBase d + 0x5408 + 0x20 * k
def PCK_CTL.CMP_EN : Fd := ⟨31, 1⟩
def PCK_CTL.STAGE : Fd := ⟨0, 2⟩
def PCK_EXP (d k : Nat) : Nat := dieBase d + 0x540C + 0x20 * k
def PCK_RES (d k : Nat) : Nat := dieBase d + 0x5410 + 0x20 * k
def PCK_FRAME (d k : Nat) : Nat := dieBase d + 0x5414 + 0x20 * k
def PCK_STATUS (d : Nat) : Nat := dieBase d + 0x5600
def PCK_STATUS.INCOMPLETE : Fd := ⟨16, 16⟩
def PCK_STATUS.MISMATCH : Fd := ⟨0, 16⟩
def PCK_MISM_CNT (d : Nat) : Nat := dieBase d + 0x5604
def PCK_INCOMPLETE_CNT (d : Nat) : Nat := dieBase d + 0x5608

/-! ### MEM_ (die window) -/
def MEM_SIZE (d : Nat) : Nat := dieBase d + 0x5800
def MEM_SIZE.MT_S : Fd := ⟨16, 16⟩
def MEM_SIZE.CH_OK : Fd := ⟨8, 8⟩
def MEM_SIZE.GIB : Fd := ⟨0, 8⟩
def MEM_PROT_BASE (d k : Nat) : Nat := dieBase d + 0x5810 + 8 * k
def MEM_PROT_BASE.EN : Fd := ⟨31, 1⟩
def MEM_PROT_BASE.INIT : Fd := ⟨30, 1⟩
def MEM_PROT_BASE.BASE : Fd := ⟨0, 16⟩
def MEM_PROT_LEN (d k : Nat) : Nat := dieBase d + 0x5814 + 8 * k
def MEM_PROT_LEN.LEN : Fd := ⟨0, 13⟩
def MEM_INFLIGHT (d : Nat) : Nat := dieBase d + 0x5860
def MEM_INFLIGHT.READS : Fd := ⟨16, 9⟩
def MEM_INFLIGHT.WRITES : Fd := ⟨0, 7⟩
def MEM_STATUS (d : Nat) : Nat := dieBase d + 0x5864
def MEM_STATUS.PROT_BAD : Fd := ⟨2, 1⟩
def MEM_STATUS.CHK_ACCESS : Fd := ⟨1, 1⟩
def MEM_STATUS.ADDR_ERR : Fd := ⟨0, 1⟩
def MEM_ADDR_ERR_CNT (d : Nat) : Nat := dieBase d + 0x5868
def MEM_ADDR_ERR_ADDR_LO (d : Nat) : Nat := dieBase d + 0x586C
def MEM_ADDR_ERR_ADDR_HI (d : Nat) : Nat := dieBase d + 0x5870
def MEM_ADDR_ERR_ADDR_HI.V : Fd := ⟨0, 8⟩

/-! ### ECC_ (die window) -/
def ECC_STATUS (d : Nat) : Nat := dieBase d + 0x5C00
def ECC_STATUS.SAVE_ERR : Fd := ⟨5, 1⟩
def ECC_STATUS.WHIP_UNREP : Fd := ⟨4, 1⟩
def ECC_STATUS.SCRUB_STARVED : Fd := ⟨3, 1⟩
def ECC_STATUS.UE_BG : Fd := ⟨2, 1⟩
def ECC_STATUS.UE : Fd := ⟨1, 1⟩
def ECC_STATUS.CE : Fd := ⟨0, 1⟩
def ECC_CE_CNT (d : Nat) : Nat := dieBase d + 0x5C04
def ECC_UE_CNT (d : Nat) : Nat := dieBase d + 0x5C08
def ECC_UE_BG_CNT (d : Nat) : Nat := dieBase d + 0x5C0C
def ECC_REFUSED_CNT (d : Nat) : Nat := dieBase d + 0x5C10
def ECC_CE_LAST_LO (d : Nat) : Nat := dieBase d + 0x5C20
def ECC_CE_LAST_HI (d : Nat) : Nat := dieBase d + 0x5C24
def ECC_CE_LAST_HI.MEMID : Fd := ⟨28, 4⟩
def ECC_CE_LAST_HI.SYND : Fd := ⟨20, 8⟩
def ECC_CE_LAST_HI.POISON : Fd := ⟨19, 1⟩
def ECC_CE_LAST_HI.CLASS : Fd := ⟨16, 3⟩
def ECC_CE_LAST_HI.ADDR : Fd := ⟨0, 8⟩
def ECC_UE_LAST_LO (d : Nat) : Nat := dieBase d + 0x5C28
def ECC_UE_LAST_HI (d : Nat) : Nat := dieBase d + 0x5C2C
def ECC_UE_LAST_HI.MEMID : Fd := ⟨28, 4⟩
def ECC_UE_LAST_HI.SYND : Fd := ⟨20, 8⟩
def ECC_UE_LAST_HI.POISON : Fd := ⟨19, 1⟩
def ECC_UE_LAST_HI.CLASS : Fd := ⟨16, 3⟩
def ECC_UE_LAST_HI.ADDR : Fd := ⟨0, 8⟩
def ECC_UE_BG_LAST_LO (d : Nat) : Nat := dieBase d + 0x5C30
def ECC_UE_BG_LAST_HI (d : Nat) : Nat := dieBase d + 0x5C34
def ECC_UE_BG_LAST_HI.MEMID : Fd := ⟨28, 4⟩
def ECC_UE_BG_LAST_HI.SYND : Fd := ⟨20, 8⟩
def ECC_UE_BG_LAST_HI.POISON : Fd := ⟨19, 1⟩
def ECC_UE_BG_LAST_HI.CLASS : Fd := ⟨16, 3⟩
def ECC_UE_BG_LAST_HI.ADDR : Fd := ⟨0, 8⟩
def ECC_SCRUB_CTL (d : Nat) : Nat := dieBase d + 0x5C40
def ECC_SCRUB_CTL.EN : Fd := ⟨31, 1⟩
def ECC_SCRUB_CTL.RATE : Fd := ⟨0, 16⟩
def ECC_SCRUB_LAP_MS (d : Nat) : Nat := dieBase d + 0x5C44
def ECC_WHIP_CTL (d : Nat) : Nat := dieBase d + 0x5C50
def ECC_WHIP_CTL.EN : Fd := ⟨31, 1⟩
def ECC_WHIP_CTL.SAVE : Fd := ⟨30, 1⟩
def ECC_WHIP_CTL.INTERVAL : Fd := ⟨0, 16⟩
def ECC_WHIP_STAT (d : Nat) : Nat := dieBase d + 0x5C54
def ECC_WHIP_STAT.LAPS : Fd := ⟨16, 16⟩
def ECC_WHIP_STAT.UNREP : Fd := ⟨8, 8⟩
def ECC_WHIP_STAT.REPAIRS : Fd := ⟨0, 6⟩
def ECC_REPAIR_IDX (d : Nat) : Nat := dieBase d + 0x5C58
def ECC_REPAIR_IDX.IDX : Fd := ⟨0, 5⟩
def ECC_REPAIR_DATA0 (d : Nat) : Nat := dieBase d + 0x5C5C
def ECC_REPAIR_DATA1 (d : Nat) : Nat := dieBase d + 0x5C60

/-! ### CAL_ (die window) -/
def CAL_TEMP (d m : Nat) : Nat := dieBase d + 0x6000 + 4 * m
def CAL_TEMP.T_ODD : Fd := ⟨16, 16⟩
def CAL_TEMP.T_EVEN : Fd := ⟨0, 16⟩
def CAL_SUPPLY (d : Nat) : Nat := dieBase d + 0x6020
def CAL_SUPPLY.VCORE : Fd := ⟨16, 16⟩
def CAL_SUPPLY.VREF : Fd := ⟨0, 16⟩
def CAL_PACE_CTL (d : Nat) : Nat := dieBase d + 0x6030
def CAL_PACE_CTL.EN : Fd := ⟨31, 1⟩
def CAL_PACE_CTL.RAISE : Fd := ⟨24, 4⟩
def CAL_PACE_CTL.HIGH : Fd := ⟨16, 8⟩
def CAL_PACE_CTL.SETTLE : Fd := ⟨8, 8⟩
def CAL_PACE_CTL.LOW : Fd := ⟨0, 8⟩
def CAL_PACE_STAT (d : Nat) : Nat := dieBase d + 0x6034
def CAL_PACE_STAT.AVS_ERR : Fd := ⟨31, 1⟩
def CAL_PACE_STAT.VCODE : Fd := ⟨24, 5⟩
def CAL_PACE_STAT.REQ : Fd := ⟨20, 3⟩
def CAL_PACE_STAT.MARGIN : Fd := ⟨0, 16⟩
def CAL_PACE_P (d : Nat) : Nat := dieBase d + 0x6038
def CAL_PACE_P.WORK : Fd := ⟨16, 16⟩
def CAL_PACE_P.P : Fd := ⟨0, 16⟩
def CAL_PACE_MIN (d : Nat) : Nat := dieBase d + 0x603C
def CAL_PACE_MIN.MARGIN : Fd := ⟨0, 16⟩
def CAL_TRIM_IDX (d : Nat) : Nat := dieBase d + 0x6040
def CAL_TRIM_IDX.IDX : Fd := ⟨0, 6⟩
def CAL_TRIM_DATA (d : Nat) : Nat := dieBase d + 0x6044

/-! ### PWR_ (die window) -/
def PWR_DIE_CTL (d : Nat) : Nat := dieBase d + 0x6400
def PWR_DIE_CTL.LIMIT : Fd := ⟨0, 2⟩
def PWR_DIE_STAT (d : Nat) : Nat := dieBase d + 0x6404
def PWR_DIE_STAT.REGION : Fd := ⟨16, 3⟩
def PWR_DIE_STAT.BLOCKS : Fd := ⟨0, 16⟩
def PWR_RES_QUIET (d : Nat) : Nat := dieBase d + 0x6408
def PWR_RES_NAP (d : Nat) : Nat := dieBase d + 0x640C
def PWR_RES_DEEP (d : Nat) : Nat := dieBase d + 0x6410
def PWR_DEMAND_CNT (d : Nat) : Nat := dieBase d + 0x6414

end Sys2Proof.Machine
end

