-- ==== Sys2Proof/Machine/Map.lean ====
section
/-! DEFINITION. Sparse tables: what is listed for a key, else a default given by a function. A table has one canonical form (keys
strictly rising, no entry equal to the default), so equal tables are equal lists. Memory, the register file, the banks and the
engines' scratchpads are tables. -/
namespace Sys2Proof.Machine

/-- A sparse table from numbers to `β`. -/
abbrev AMap (β : Type) := List (Nat × β)

namespace AMap
variable {β : Type}

/-- What the table holds at `k`: the listed value, else the default. -/
def get (dflt : Nat → β) : AMap β → Nat → β
  | [], k => dflt k
  | (j, v) :: t, k => if k = j then v else get dflt t k

/-- The table with every entry of `k` taken out. -/
def erase : AMap β → Nat → AMap β
  | [], _ => []
  | (j, v) :: t, k => if k = j then erase t k else (j, v) :: erase t k

/-- The table with `v` listed for `k`, in its place in the order. -/
def insert : AMap β → Nat → β → AMap β
  | [], k, v => [(k, v)]
  | (j, u) :: t, k, v => if k < j then (k, v) :: (j, u) :: t else if k = j then (k, v) :: t else (j, u) :: insert t k v

/-- Write `v` at `k`: an entry equal to the default is not listed. -/
def set [DecidableEq β] (dflt : Nat → β) (m : AMap β) (k : Nat) (v : β) : AMap β :=
  if v = dflt k then erase m k else insert m k v

/-- What the table holds at `k`, where every unlisted key holds `b`. -/
def look (m : AMap β) (b : β) (k : Nat) : β := m.get (fun _ => b) k

/-- Write `v` at `k` in a table whose unlisted keys hold `b`. -/
def put [DecidableEq β] (m : AMap β) (b : β) (k : Nat) (v : β) : AMap β := m.set (fun _ => b) k v

/-- The canonical form: keys strictly rising from `lo`, no entry equal to its default. -/
def wfFrom [DecidableEq β] (dflt : Nat → β) : Nat → AMap β → Bool
  | _, [] => true
  | lo, (j, v) :: t => decide (lo ≤ j) && decide (v ≠ dflt j) && wfFrom dflt (j + 1) t

/-- The canonical form. -/
def wf [DecidableEq β] (dflt : Nat → β) (m : AMap β) : Bool := wfFrom dflt 0 m

end AMap

end Sys2Proof.Machine
end

