-- ==== Sys2Proof/Machine/RegTable.lean ====
section
/-! DEFINITION. The register table: for every register of the index spec/21_register_index.md (R494) its offset, the strides of
its family, the bits of each access class (R17) and the value it reads after RESET_L. -/
namespace Sys2Proof.Machine

/-- One row of the register index: offset in its window, two family dimensions (count, stride), the bits of the classes RW,
RWS, W1C, WO, RC and RO, and the reset value. -/
structure RegDesc where
  off : Nat
  n1 : Nat
  s1 : Nat
  n2 : Nat
  s2 : Nat
  rw : Nat
  rws : Nat
  w1c : Nat
  wo : Nat
  rc : Nat
  ro : Nat
  reset : Nat
deriving DecidableEq, Repr

/-- The row names the register at window offset `o`. -/
def RegDesc.hits (r : RegDesc) (o : Nat) : Bool :=
  r.off ≤ o &&
    (let x := o - r.off
     let i := x / r.s1
     let y := x - i * r.s1
     let k := y / r.s2
     i < r.n1 && k < r.n2 && y = k * r.s2)

/-- The CHIP_ block of the chip window. -/
def rows_chip_CHIP : List RegDesc :=
  [ ⟨0, 1, 0, 1, 0, 0, 0, 0, 0, 0, 0xFFFFFFFF, 0x1A5BB000⟩,
    ⟨4, 1, 0, 1, 0, 0, 0, 0, 0, 0, 0xFF00FF, 0⟩,
    ⟨0x10, 1, 0, 1, 0, 0, 0, 0, 0, 0, 0x80FF0F0F, 0⟩,
    ⟨0x14, 1, 0, 1, 0, 0xF, 0, 0, 0, 0, 0xC0000000, 3⟩,
    ⟨0x18, 1, 0, 1, 0, 0xFFFF0007, 0, 0, 0, 0, 0, 0x2580001⟩,
    ⟨0x40, 1, 0, 1, 0, 0, 0, 0, 0, 0, 0xFFFFFFFF, 0xFF00⟩,
    ⟨0x44, 1, 0, 1, 0, 0xC, 0, 0, 1, 0, 0, 0⟩,
    ⟨0x48, 1, 0, 1, 0, 0, 0, 0, 0, 0, 0xFFFFFFFF, 0⟩,
    ⟨0x50, 1, 0, 1, 0, 0xFFFFF000, 0, 0, 0, 0, 0, 0⟩,
    ⟨0x54, 1, 0, 1, 0, 0xFF, 0, 0, 0, 0, 0, 0⟩,
    ⟨0x58, 1, 0, 1, 0, 0x7FFFFFF, 0, 0, 0, 0, 0, 0⟩,
    ⟨0x60, 8, 4, 1, 0, 0, 0, 0, 0, 0, 0xFFFFFFFF, 0⟩,
    ⟨0x80, 1, 0, 1, 0, 0, 0xFFFFFFFF, 0, 0, 0, 0, 0⟩,
    ⟨0x84, 1, 0, 1, 0, 0, 0xFFFF, 0, 0, 0, 0, 0⟩,
    ⟨0x88, 1, 0, 1, 0, 0, 1, 0, 0, 0, 0, 1⟩,
    ⟨0x90, 1, 0, 1, 0, 0, 0, 0, 3, 0, 0xC0000000, 0⟩,
    ⟨0x94, 1, 0, 1, 0, 0, 0, 0, 0, 0, 0xFFFFFFFF, 0⟩,
    ⟨0x98, 1, 0, 1, 0, 0, 0, 0, 0, 0, 0xFFFF, 0⟩ ]

/-- The TB_ block of the chip window. -/
def rows_chip_TB : List RegDesc :=
  [ ⟨0x400, 1, 0, 1, 0, 0, 0xFFFF000F, 0, 0, 0, 0, 0x10000000⟩,
    ⟨0x404, 1, 0, 1, 0, 0, 0, 0xE00, 0, 0, 0x177, 0⟩,
    ⟨0x408, 1, 0, 1, 0, 0, 0, 0, 0, 0, 0xFFFFFFFF, 0⟩,
    ⟨0x40C, 1, 0, 1, 0, 0, 0, 0, 0, 0, 0xFFFF, 0⟩,
    ⟨0x410, 1, 0, 1, 0, 0, 0xFFFFFFFF, 0, 0, 0, 0, 0x2005C97⟩,
    ⟨0x414, 1, 0, 1, 0, 0, 0xFFFFF, 0, 0, 0, 0, 0x60⟩,
    ⟨0x418, 1, 0, 1, 0, 0, 0xFFFFF, 0, 0, 0, 0, 0x5C58⟩,
    ⟨0x41C, 1, 0, 1, 0, 0, 0xFFFF, 0, 0, 0, 0, 0x465⟩,
    ⟨0x420, 1, 0, 1, 0, 0, 0xFFFFFFFF, 0, 0, 0, 0, 0x5043C⟩,
    ⟨0x424, 1, 0, 1, 0, 0, 0xFFFFF, 0, 0, 0, 0, 0x317⟩,
    ⟨0x428, 1, 0, 1, 0, 0, 0xFFFF, 0, 0, 0, 0, 0x302⟩,
    ⟨0x42C, 1, 0, 1, 0, 0, 0xFFFFFFFF, 0, 0, 0, 0, 0x3E800000⟩,
    ⟨0x430, 1, 0, 1, 0, 0, 0xFFFFFF, 0, 0, 0, 0, 0⟩,
    ⟨0x434, 1, 0, 1, 0, 0, 0xFFFFFF, 0, 0, 0, 0, 0⟩,
    ⟨0x438, 1, 0, 1, 0, 0, 0, 0, 0, 0, 0xFFFFFF, 0⟩,
    ⟨0x43C, 1, 0, 1, 0, 0xFFFF, 0, 0, 0, 0, 0, 0x40⟩ ]

/-- The KNOT_ block of the chip window. -/
def rows_chip_KNOT : List RegDesc :=
  [ ⟨0x800, 1, 0, 1, 0, 0, 0, 0, 3, 0, 0, 0⟩,
    ⟨0x804, 1, 0, 1, 0, 0, 0xFFFF, 0, 0, 0, 0, 0⟩,
    ⟨0x808, 1, 0, 1, 0, 0, 0, 0x30000, 0, 0, 0xF00C007F, 0⟩,
    ⟨0x80C, 1, 0, 1, 0, 0, 0, 0, 0, 0, 0xFFFFFFFF, 0⟩,
    ⟨0x810, 1, 0, 1, 0, 0, 0, 0, 0, 0, 0xFFFFFFFF, 0⟩,
    ⟨0x814, 1, 0, 1, 0, 0, 0, 0, 0, 0, 0xFFFF, 0⟩,
    ⟨0x818, 1, 0, 1, 0, 0, 0, 0, 0, 0, 0xFFFFFFFF, 0⟩,
    ⟨0x81C, 1, 0, 1, 0, 0x7F, 0, 0, 0, 0, 0, 0⟩,
    ⟨0x820, 1, 0, 1, 0, 0, 0, 0, 0, 0xFFFFFFFF, 0, 0⟩,
    ⟨0x824, 1, 0, 1, 0, 0, 0, 0, 0, 0, 0xF00FFFFF, 0⟩,
    ⟨0x828, 1, 0, 1, 0, 0xFFFFC, 0, 0, 0, 0, 0, 0⟩,
    ⟨0x82C, 1, 0, 1, 0, 0, 0, 0, 0, 0, 0xFFFFFFFF, 0⟩,
    ⟨0x830, 1, 0, 1, 0, 0, 0, 0, 0, 0, 0xFFFFFFFF, 0⟩,
    ⟨0x834, 1, 0, 1, 0, 0, 0, 0, 0, 0, 0xFFFF, 0⟩ ]

/-- The HOST_ block of the chip window. -/
def rows_chip_HOST : List RegDesc :=
  [ ⟨0xC00, 1, 0, 1, 0, 0xC0000000, 0, 0, 0, 0, 0, 0⟩,
    ⟨0xC04, 1, 0, 1, 0, 0xFF, 0, 0, 0, 0, 0, 0⟩,
    ⟨0xC10, 1, 0, 1, 0, 0, 0, 0x7FFFFFF, 0, 0, 0, 0⟩,
    ⟨0xC14, 1, 0, 1, 0, 0x7FFFFFF, 0, 0, 0, 0, 0, 0⟩,
    ⟨0xC18, 1, 0, 1, 0, 0, 0, 0xFF, 0, 0, 0, 0⟩,
    ⟨0xC1C, 1, 0, 1, 0, 0xFF, 0, 0, 0, 0, 0, 0⟩,
    ⟨0xC20, 1, 0, 1, 0, 0, 0, 0x7FFFFFF, 0, 0, 0, 0⟩,
    ⟨0xC24, 1, 0, 1, 0, 0x7FFFFFF, 0, 0, 0, 0, 0, 0⟩,
    ⟨0xC30, 1, 0, 1, 0, 0, 0, 0, 0, 0, 0xF00FFFFF, 0⟩,
    ⟨0xC34, 1, 0, 1, 0, 0, 0, 0, 0, 0xFFFFFFFF, 0, 0⟩,
    ⟨0xC40, 1, 0, 1, 0, 0, 0, 0, 0, 0, 0xFF, 0⟩ ]

/-- The ERR_ block of the chip window. -/
def rows_chip_ERR : List RegDesc :=
  [ ⟨0x1000, 1, 0, 1, 0, 0, 0, 0x80FFFF1F, 0, 0, 0, 0⟩,
    ⟨0x1004, 1, 0, 1, 0, 0, 0, 0, 0, 0, 0xF0000000, 0⟩,
    ⟨0x1010, 8, 4, 1, 0, 0, 0, 0, 0, 0, 0xF0000000, 0⟩,
    ⟨0x1040, 8, 4, 1, 0, 0, 0, 0, 0, 0, 0x1FF, 0⟩ ]

/-- The PWR_ block of the chip window. -/
def rows_chip_PWR : List RegDesc :=
  [ ⟨0x1400, 1, 0, 1, 0, 0xF0000000, 0, 0, 0, 0, 0, 0xF0000000⟩,
    ⟨0x1404, 1, 0, 1, 0, 3, 0, 0, 0, 0, 0, 0⟩,
    ⟨0x1408, 1, 0, 1, 0, 0xFFFFFF, 0, 0, 0, 0, 0, 0⟩,
    ⟨0x140C, 1, 0, 1, 0, 0, 0, 0, 1, 0, 0, 0⟩,
    ⟨0x1410, 1, 0, 1, 0, 0, 0, 0, 0, 0, 0xE0FFFFFF, 0⟩ ]

/-- The NVM_ block of the chip window. -/
def rows_chip_NVM : List RegDesc :=
  [ ⟨0x1800, 2, 0x40, 1, 0, 0xF000000, 0, 0, 0x80000000, 0, 0, 0⟩,
    ⟨0x1804, 2, 0x40, 1, 0, 0xFFFFFFFF, 0, 0, 0, 0, 0, 0⟩,
    ⟨0x1808, 2, 0x40, 1, 0, 0xFFF, 0, 0, 0, 0, 0, 0⟩,
    ⟨0x180C, 2, 0x40, 1, 0, 0x3FF, 0, 0, 0, 0, 0, 0⟩,
    ⟨0x1810, 2, 0x40, 1, 0, 0xFFFFFFFF, 0, 0, 0, 0, 0, 0⟩,
    ⟨0x1814, 2, 0x40, 1, 0, 0, 0, 0, 0, 0, 0x8000000F, 0⟩,
    ⟨0x1818, 2, 0x40, 1, 0, 0, 0, 0, 0, 0, 0xFFFFFFFF, 0⟩,
    ⟨0x181C, 2, 0x40, 1, 0, 0xFFFFFFFF, 0, 0, 0, 0, 0, 0⟩,
    ⟨0x1820, 2, 0x40, 1, 0, 0xFFFFFFFF, 0, 0, 0, 0, 0, 0⟩,
    ⟨0x1880, 1, 0, 1, 0, 0, 0, 0xF, 0, 0, 0xC0000000, 0⟩,
    ⟨0x1884, 1, 0, 1, 0, 3, 0, 0, 0, 0, 0, 0⟩,
    ⟨0x1888, 1, 0, 1, 0, 1, 0, 0, 0, 0, 0, 0⟩,
    ⟨0x188C, 1, 0, 1, 0, 0, 0, 0, 0, 0, 0xFFFFFFFF, 0⟩,
    ⟨0x1890, 4, 4, 1, 0, 0, 0, 0, 0, 0, 0xFF0FFFFF, 0⟩,
    ⟨0x18A0, 1, 0, 1, 0, 0, 0, 0, 0, 0, 0xFF01FFFF, 0⟩,
    ⟨0x18A4, 1, 0, 1, 0, 0, 0, 0, 0, 0xFFFFFFFF, 0, 0⟩,
    ⟨0x18A8, 1, 0, 1, 0, 0, 0, 0, 0, 0, 0xFFFFFFFF, 0⟩ ]

/-- The CAL_ block of the chip window. -/
def rows_chip_CAL : List RegDesc :=
  [ ⟨0x1C00, 1, 0, 1, 0, 0xC000007F, 0, 0, 0, 0, 0, 0x7F⟩,
    ⟨0x1C04, 1, 0, 1, 0, 0, 0, 0x78000000, 0, 0, 0x80FF007F, 0⟩,
    ⟨0x1C08, 1, 0, 1, 0, 0, 0, 0xF, 0, 0, 0, 0⟩,
    ⟨0x1C0C, 1, 0, 1, 0, 0xFF00FF, 0, 0, 0, 0, 0, 0x5005F⟩,
    ⟨0x1C10, 1, 0, 1, 0, 0, 0, 0, 0, 0, 0x7FFFF, 0⟩,
    ⟨0x1C14, 1, 0, 1, 0, 0, 0, 0, 0, 0, 7, 0⟩,
    ⟨0x1C18, 1, 0, 1, 0, 0, 0, 0, 0, 0xFFFFFFFF, 0, 0⟩ ]

/-- The COIL_ block of the chip window. -/
def rows_chip_COIL : List RegDesc :=
  [ ⟨0x2000, 1, 0, 1, 0, 0, 0xC000FF3F, 0, 0, 0, 0, 4⟩,
    ⟨0x2004, 1, 0, 1, 0, 0, 0xFFFFFFFF, 0, 0, 0, 0, 0⟩,
    ⟨0x2008, 1, 0, 1, 0, 0, 0xFFFF, 0, 0, 0, 0, 0⟩,
    ⟨0x2010, 1, 0, 1, 0, 0, 0xFFFFFF00, 0, 0, 0, 0, 0⟩,
    ⟨0x2014, 1, 0, 1, 0, 0, 0xFF, 0, 0, 0, 0, 0⟩,
    ⟨0x2018, 1, 0, 1, 0, 0, 0x3F, 0, 0, 0, 0, 0⟩,
    ⟨0x201C, 1, 0, 1, 0, 0, 0xFFFFFF, 0, 0, 0, 0, 0⟩,
    ⟨0x2020, 1, 0, 1, 0, 0, 0, 0, 0, 0, 0xFEFFF03F, 0⟩,
    ⟨0x2024, 1, 0, 1, 0, 0, 0, 0, 0, 0, 0xFFFFFFFF, 0⟩,
    ⟨0x2028, 1, 0, 1, 0, 0, 0, 0, 0, 0, 0xFFFF, 0⟩,
    ⟨0x202C, 1, 0, 1, 0, 0, 0, 0, 0, 0, 0xFFFFFFFF, 0xFFFFFFFF⟩,
    ⟨0x2030, 1, 0, 1, 0, 0, 0, 0xFF, 0, 0, 0, 0⟩,
    ⟨0x2034, 1, 0, 1, 0, 0, 0, 0, 0, 0xFFFFFFFF, 0, 0⟩,
    ⟨0x2038, 1, 0, 1, 0, 0, 0, 0, 0, 0xFFFFFFFF, 0, 0⟩,
    ⟨0x2040, 2, 8, 1, 0, 0, 0, 0, 0, 0, 0xE000FFFF, 0⟩,
    ⟨0x2044, 2, 8, 1, 0, 0, 0, 0, 0, 0, 0xFFFFFFFF, 0⟩ ]

/-- The CMP_ block of the chip window. -/
def rows_chip_CMP : List RegDesc :=
  [ ⟨0x2400, 1, 0, 1, 0, 0, 0, 0, 0, 0, 0xFF, 0⟩,
    ⟨0x2404, 1, 0, 1, 0, 0, 0, 0, 0, 0xFFFFFFFF, 0, 0⟩,
    ⟨0x2408, 1, 0, 1, 0, 0, 0, 0, 0, 0xFFFFFFFF, 0, 0⟩,
    ⟨0x240C, 1, 0, 1, 0, 0, 0, 0, 0, 0xFFFFFFFF, 0, 0⟩,
    ⟨0x2410, 1, 0, 1, 0, 0, 0, 0, 0, 0xFFFFFFFF, 0, 0⟩,
    ⟨0x2418, 1, 0, 1, 0, 0, 0, 0, 0, 0, 0xFFFFFFFF, 0⟩,
    ⟨0x241C, 1, 0, 1, 0, 0, 0, 0, 0, 0, 0xFFFFFFFF, 0⟩,
    ⟨0x2420, 1, 0, 1, 0, 0, 0, 0, 0, 0, 0xFFFFFFFF, 0⟩,
    ⟨0x2424, 1, 0, 1, 0, 0, 0, 0, 0, 0, 0xFFFFFFFF, 0⟩ ]

/-- The BLY_ block of the chip window. -/
def rows_chip_BLY : List RegDesc :=
  [ ⟨0x2800, 1, 0, 1, 0, 1, 0, 0, 0, 0, 0, 0⟩,
    ⟨0x2804, 1, 0, 1, 0, 0, 0, 0, 0, 0, 0x80FFFF00, 0⟩,
    ⟨0x2808, 1, 0, 1, 0, 0, 0, 0, 0, 0, 0xFFFFFFFF, 0⟩,
    ⟨0x280C, 1, 0, 1, 0, 0, 0, 0, 0, 0, 0xFFFF, 0⟩,
    ⟨0x2810, 1, 0, 1, 0, 0, 0, 0, 0, 0, 0xFFFFFFFF, 0⟩,
    ⟨0x2814, 1, 0, 1, 0, 0, 0, 0, 0, 0, 0xFFFF, 0⟩,
    ⟨0x2818, 1, 0, 1, 0, 0, 0, 0, 0, 0xFFFFFFFF, 0, 0⟩ ]

/-- The LANY_ block of the chip window. -/
def rows_chip_LANY : List RegDesc :=
  [ ⟨0x2C00, 1, 0, 1, 0, 0, 0x801F0007, 0, 0, 0, 0, 0x100000⟩,
    ⟨0x2C04, 1, 0, 1, 0, 0, 0xFFFF, 0, 0, 0, 0, 0xFFFF⟩,
    ⟨0x2C08, 1, 0, 1, 0, 0, 0xFFFFFFFF, 0, 0, 0, 0, 0⟩,
    ⟨0x2C0C, 1, 0, 1, 0, 0, 0xFFFFFFFF, 0, 0, 0, 0, 0⟩,
    ⟨0x2C10, 1, 0, 1, 0, 0, 0xFFFFFFFF, 0, 0, 0, 0, 0⟩,
    ⟨0x2C20, 1, 0, 1, 0, 0, 0xFFFFFF00, 0, 0, 0, 0, 0⟩,
    ⟨0x2C24, 1, 0, 1, 0, 0, 0xFF, 0, 0, 0, 0, 0⟩,
    ⟨0x2C28, 1, 0, 1, 0, 0, 0xFFFFFF00, 0, 0, 0, 0, 0⟩,
    ⟨0x2C2C, 1, 0, 1, 0, 0, 0xFF, 0, 0, 0, 0, 0⟩,
    ⟨0x2C30, 1, 0, 1, 0, 0, 0xFFFFFF, 0, 0, 0, 0, 0⟩,
    ⟨0x2C40, 1, 0, 1, 0, 0xFF, 0, 0, 0, 0, 0, 0⟩,
    ⟨0x2C44, 1, 0, 1, 0, 0xFFFFFFFF, 0, 0, 0, 0, 0, 0⟩,
    ⟨0x2C50, 1, 0, 1, 0, 0xFFFFFF, 0, 0, 0, 0, 0, 0⟩,
    ⟨0x2C54, 1, 0, 1, 0, 0xFFFF, 0, 0, 0, 0, 0, 0⟩,
    ⟨0x2C60, 1, 0, 1, 0, 0, 0xFFFFFFFF, 0, 0, 0, 0, 0⟩,
    ⟨0x2C64, 1, 0, 1, 0, 0, 0xFFFFFFFF, 0, 0, 0, 0, 0⟩,
    ⟨0x2C80, 8, 4, 1, 0, 0, 0xFFFFFFFF, 0, 0, 0, 0, 0xFFFFFFFF⟩,
    ⟨0x2CA0, 1, 0, 1, 0, 0, 0, 0, 3, 0, 0, 0⟩,
    ⟨0x2CA4, 1, 0, 1, 0, 1, 0, 0, 0, 0, 0, 0⟩,
    ⟨0x2CB0, 1, 0, 1, 0, 0, 0, 0x18FF0000, 0, 0, 0xE000FFFF, 0⟩,
    ⟨0x2CB8, 1, 0, 1, 0, 0, 0, 0, 0, 0, 0xFFFFFFFF, 0⟩,
    ⟨0x2CBC, 1, 0, 1, 0, 0, 0, 0, 0, 0, 0xFF, 0⟩,
    ⟨0x2CC0, 1, 0, 1, 0, 0, 0, 0, 0, 0xFFFFFFFF, 0, 0⟩,
    ⟨0x2CC4, 1, 0, 1, 0, 0, 0, 0, 0, 0xFFFFFFFF, 0, 0⟩ ] ++
  [ ⟨0x2CC8, 1, 0, 1, 0, 0, 0, 0, 0, 0, 0xFFFFFFFF, 0⟩,
    ⟨0x2CCC, 1, 0, 1, 0, 0, 0, 0, 0, 0, 0xFFFF, 0⟩ ]

/-- The JOB_ block of the chip window. -/
def rows_chip_JOB : List RegDesc :=
  [ ⟨0x3000, 8, 0x40, 1, 0, 0xFFFFF000, 0, 0, 0, 0, 0, 0⟩,
    ⟨0x3004, 8, 0x40, 1, 0, 0xFFFFFFFF, 0, 0, 0, 0, 0, 0⟩,
    ⟨0x3008, 8, 0x40, 1, 0, 0xFFFFF000, 0, 0, 0, 0, 0, 0⟩,
    ⟨0x300C, 8, 0x40, 1, 0, 0xFFFFFFFF, 0, 0, 0, 0, 0, 0⟩,
    ⟨0x3010, 8, 0x40, 1, 0, 0xFFFFFFFC, 0, 0, 0, 0, 0, 0⟩,
    ⟨0x3014, 8, 0x40, 1, 0, 0xFFFFFFFF, 0, 0, 0, 0, 0, 0⟩,
    ⟨0x3018, 8, 0x40, 1, 0, 0xF, 0, 0, 0, 0, 0, 4⟩,
    ⟨0x301C, 8, 0x40, 1, 0, 0x80000000, 0, 0, 0x40000000, 0, 0, 0⟩,
    ⟨0x3020, 8, 0x40, 1, 0, 0, 0, 0x80000000, 0, 0, 0x1FFF1FFF, 0⟩,
    ⟨0x3024, 8, 0x40, 1, 0, 0, 0, 0, 0, 0, 0x3FF, 0⟩,
    ⟨0x3200, 1, 0, 1, 0, 0, 0, 0, 0, 0, 0x3FF, 0⟩ ]

/-- The DIE_ block of the die window. -/
def rows_die_DIE : List RegDesc :=
  [ ⟨0, 1, 0, 1, 0, 0, 0, 0, 0, 0, 0xFFFFFF07, 0x1A5BB000⟩,
    ⟨0x40, 1, 0, 1, 0, 0, 0, 0xFFFF000E, 0, 0, 0, 0⟩,
    ⟨0x44, 1, 0, 1, 0, 0, 0, 0, 0, 0, 0xC7FFFFFF, 0⟩,
    ⟨0x50, 1, 0, 1, 0, 0, 0, 0, 0, 0, 0xFFFFFF01, 0⟩,
    ⟨0x100, 1, 0, 1, 0, 0, 0xE0000300, 0, 0, 0, 0, 0x40000000⟩,
    ⟨0x104, 1, 0, 1, 0, 0, 0xFFFFFF00, 0, 0, 0, 0, 0⟩,
    ⟨0x108, 1, 0, 1, 0, 0, 0xFF, 0, 0, 0, 0, 0⟩,
    ⟨0x10C, 1, 0, 1, 0, 0, 0xFFFFFF00, 0, 0, 0, 0, 0⟩,
    ⟨0x110, 1, 0, 1, 0, 0, 0xFF, 0, 0, 0, 0, 0⟩,
    ⟨0x114, 1, 0, 1, 0, 0, 0xFFFFFF, 0, 0, 0, 0, 0⟩,
    ⟨0x118, 1, 0, 1, 0, 0, 0, 0x20000000, 0, 0, 0xC0000000, 0⟩,
    ⟨0x120, 1, 0, 1, 0, 0, 0, 0, 0, 0, 0xFFFFFFFF, 0⟩,
    ⟨0x124, 1, 0, 1, 0, 0, 0, 0, 0, 0, 0xFFFF, 0⟩,
    ⟨0x130, 1, 0, 1, 0, 0, 0, 0, 0, 0, 0xFFFFFFFF, 0⟩,
    ⟨0x140, 1, 0, 1, 0, 0, 0, 0, 0, 0, 0x7F7F, 0⟩,
    ⟨0x144, 1, 0, 1, 0, 0, 0, 0, 0, 0, 0xFFFFFFFF, 0⟩,
    ⟨0x148, 1, 0, 1, 0, 0, 0, 0, 0, 0, 0x800000FF, 0⟩,
    ⟨0x14C, 1, 0, 1, 0, 0, 0, 0, 0, 0xFFFFFFFF, 0, 0⟩ ]

/-- The SRC_ block of the die window. -/
def rows_die_SRC : List RegDesc :=
  [ ⟨0x400, 1, 0, 1, 0, 0xCFF30000, 0, 0, 0, 0, 0, 0xFF20000⟩,
    ⟨0x404, 1, 0, 1, 0, 0, 0, 0, 0, 0, 0xFFFFF000, 0⟩,
    ⟨0x408, 1, 0, 1, 0, 0xFF, 0, 0, 0, 0, 0, 3⟩,
    ⟨0x40C, 1, 0, 1, 0, 0, 0xFFFFFFFF, 0, 0, 0, 0, 0⟩,
    ⟨0x410, 1, 0, 1, 0, 0, 0xFFFFFF, 0, 0, 0, 0, 0⟩,
    ⟨0x420, 3, 8, 1, 0, 0, 0xFFFFFF00, 0, 0, 0, 0, 0⟩,
    ⟨0x424, 3, 8, 1, 0, 0, 0xFF, 0, 0, 0, 0, 0⟩,
    ⟨0x440, 1, 0, 1, 0, 0, 0, 0, 0, 0, 0xFFFF3333, 0x3333⟩,
    ⟨0x444, 1, 0, 1, 0, 0, 0, 0, 0, 0xFFFFFFFF, 0, 0⟩,
    ⟨0x448, 1, 0, 1, 0, 0, 0, 0, 0, 0xFFFFFFFF, 0, 0⟩,
    ⟨0x44C, 1, 0, 1, 0, 0, 0, 0, 0, 0xFFFFFFFF, 0, 0⟩,
    ⟨0x450, 1, 0, 1, 0, 0, 0x8000FFFF, 0, 0, 0, 0, 0x640⟩,
    ⟨0x454, 1, 0, 1, 0, 0, 0xFFFFFF, 0, 0, 0, 0, 0⟩,
    ⟨0x460, 1, 0, 1, 0, 0, 0, 0xFF, 0, 0, 0, 0⟩ ]

/-- The PE_ block of the die window. -/
def rows_die_PE : List RegDesc :=
  [ ⟨0x2000, 1, 0, 1, 0, 0, 0, 0, 0, 0, 0xCFFF0FFF, 0⟩,
    ⟨0x2004, 1, 0, 1, 0, 0, 0, 0, 0, 0, 0xFFFFF0FF, 0⟩,
    ⟨0x2008, 1, 0, 1, 0, 0, 0, 0, 0, 0, 0xFFFFF, 0⟩,
    ⟨0x200C, 1, 0, 1, 0, 0, 0, 0, 0, 0, 0xFF, 0⟩,
    ⟨0x2010, 4, 4, 1, 0, 0, 0, 0, 0, 0, 0xFFFFFFFF, 0⟩,
    ⟨0x2020, 1, 0, 1, 0, 0, 0, 0, 0, 0, 0x7F0007, 0⟩,
    ⟨0x2024, 1, 0, 1, 0, 0, 0, 0, 0x8000007F, 0, 0, 0⟩,
    ⟨0x2028, 1, 0, 1, 0, 0, 0, 0, 0, 0xFFFF, 0, 0⟩,
    ⟨0x202C, 1, 0, 1, 0, 0, 0, 0, 0, 0xFFFFFFFF, 0, 0⟩ ]

/-- The LYR_ block of the die window. -/
def rows_die_LYR : List RegDesc :=
  [ ⟨0x1000, 7, 0x100, 1, 0, 0, 0xE71FE303, 0, 0, 0, 0, 0⟩,
    ⟨0x1004, 7, 0x100, 1, 0, 0, 0xFFFFFFFF, 0, 0, 0, 0, 0⟩,
    ⟨0x1008, 7, 0x100, 1, 0, 0, 0xFFFFFFFF, 0, 0, 0, 0, 0⟩,
    ⟨0x100C, 7, 0x100, 1, 0, 0, 0xFFFFFFFF, 0, 0, 0, 0, 0⟩,
    ⟨0x1010, 7, 0x100, 1, 0, 0, 0xFFFFFFFF, 0, 0, 0, 0, 0⟩,
    ⟨0x1014, 7, 0x100, 1, 0, 0, 0x7F, 0, 0, 0, 0, 0xC⟩,
    ⟨0x1020, 7, 0x100, 3, 8, 0, 0xFFFFFF00, 0, 0, 0, 0, 0⟩,
    ⟨0x1024, 7, 0x100, 3, 8, 0, 0xFF, 0, 0, 0, 0, 0⟩,
    ⟨0x1038, 7, 0x100, 1, 0, 0, 0xFFFFFF, 0, 0, 0, 0, 0⟩,
    ⟨0x103C, 7, 0x100, 1, 0, 0, 0xFFFFFF, 0, 0, 0, 0, 0⟩,
    ⟨0x1440, 3, 0x100, 1, 0, 0xFF, 0, 0, 0, 0, 0, 0⟩,
    ⟨0x1444, 3, 0x100, 1, 0, 0xFFFFFFFF, 0, 0, 0, 0, 0, 0⟩,
    ⟨0x1048, 4, 0x100, 1, 0, 0x1FF, 0, 0, 0, 0, 0, 0⟩,
    ⟨0x104C, 4, 0x100, 1, 0, 0xFFF0FFF, 0, 0, 0, 0, 0, 0⟩,
    ⟨0x1080, 7, 0x100, 1, 0, 0, 0xFFFF000F, 0, 0, 0, 0, 0xFFFF0000⟩,
    ⟨0x1084, 7, 0x100, 1, 0, 0xFFF, 0, 0, 0, 0, 0, 0⟩,
    ⟨0x1088, 7, 0x100, 1, 0, 0x1FFFF, 0, 0, 0, 0, 0, 0⟩,
    ⟨0x10C0, 7, 0x100, 1, 0, 0, 0, 0, 0xE0000000, 0, 3, 0⟩,
    ⟨0x10C4, 7, 0x100, 1, 0, 0, 0, 0, 0, 0, 0xFFFFFFFF, 0⟩,
    ⟨0x10C8, 7, 0x100, 1, 0, 0, 0, 0, 0, 0, 0x8000FFFF, 0⟩,
    ⟨0x10CC, 7, 0x100, 1, 0, 0, 0, 0, 0, 0, 0x80FFFFFF, 0⟩ ]

/-- The LAMP_ block of the die window. -/
def rows_die_LAMP : List RegDesc :=
  [ ⟨0x1800, 1, 0, 1, 0, 0, 0xFE000001, 0, 0, 0, 0, 0⟩,
    ⟨0x1804, 1, 0, 1, 0, 0, 0xFFFFFFFF, 0, 0, 0, 0, 0⟩,
    ⟨0x1808, 1, 0, 1, 0, 0, 0xFFFF, 0, 0, 0, 0, 0⟩,
    ⟨0x1810, 1, 0, 1, 0, 0, 0xFFFFFF00, 0, 0, 0, 0, 0⟩,
    ⟨0x1814, 1, 0, 1, 0, 0, 0xFF, 0, 0, 0, 0, 0⟩,
    ⟨0x1818, 1, 0, 1, 0, 0, 0xFFFFFF00, 0, 0, 0, 0, 0⟩,
    ⟨0x181C, 1, 0, 1, 0, 0, 0xFF, 0, 0, 0, 0, 0⟩,
    ⟨0x1820, 1, 0, 1, 0, 0, 0xFFFFFF, 0, 0, 0, 0, 0⟩,
    ⟨0x1828, 1, 0, 1, 0, 0, 0xFFFFFF00, 0, 0, 0, 0, 0⟩,
    ⟨0x182C, 1, 0, 1, 0, 0, 0xFF, 0, 0, 0, 0, 0⟩,
    ⟨0x1830, 1, 0, 1, 0, 0, 0xFFFF, 0, 0, 0, 0, 0⟩,
    ⟨0x1840, 1, 0, 1, 0, 0xFFFFFF00, 0, 0, 0, 0, 0, 0⟩,
    ⟨0x1844, 1, 0, 1, 0, 0xFF, 0, 0, 0, 0, 0, 0⟩,
    ⟨0x1848, 1, 0, 1, 0, 0, 0, 0, 1, 0, 0, 0⟩,
    ⟨0x184C, 1, 0, 1, 0, 0, 0, 3, 0, 0, 0xF0000000, 0x30000000⟩,
    ⟨0x1850, 1, 0, 1, 0, 0, 0, 0, 0, 0xFFFFFFFF, 0, 0⟩,
    ⟨0x1854, 1, 0, 1, 0, 0, 0, 0, 0, 0, 0xFFFFFFFF, 0⟩,
    ⟨0x1858, 1, 0, 1, 0, 0, 0, 0, 0, 0, 0xC00000FF, 0⟩,
    ⟨0x185C, 1, 0, 1, 0, 0, 0, 0, 0, 0xFFFFFFFF, 0, 0⟩,
    ⟨0x1880, 1, 0, 1, 0, 0, 0x80000000, 0, 0, 0, 0, 0⟩,
    ⟨0x1884, 1, 0, 1, 0, 0, 0xFFFFFFFF, 0, 0, 0, 0, 0x20202020⟩,
    ⟨0x1888, 1, 0, 1, 0, 0, 0xFFFFFF00, 0, 0, 0, 0, 0⟩,
    ⟨0x188C, 1, 0, 1, 0, 0, 0xFF, 0, 0, 0, 0, 0⟩,
    ⟨0x1890, 1, 0, 1, 0, 0, 0, 0x80000000, 0, 0, 0x7FF, 0⟩ ] ++
  [ ⟨0x1894, 1, 0, 1, 0, 0, 0, 0, 0, 0xFFFFFFFF, 0, 0⟩,
    ⟨0x1898, 1, 0, 1, 0, 0, 0, 0, 0, 0xFFFFFFFF, 0, 0⟩,
    ⟨0x189C, 1, 0, 1, 0, 0x3FF, 0, 0, 0, 0, 0, 0⟩,
    ⟨0x18A0, 1, 0, 1, 0, 0, 0, 0, 0, 0, 0xFFFFFFFF, 0⟩,
    ⟨0x18A4, 1, 0, 1, 0, 0, 0, 0, 1, 0, 0, 0⟩,
    ⟨0x18C0, 1, 0, 1, 0, 0, 0xFFFF0003, 0, 0, 0, 0, 0x20000⟩,
    ⟨0x18C4, 4, 4, 1, 0, 0, 0xFFFFFFFF, 0, 0, 0, 0, 0x7F7F7F7F⟩,
    ⟨0x18D4, 1, 0, 1, 0, 0, 0x1F1F1F, 0, 0, 0, 0, 0x101010⟩,
    ⟨0x18E0, 1, 0, 1, 0, 0xFFFFFF00, 0, 0, 0, 0, 0, 0⟩,
    ⟨0x18E4, 1, 0, 1, 0, 0xFF, 0, 0, 0, 0, 0, 0⟩,
    ⟨0x18E8, 1, 0, 1, 0, 0, 0, 0, 1, 0, 0, 0⟩,
    ⟨0x18EC, 1, 0, 1, 0, 0, 0, 3, 0, 0, 0xF0000000, 0x30000000⟩,
    ⟨0x1900, 1, 0, 1, 0, 0, 0xFFFFFF00, 0, 0, 0, 0, 0⟩,
    ⟨0x1904, 1, 0, 1, 0, 0, 0xFF, 0, 0, 0, 0, 0⟩,
    ⟨0x1908, 1, 0, 1, 0, 0, 0xFFFFFF00, 0, 0, 0, 0, 0⟩,
    ⟨0x190C, 1, 0, 1, 0, 0, 0xFF, 0, 0, 0, 0, 0⟩,
    ⟨0x1910, 1, 0, 1, 0, 0, 0xFFFFFF, 0, 0, 0, 0, 0⟩,
    ⟨0x1918, 1, 0, 1, 0, 0, 0, 0, 0, 0xFFFFFFFF, 0, 0⟩,
    ⟨0x191C, 1, 0, 1, 0, 0, 0, 0, 0, 0xFFFFFFFF, 0, 0⟩,
    ⟨0x1940, 16, 4, 1, 0, 0, 0xFFFFFFFF, 0, 0, 0, 0, 0⟩,
    ⟨0x1980, 1, 0, 1, 0, 0, 0, 0, 0, 0, 0x1F, 0⟩ ]

/-- The STR_ block of the die window. -/
def rows_die_STR : List RegDesc :=
  [ ⟨0x4000, 16, 0x100, 1, 0, 0x7FBFFF00, 0, 0, 0x80000000, 0, 0, 0x43831000⟩,
    ⟨0x4004, 16, 0x100, 1, 0, 0, 0, 0, 0, 0, 0xFCFFFF80, 0x10000000⟩,
    ⟨0x4008, 16, 0x100, 1, 0, 0, 0, 0, 0, 0, 0x8FFFFDFF, 0⟩,
    ⟨0x400C, 16, 0x100, 1, 0, 0xF7, 0, 0, 0, 0, 0, 0x62⟩,
    ⟨0x4010, 16, 0x100, 1, 0, 0, 0, 0xF8000000, 0, 0, 0, 0⟩,
    ⟨0x4014, 16, 0x100, 1, 0, 0, 0, 0, 0, 0xFFFFFFFF, 0, 0⟩,
    ⟨0x4018, 16, 0x100, 1, 0, 0, 0, 0, 0, 0xFFFFFFFF, 0, 0⟩,
    ⟨0x4020, 16, 0x100, 1, 0, 0, 0, 0, 0, 0, 0xFFFFF701, 0⟩,
    ⟨0x4024, 16, 0x100, 1, 0, 0, 0, 0, 0, 0, 0xC0000000, 0⟩,
    ⟨0x4028, 16, 0x100, 1, 0, 0, 0, 0, 0, 0xFFFFFFFF, 0, 0⟩,
    ⟨0x4040, 16, 0x100, 1, 0, 0, 0, 0, 0, 0, 0xFF8003FF, 0⟩,
    ⟨0x4044, 16, 0x100, 1, 0, 0, 0, 0x3FF, 0, 0, 0, 0⟩,
    ⟨0x4048, 16, 0x100, 1, 0, 0, 0, 0, 0, 0xFFFFFFFF, 0, 0⟩,
    ⟨0x404C, 16, 0x100, 1, 0, 0, 0, 0, 0, 0xFFFFFFFF, 0, 0⟩,
    ⟨0x4050, 16, 0x100, 1, 0, 0x6003FFFF, 0, 0, 0x80000000, 0, 0, 0⟩,
    ⟨0x4054, 16, 0x100, 1, 0, 0xFFFFFFFF, 0, 0, 0, 0, 0, 0⟩,
    ⟨0x4058, 16, 0x100, 1, 0, 0, 0, 0, 0, 0, 0xF0000000, 0⟩,
    ⟨0x405C, 16, 0x100, 1, 0, 0, 0, 0, 0, 0, 0xFFFFFFFF, 0⟩,
    ⟨0x4060, 16, 0x100, 1, 0, 0x1FF, 0, 0, 0, 0, 0, 0⟩,
    ⟨0x4064, 16, 0x100, 1, 0, 0, 0, 0, 0, 0, 0xE0FFFFFF, 0⟩,
    ⟨0x4068, 16, 0x100, 1, 0, 0, 0, 0, 0, 0, 0xFFFFFFFF, 0⟩,
    ⟨0x4070, 16, 0x100, 1, 0, 0, 0, 0, 0, 0, 0xFFFFFFFF, 0⟩,
    ⟨0x406C, 16, 0x100, 1, 0, 0, 0, 0, 0, 0, 0xFFFFFFFF, 0x8000⟩,
    ⟨0x4080, 16, 0x100, 1, 0, 0x7F, 0, 0, 0, 0, 0, 0x6F⟩ ] ++
  [ ⟨0x4084, 16, 0x100, 1, 0, 0, 0, 0, 0, 0, 0xC000000F, 0⟩,
    ⟨0x4090, 16, 0x100, 1, 0, 0x7FFF0000, 0, 0, 0x80000000, 0, 0, 0⟩,
    ⟨0x4094, 16, 0x100, 1, 0, 0xFFFFFF, 0, 0, 0, 0, 0, 0x3E8⟩,
    ⟨0x4098, 16, 0x100, 1, 0, 0xC0FF001F, 0, 0, 0, 0, 0, 0x10014⟩,
    ⟨0x409C, 16, 0x100, 1, 0, 0, 0, 0x38000000, 0, 0, 0xC0000000, 0⟩,
    ⟨0x40A0, 16, 0x100, 1, 0, 0, 0, 0, 0, 0xFFFFFFFF, 0, 0⟩,
    ⟨0x40A8, 16, 0x100, 1, 0, 0, 0, 0, 0, 0, 0xFFFFFFFF, 0⟩,
    ⟨0x40AC, 16, 0x100, 1, 0, 0, 0, 0, 0, 0, 0xFFFFFFFF, 0⟩,
    ⟨0x40C0, 16, 0x100, 1, 0, 0, 0, 0x80000000, 0, 0, 0x4000FFFF, 0⟩,
    ⟨0x40D0, 16, 0x100, 1, 0, 0, 0, 0, 0, 0xFFFFFFFF, 0, 0⟩,
    ⟨0x40D4, 16, 0x100, 1, 0, 0, 0, 0, 0, 0, 0xFFFFFFFF, 0⟩,
    ⟨0x40D8, 16, 0x100, 1, 0, 0, 0, 0, 0, 0, 0xFFFF, 0⟩,
    ⟨0x40DC, 16, 0x100, 1, 0, 0, 0, 0, 0, 0xFFFFFFFF, 0, 0⟩,
    ⟨0x40E0, 16, 0x100, 1, 0, 0, 0, 0, 0, 0xFFFFFFFF, 0, 0⟩ ]

/-- The SCAN_ block of the die window. -/
def rows_die_SCAN : List RegDesc :=
  [ ⟨0x5000, 1, 0, 1, 0, 0, 0, 0x7F, 0, 0, 0, 0⟩,
    ⟨0x5010, 4, 4, 1, 0, 0x8000FFFF, 0, 0, 0, 0, 0, 0⟩,
    ⟨0x5020, 1, 0, 1, 0, 0, 0, 0, 0, 0, 0xFFFFFFFF, 0⟩,
    ⟨0x5024, 1, 0, 1, 0, 0, 0, 0, 0, 0, 0x8000FFFF, 0⟩,
    ⟨0x5028, 1, 0, 1, 0, 0, 0, 0, 0, 0, 0xFFFFFFFF, 0⟩,
    ⟨0x5030, 1, 0, 1, 0, 0, 0, 0, 0, 0xFFFFFFFF, 0, 0⟩,
    ⟨0x5034, 1, 0, 1, 0, 0, 0, 0, 0, 0, 0xFFFF00FF, 0⟩,
    ⟨0x5040, 1, 0, 1, 0, 0, 0xFFFFFFFF, 0, 0, 0, 0, 0xFFFFFFFF⟩,
    ⟨0x5044, 1, 0, 1, 0, 0, 0, 0, 0, 0, 0xFFFF, 0⟩ ]

/-- The PCK_ block of the die window. -/
def rows_die_PCK : List RegDesc :=
  [ ⟨0x5400, 16, 0x20, 1, 0, 0, 0xFFFFFFFF, 0, 0, 0, 0, 0⟩,
    ⟨0x5404, 16, 0x20, 1, 0, 0, 0xFFFFFFFF, 0, 0, 0, 0, 0⟩,
    ⟨0x5408, 16, 0x20, 1, 0, 0, 0x80000003, 0, 0, 0, 0, 0⟩,
    ⟨0x540C, 16, 0x20, 1, 0, 0, 0xFFFFFFFF, 0, 0, 0, 0, 0xFFFFFFFF⟩,
    ⟨0x5410, 16, 0x20, 1, 0, 0, 0, 0, 0, 0, 0xFFFFFFFF, 0xFFFFFFFF⟩,
    ⟨0x5414, 16, 0x20, 1, 0, 0, 0, 0, 0, 0, 0xFFFFFFFF, 0⟩,
    ⟨0x5600, 1, 0, 1, 0, 0, 0, 0xFFFFFFFF, 0, 0, 0, 0⟩,
    ⟨0x5604, 1, 0, 1, 0, 0, 0, 0, 0, 0xFFFFFFFF, 0, 0⟩,
    ⟨0x5608, 1, 0, 1, 0, 0, 0, 0, 0, 0xFFFFFFFF, 0, 0⟩ ]

/-- The MEM_ block of the die window. -/
def rows_die_MEM : List RegDesc :=
  [ ⟨0x5800, 1, 0, 1, 0, 0, 0, 0, 0, 0, 0xFFFFFFFF, 0⟩,
    ⟨0x5810, 8, 8, 1, 0, 0x8000FFFF, 0, 0, 0, 0, 0x40000000, 0⟩,
    ⟨0x5814, 8, 8, 1, 0, 0x1FFF, 0, 0, 0, 0, 0, 0⟩,
    ⟨0x5860, 1, 0, 1, 0, 0, 0, 0, 0, 0, 0x1FF007F, 0⟩,
    ⟨0x5864, 1, 0, 1, 0, 0, 0, 7, 0, 0, 0, 0⟩,
    ⟨0x5868, 1, 0, 1, 0, 0, 0, 0, 0, 0xFFFFFFFF, 0, 0⟩,
    ⟨0x586C, 1, 0, 1, 0, 0, 0, 0, 0, 0, 0xFFFFFFFF, 0⟩,
    ⟨0x5870, 1, 0, 1, 0, 0, 0, 0, 0, 0, 0xFF, 0⟩ ]

/-- The ECC_ block of the die window. -/
def rows_die_ECC : List RegDesc :=
  [ ⟨0x5C00, 1, 0, 1, 0, 0, 0, 0x3F, 0, 0, 0, 0⟩,
    ⟨0x5C04, 1, 0, 1, 0, 0, 0, 0, 0, 0xFFFFFFFF, 0, 0⟩,
    ⟨0x5C08, 1, 0, 1, 0, 0, 0, 0, 0, 0xFFFFFFFF, 0, 0⟩,
    ⟨0x5C0C, 1, 0, 1, 0, 0, 0, 0, 0, 0xFFFFFFFF, 0, 0⟩,
    ⟨0x5C10, 1, 0, 1, 0, 0, 0, 0, 0, 0xFFFFFFFF, 0, 0⟩,
    ⟨0x5C20, 1, 0, 1, 0, 0, 0, 0, 0, 0, 0xFFFFFFFF, 0⟩,
    ⟨0x5C24, 1, 0, 1, 0, 0, 0, 0, 0, 0, 0xFFFF00FF, 0⟩,
    ⟨0x5C28, 1, 0, 1, 0, 0, 0, 0, 0, 0, 0xFFFFFFFF, 0⟩,
    ⟨0x5C2C, 1, 0, 1, 0, 0, 0, 0, 0, 0, 0xFFFF00FF, 0⟩,
    ⟨0x5C30, 1, 0, 1, 0, 0, 0, 0, 0, 0, 0xFFFFFFFF, 0⟩,
    ⟨0x5C34, 1, 0, 1, 0, 0, 0, 0, 0, 0, 0xFFFF00FF, 0⟩,
    ⟨0x5C40, 1, 0, 1, 0, 0x8000FFFF, 0, 0, 0, 0, 0, 0x80000400⟩,
    ⟨0x5C44, 1, 0, 1, 0, 0, 0, 0, 0, 0, 0xFFFFFFFF, 0⟩,
    ⟨0x5C50, 1, 0, 1, 0, 0xC000FFFF, 0, 0, 0, 0, 0, 0x80000064⟩,
    ⟨0x5C54, 1, 0, 1, 0, 0, 0, 0, 0, 0, 0xFFFFFF3F, 0⟩,
    ⟨0x5C58, 1, 0, 1, 0, 0x1F, 0, 0, 0, 0, 0, 0⟩,
    ⟨0x5C5C, 1, 0, 1, 0, 0, 0, 0, 0, 0, 0xFFFFFFFF, 0⟩,
    ⟨0x5C60, 1, 0, 1, 0, 0, 0, 0, 0, 0, 0xFFFFFFFF, 0⟩ ]

/-- The CAL_ block of the die window. -/
def rows_die_CAL : List RegDesc :=
  [ ⟨0x6000, 8, 4, 1, 0, 0, 0, 0, 0, 0, 0xFFFFFFFF, 0x80008000⟩,
    ⟨0x6020, 1, 0, 1, 0, 0, 0, 0, 0, 0, 0xFFFFFFFF, 0⟩,
    ⟨0x6030, 1, 0, 1, 0, 0x8FFFFFFF, 0, 0, 0, 0, 0, 0x821E320C⟩,
    ⟨0x6034, 1, 0, 1, 0, 0, 0, 0x80000000, 0, 0, 0x1F70FFFF, 0x1E000000⟩,
    ⟨0x6038, 1, 0, 1, 0, 0, 0, 0, 0, 0, 0xFFFFFFFF, 0⟩,
    ⟨0x603C, 1, 0, 1, 0, 0, 0, 0, 0, 0xFFFF, 0, 0x7FFF⟩,
    ⟨0x6040, 1, 0, 1, 0, 0x3F, 0, 0, 0, 0, 0, 0⟩,
    ⟨0x6044, 1, 0, 1, 0, 0xFFFFFFFF, 0, 0, 0, 0, 0, 0⟩ ]

/-- The PWR_ block of the die window. -/
def rows_die_PWR : List RegDesc :=
  [ ⟨0x6400, 1, 0, 1, 0, 3, 0, 0, 0, 0, 0, 3⟩,
    ⟨0x6404, 1, 0, 1, 0, 0, 0, 0, 0, 0, 0x7FFFF, 0⟩,
    ⟨0x6408, 1, 0, 1, 0, 0, 0, 0, 0, 0xFFFFFFFF, 0, 0⟩,
    ⟨0x640C, 1, 0, 1, 0, 0, 0, 0, 0, 0xFFFFFFFF, 0, 0⟩,
    ⟨0x6410, 1, 0, 1, 0, 0, 0, 0, 0, 0xFFFFFFFF, 0, 0⟩,
    ⟨0x6414, 1, 0, 1, 0, 0, 0, 0, 0, 0xFFFFFFFF, 0, 0⟩ ]

/-- The rows among which offset `o` of a chip window lies. -/
def chipRows (o : Nat) : List RegDesc :=
  if o < 0x400 then rows_chip_CHIP else
  if o < 0x800 then rows_chip_TB else
  if o < 0xC00 then rows_chip_KNOT else
  if o < 0x1000 then rows_chip_HOST else
  if o < 0x1400 then rows_chip_ERR else
  if o < 0x1800 then rows_chip_PWR else
  if o < 0x1C00 then rows_chip_NVM else
  if o < 0x2000 then rows_chip_CAL else
  if o < 0x2400 then rows_chip_COIL else
  if o < 0x2800 then rows_chip_CMP else
  if o < 0x2C00 then rows_chip_BLY else
  if o < 0x3000 then rows_chip_LANY else
  rows_chip_JOB

/-- The rows among which offset `o` of a die window lies. -/
def dieRows (o : Nat) : List RegDesc :=
  if o < 0x400 then rows_die_DIE else
  if o < 0x1000 then rows_die_SRC else
  if o < 0x1700 then rows_die_LYR else
  if o < 0x2000 then rows_die_LAMP else
  if o < 0x4000 then rows_die_PE else
  if o < 0x5000 then rows_die_STR else
  if o < 0x5400 then rows_die_SCAN else
  if o < 0x5800 then rows_die_PCK else
  if o < 0x5C00 then rows_die_MEM else
  if o < 0x6000 then rows_die_ECC else
  if o < 0x6400 then rows_die_CAL else
  rows_die_PWR

/-- The register that offset `o` of a window names, if the index lists one there. -/
def findReg (die : Bool) (o : Nat) : Option RegDesc :=
  if o % 4 = 0 then (if die then dieRows o else chipRows o).find? (·.hits o) else none

/-- The Bayer matrix B of R232, row by row. -/
def bayer : List Nat := [0, 8, 2, 10, 12, 4, 14, 6, 3, 11, 1, 9, 15, 7, 13, 5]

/-- Entry e = x + 4y + 16z of the dither cube at reset (R231, R232). -/
def ditherEntryReset (e : Nat) : Nat :=
  let x := e % 4
  let y := e / 4 % 4
  let z := e / 16
  16 * bayer.getD (4 * ((y + z) % 4) + (x + 2 * z) % 4) 0 + 4 * z

/-- LAMP_DITHER_CUBEm at reset: byte j holds entry 4m + j. -/
def ditherCubeReset (m : Nat) : Nat :=
  ditherEntryReset (4 * m) + 0x100 * ditherEntryReset (4 * m + 1) + 0x10000 * ditherEntryReset (4 * m + 2) +
    0x1000000 * ditherEntryReset (4 * m + 3)

/-- The reset value of the register at offset `o` of die `d`'s window. -/
def dieResetVal (d o : Nat) : Nat :=
  match findReg true o with
  | none => 0
  | some r =>
    if o = 0 then r.reset + d
    else if r.off = 0x1000 ∧ 0x1400 ≤ o then 0x100000
    else if r.off = 0x1940 then ditherCubeReset ((o - 0x1940) / 4)
    else r.reset

/-- The value after RESET_L of the register at BAR0 offset `a` of a part with `dies` dies (R494; R3 for an unpopulated slot).
(DESIGN CHOICE: notes/assumptions/3.md) -/
def resetWord (dies a : Nat) : Word :=
  if a < 0x10000 then
    if a = CHIP_ID then BitVec.ofNat 32 (0x1A5BB000 + dies)
    else if a = CHIP_DIES then BitVec.ofNat 32 (2 ^ dies - 1)
    else match findReg false a with
      | none => 0
      | some r => BitVec.ofNat 32 r.reset
  else if (a - 0x10000) / 0x10000 < dies then
    BitVec.ofNat 32 (dieResetVal ((a - 0x10000) / 0x10000) (a % 0x10000))
  else 0

end Sys2Proof.Machine
end

