-- ==== Sys2Proof/Machine/State.lean ====
section
/-! DEFINITION. The state of the block: every register of BAR0 (current value and shadow), and the memories, buffers, queues,
tables and units behind them that the spec names. Plain data only. -/
namespace Sys2Proof.Machine

/-! ### The structure image in force (R53 to R60, R257, R255, R324 to R330) -/

/-- A rectangle of canvas pixels. -/
structure Rect where
  x : Nat
  y : Nat
  w : Nat
  h : Nat
deriving DecidableEq, Repr

/-- A partner entry of the strand map (R326): class L or H, code width − 10, lag in lines. -/
structure PartnerEnt where
  classL : Bool
  wc : Nat
  lag : Nat
deriving DecidableEq, Repr

/-- A strand entry (R325) with its chain: global lowest lane, lane count, partners from address 0. -/
structure StrandEnt where
  lane : Nat
  width : Nat
  chain : List PartnerEnt
deriving DecidableEq, Repr

/-- A segment entry (R327). -/
structure Seg where
  x : Nat
  y : Nat
  w : Nat
  h : Nat
  order : Nat
  group : Nat
  addr : Nat
  strand : Nat
  row0 : Nat
  base : Nat
deriving DecidableEq, Repr

/-- A descriptor of the lamp order map (R329). -/
structure Order where
  mh : Nat
  mw : Nat
  pr : Nat
  pg : Nat
  pb : Nat
  cmode : Nat
  mirrorY : Bool
  mirrorX : Bool
  innerSerp : Bool
  innerCol : Bool
  outerSerp : Bool
  outerCol : Bool
deriving DecidableEq, Repr

/-- What an installation places (R65): canvas and sections (R57), layer slots (R58), programs (R257), CHUNK (R255), strand map
and lamp order map (R324 to R330). -/
structure Image where
  canvasW : Nat
  canvasH : Nat
  sections : List Rect
  layerEn : Nat
  prog : List Word
  groupCost : Nat
  groupEntry : Nat
  lineEn : Bool
  lineCost : Nat
  lineEntry : Nat
  chunk : Nat
  strands : List StrandEnt
  segs : List Seg
  orders : List Order
deriving DecidableEq, Repr

/-! ### Mode requests, start-up -/

/-- One requester's copy of CHIP_MODE_REQ (R39): requested mode and RESULT. -/
structure ReqCopy where
  mode : Nat
  result : Nat
deriving DecidableEq, Repr

/-- An image source (R43, R62). -/
inductive ImgSource where
  | spiPrimary
  | staged
  | store (drive : Nat)
  | spiSecondary
deriving DecidableEq, Repr

/-- A read that the boot controller makes of the SPI flash (R68): address, bytes, command, lanes of the data phase, dummy cycles, clock in
kHz. -/
structure FlashRead where
  addr : Nat
  len : Nat
  cmd : Nat
  lanes : Nat
  dummy : Nat
  khz : Nat
deriving DecidableEq, Repr

/-- Mode machine and start-up: the requesters' copies of CHIP_MODE_REQ, the frames counted for the Coil delay (R35), a fatal
error recorded in Dormant (R36), the wake request of Dormant (R467), supplies and RESET_L, whether the fuse load has ended (R45),
the image sources still to try (R43, R71), whether the loader waits for one, whether a Reload ends at the next knot line (R66), whether
the region of die 0 has met a fault (R28, R489), whether the reset in progress is an internal one, at whose end the straps are sampled
(R44), base and length of the staged image of the load in progress (R67), the flash reads of the last load, in order (R68), the frame starts
until a fatal error's transition to Lanyard-only is complete (R35; 0: none in progress), the dies that have lost the control star in this
frame (R489), and PWR_DORMANT as it stood when Dormant was entered (R466). -/
structure BootSt where
  reqHost : ReqCopy
  reqMgmt : ReqCopy
  coilFrames : Nat
  fatalDormant : Bool
  wake : Option Nat
  supplies : Bool
  resetL : Bool
  strapPins : Nat
  fused : Bool
  sources : List ImgSource
  loading : Option ImgSource
  idlePending : Bool
  die0Fault : Bool
  resample : Bool
  stageAt : Option (Nat × Nat)
  flash : List FlashRead
  lanyLeft : Nat
  starLost : List Nat
  dormStr : Nat
deriving DecidableEq, Repr

/-! ### The knot -/

/-- An access held during the shadow transfer window (R176): a write or a read of `n` bytes, a register read frame of `n` words, or the
fence signal of a job that completes in the window; `fail`: what goes wrong while a record store command that the write starts writes. -/
inductive Held where
  | write (who : Requester) (addr n : Nat) (v : Word) (fail : NvmFail)
  | read (who : Requester) (addr n : Nat)
  | frame (addr n : Nat)
  | signal (layer : Nat)
deriving DecidableEq, Repr

/-- Who owns a pin table entry (R187). -/
inductive PinOwner where
  | layer (n plane : Nat)
  | src (port buf : Nat)
  | wb (k : Nat)
  | belay (k : Nat)
  | coil (slot : Nat)
deriving DecidableEq, Repr

/-- A pin table entry (R187): owner, range [lo, hi) of device addresses, policy (0 FLAG, 1 BLOCK, 2 None), the place of its
release frame in the count of frames (R97: a number may repeat).
(DEDUCED: notes/assumptions/29.md) -/
structure Pin where
  owner : PinOwner
  lo : Nat
  hi : Nat
  policy : Nat
  release : Option Nat
deriving DecidableEq, Repr

/-- The knot machine: accesses held in the window, a die lost before all had reported (R491), KNOT_SEQ at the knot line, the
pin tables and the place, plus 1, of the newest fully sent frame, by die, the cell fences that the host has requested (R24), as die and engine,
the frame in which the pending snapshot was requested (R191), and the layers whose LYR_n_RELEASE has been written and not yet reported DONE,
with the place of the release frame (R188). -/
structure KnotSt where
  held : List Held
  dieLost : Bool
  seqStart : Nat
  pins : AMap (List Pin)
  fullySent : AMap Nat
  fenceReq : List (Nat × Nat)
  snapReq : Nat
  relWait : List (Nat × Nat)
deriving DecidableEq, Repr

/-! ### Memories -/

/-- An entry of a merge buffer (R384): die, device address of its 64-bit word, the bytes it holds by place in the word, the class
of its newest write, the jobs whose bytes it holds, and whether it holds bytes of a host write. -/
structure Merge where
  die : Nat
  word : Nat
  bytes : AMap Byte
  cls : Nat
  jobs : List Nat
  host : Bool
deriving DecidableEq, Repr

/-- Memory controllers: merge buffers, oldest entry first; words whose check byte a write has set during INIT (R382); the soft repair table
of each die (R393) and the dies with an unsaved repair (R394); the scrubber's next DRAM word of each die; by d × 9 + unit (block units 0–7,
region unit 8), the batch each whipping unit stands at and whether it is under test (R392); words that an uncorrectable error hit, by die,
memory and word (R368); jobs a refused merge write failed (R385); the soft repairs of each die that were applied at reset (R47) and those
that self-test made (R49), in the words of R394; the scrubber's lap in progress (R391): by die, the offset of the first DRAM word that it
has read in it, plus 1, and whether it has passed the last one since; the SRAM words read in it or skipped (`lapKey`). -/
structure MemSt where
  merge : List Merge
  initDone : List Nat
  repairs : AMap (List (Nat × Nat))
  unsaved : List Nat
  scrub : AMap Nat
  whipPos : AMap Nat
  whipBusy : AMap Bool
  badTable : List (Nat × Nat × Nat)
  jobUe : List Nat
  applied : AMap (List (Nat × Nat))
  tested : AMap (List (Nat × Nat))
  lapFrom : AMap Nat
  lapWrap : AMap Bool
  lapSram : AMap Bool
deriving DecidableEq, Repr

/-! ### Pixel engines (R237) -/

/-- A pending result of ODI or LGI (R249): destination, the four lanes, and the handshake by which it is written. -/
structure PendRes where
  vd : Nat
  lanes : List Word
  ready : Nat
deriving DecidableEq, Repr

/-- What an engine runs. -/
inductive EngRun where
  | none
  | line
  | group
deriving DecidableEq, Repr

/-- One engine with its cell (R237, R238): V (key 4r + lane), S, the accumulator and predicate of each lane, the scratchpad by
byte, the running program and its pc, handshakes of the run, pending ODI and LGI results, values emitted in the run (key
12·stream + 4·lamp + lane), which feed slots are complete and which the run uses, the last line on which LINE ran, and the counts
that the current instruction adds to LAMP_CLIP_CNT and PE_ACC_ERR. -/
structure Engine where
  v : AMap Word
  sc : AMap Word
  acc : AMap Int
  p : AMap Bool
  pad : AMap Byte
  run : EngRun
  pc : Nat
  hs : Nat
  pend : List PendRes
  emits : AMap Word
  full : AMap Bool
  slot : Nat
  lineRan : Option (Nat × Nat)
  ended : Bool
  clips : Nat
  accErr : Nat
deriving DecidableEq, Repr

/-- An engine after reset and after every installation: all 0 (R237). (DESIGN CHOICE: notes/assumptions/10.md) -/
def Engine.zero : Engine := ⟨[], [], [], [], [], .none, 0, 0, [], [], [], 0, .none, false, 0, 0⟩

/-! ### Record store (R422 to R436) -/

/-- A record as it lies in a sector (R424); `valid` is false where its verify read failed or a program was cut short. -/
structure NvmRec where
  ty : Nat
  key : Nat
  seq : Nat
  payload : List Byte
  valid : Bool
deriving DecidableEq, Repr

/-- The header of a sector (R423): free, with ERASES where an erase has left it; in use by an area, with ERASES and SSEQ; unreadable. -/
inductive NvmHead where
  | free (erases : Option Nat)
  | used (area erases sseq : Nat)
  | unreadable
deriving DecidableEq, Repr

/-- A sector (R423): its header, the bytes in use from its start, its records in log order. -/
structure NvmSec where
  head : NvmHead
  used : Nat
  recs : List NvmRec
deriving DecidableEq, Repr

/-- A sector never used: erased, without a header. -/
def NvmSec.blank : NvmSec := ⟨.free none, 32, []⟩

/-- The two copies: sectors by d × 1024 + sector, ladder cells by (d × 5952 + slot) × 32 + cell, the protect word of each die when
valid; the buffer words of the channels by k × 1024 + word; the keys whose tie has been raised since reset (R427). -/
structure NvmSt where
  secs : AMap NvmSec
  cells : AMap Nat
  bp : AMap (Option Nat)
  buf : AMap Word
  ties : List (Nat × Nat)
deriving DecidableEq, Repr

/-! ### Timebase (R79 to R98) -/

/-- The raster parameters of R79. -/
structure Raster where
  lineTicks : Nat
  hsyncW : Nat
  hactStart : Nat
  hactEnd : Nat
  vtotal : Nat
  vsyncStart : Nat
  vsyncLines : Nat
  frameAdj : Nat
  fracNum : Nat
  fracDen : Nat
deriving DecidableEq, Repr

/-- The timebase: the raster of the frame in force and the canvas height with it, the fraction accumulator (R81), whether a knot has changed
the raster, the tick at which the frame started and those of recent frames, the correction of the frame's last line (R97), the next line,
the number that TB_FRAME takes at the next frame start and whether that is a FRAME_STEP, how many lines each die's error has exceeded ±3
ticks (R86); the SYNC_OUT offsets, newest first, each with the first frame it applies to and the tick at which the window of its knot ended;
the last word sent, its end and its frame (R93); how many frames have started before the one in force: a frame's place in this count names
it where TB_FRAME repeats a number (R85, R97), and `starts` (number, place, tick, newest first), `ofs` and `wordPlace` go by it; the slave's
chains of good and of mistimed pulses, the last valid pulse (tick, number), whether it has locked since reset, its frequency trim in 0.01
ppm (R96, R97); the loop times measured (R98). -/
structure TbSt where
  ras : Raster
  acc : Nat
  changed : Bool
  start : Nat
  starts : List (Nat × Nat × Nat)
  place : Nat
  extra : Int
  line : Nat
  setFrame : Option (Nat × Bool)
  lockBad : AMap Nat
  ofs : List (Nat × Int × Nat)
  word : Option Nat
  wordEnd : Nat
  wordPlace : Option Nat
  good : Nat
  bad : Nat
  pulse : Option (Nat × Nat)
  locked : Bool
  trim : Int
  rtts : List Nat
deriving DecidableEq, Repr

/-- The raster that the reset values form. -/
def Raster.reset : Raster := ⟨23703, 32, 96, 23640, 1125, 1084, 5, 791, 2, 3⟩

/-! ### Source ports (R100 to R117) -/

/-- Capture format of a buffer (R106): 0 RGB 10-bit packed, 1 YCbCr 4:4:4 planar, 2 YCbCr 4:2:2 semi-planar; and whether its samples
have 8 bits. -/
structure SrcFmt where
  enc : Nat
  eight : Bool
deriving DecidableEq, Repr

/-- Where and with which geometry a capture writes (R106): the values of SRC_GEOM, SRC_STRIDE and the buffer address in force when it
starts. -/
structure CapGeo where
  w : Nat
  h : Nat
  stride : Nat
  base : Nat
deriving DecidableEq, Repr

/-- A source frame as it arrives: encoding (0 RGB, 1 YCbCr 4:4:4, 2 YCbCr 4:2:2, 3 unsupported), depth code of SRC_STATUS.BPC, its
lines of component triples. -/
structure SrcFrame where
  enc : Nat
  bpc : Nat
  rows : List (List (Nat × Nat × Nat))
deriving DecidableEq, Repr

/-- A source port: the payload of its record when valid (R102), the 10 ms HPD pulse (R104) and the IRQ_HPD pulse (R105) in progress, DPCD
bytes that the source writes and the link status (R103), the I²C offset of the EDID, the last AUX reply; idle frames (R116), whether the
link has been up since the last knot line, whether SET_POWER asks for sleep, whether C completed after the wake conditions (R117); the
formats of the buffers, a release due at the next knot line (EN = 0); the run of genlocked frames and the measured start of the frame in
capture (R112), whether a fault has sent composition to buffer D for the rest of the frame (R113), a termination trim that waits for the
link, and the set whose termination trim the port runs with (R443; empty: that of the fuses), the frame in capture with its geometry and the
last one that arrived whole. -/
structure SrcSt where
  payload : Option (List Byte)
  hpdPulse : Bool
  irqPulse : Bool
  dpcd : AMap Nat
  i2c : Nat
  auxAck : Nat
  auxData : List Byte
  idle : Nat
  upSince : Bool
  powerSleep : Bool
  fresh : Bool
  fmts : AMap SrcFmt
  drop : Bool
  lmRun : Nat
  lmOfs : Int
  lmFault : Bool
  trimWait : Bool
  trimSet : List Word
  live : Option SrcFrame
  geo : CapGeo
  last : Option SrcFrame
deriving DecidableEq, Repr

/-- A port after reset. -/
def SrcSt.reset : SrcSt := ⟨.none, false, false, [], 0, 0, [], 0, false, false, false, [], false, 0, 0, false, false, [], .none, ⟨0, 0, 0, 0⟩, .none⟩

/-! ### Layer fetch and composition -/

/-- A 64-byte line that a die has fetched (R126): its bytes, and the places in it of the words that returned MEM_UE. -/
structure FetchLine where
  data : List Byte
  bad : List Nat
deriving DecidableEq, Repr

/-- Layer tables and composition: palettes by ((d × 8 + slot) × 2 + bank) × 256 + entry, coefficient banks by ((d × 4 + slot) × 2 + bank) ×
448 + word, LIN and ENC tables by ((d × 7 + slot) × 2 + bank) × 2050 + entry; the 64-byte lines that each die has fetched in this frame (d ×
2^40 + address), and the words of lamp tables that its feeder has read in it (in the same form); the dies fenced at the last knot line; the
composed lines of this frame by d × 65536 + line, after slot 6 and after slot 7, and those of the frame before; the occlusion set of each
die (slot × 2^32 + tile line × 2^16 + tile column); whether a surface has completed since writeback was enabled, and the frame whose
writeback is due. -/
structure CompSt where
  pal : AMap Word
  coef : AMap Word
  lut : AMap Nat
  fetched : AMap (Option FetchLine)
  fed : List Nat
  mask : Nat
  low : AMap (List (List Nat))
  full : AMap (List (List Nat))
  fullOld : AMap (List (List Nat))
  occl : AMap (List Nat)
  wbDue : AMap (Option Nat)
deriving DecidableEq, Repr

/-! ### Belay and Coil (R351 to R363) -/

/-- The fields of a superblock in use (R353). -/
structure Superblock where
  drives : Nat
  idx : Nat
  gen : Nat
  cap : Nat
  setId : Nat
  clipCu : Nat
  clipN : Nat
  plCu : Nat
  plN : Nat
  bootCu : Nat
  bootLen : Nat
deriving DecidableEq, Repr

/-- A clip entry (R355); `ok`: it breaks no rule of R355. -/
structure Clip where
  w : Nat
  h : Nat
  drv : Nat
  fmt : Nat
  start : Nat
  frames : Nat
  stride : Nat
  frameCu : Nat
  ok : Bool
deriving DecidableEq, Repr

/-- A playlist entry (R356); `ok`: its CRC is correct. -/
structure PlEntry where
  rep : Nat
  clip : Nat
  first : Nat
  count : Nat
  ok : Bool
deriving DecidableEq, Repr

/-- A playlist as a playlist buffer holds it (R356, R357); `told`: its invalid entries have set ENTRY_BAD. -/
structure Playlist where
  idx : Nat
  loop : Bool
  entries : List PlEntry
  told : Bool
deriving DecidableEq, Repr

/-- A drive of the content store: superblock in use, I/O errors in a row, down, being reset, and what it showed when it was initialised; whether
it has been ready before, and whether its tables cannot be read; the Read commands of the frame being read that have not completed, as first LBA
and LBAs, and the commands submitted to its I/O queue pair and completed, modulo twice its 256 entries: entry and phase (R351 to R354). -/
structure DriveSt where
  sb : Option Superblock
  errs : Nat
  down : Bool
  resetting : Bool
  id : NvmeId
  seen : Bool
  tabBad : Bool
  io : List (Nat × Nat)
  sq : Nat
  cq : Nat
deriving DecidableEq, Repr

/-- A ring slot in use: its clip, the clip index and the clip frame; full, or being filled (R360). -/
structure RingSlot where
  clip : Clip
  idx : Nat
  frame : Nat
  full : Bool
deriving DecidableEq, Repr

/-- The content store and the Coil stream: drives by die, the bytes of the drives (die × 2^56 + drive byte), clip table, the two playlist
buffers and the active one, the playlist in loading, the ring slots, the slot shown with its playlist entry, the slot released at the last
selection with the place of the frame that last read it, the frame of the last selection, and the ORIGIN that the last event of R358 gave
for ORIGIN_MODE = 1. -/
structure CoilSt where
  drives : AMap DriveSt
  disk : AMap Byte
  clips : List Clip
  pls : AMap (Option Playlist)
  act : Nat
  loading : Option Nat
  ring : AMap (Option RingSlot)
  shown : Option Nat
  entry : Nat
  released : Option (Nat × Nat)
  last : Option Nat
  epoch : Nat
deriving DecidableEq, Repr

/-! ### Lamp pipeline (R198 to R235) -/

/-- The last temperature of a partner and the frame of its report, or of the first frame in which it was seen on an Active strand; whether
it has gone stale (R227). -/
structure TempSt where
  theta : Option Int
  frame : Nat
  stale : Bool
deriving DecidableEq, Repr

/-- A dead lamp of a die in this frame (R220 to R224): pixel, lamp, neighbours with their weights, whether it is among the first 4,096. -/
structure DeadLamp where
  x : Nat
  y : Nat
  r : Nat
  near : List (Int × Int × Nat)
  lends : Bool
deriving DecidableEq, Repr

/-- The lamp pipeline: EOTF banks by (d × 2 + bank) × 12291 + 4097 t + i; overdrive sets by ((d × 2 + bank) × 16 + s) × 8192 + 2048 q + 33 i
+ j and low-grey sets by ((d × 2 + bank) × 4 + g) × 512 + 128 q + i; source addresses of the loads in progress by die; the dynamic list of
each die (x, y, r), what the next frame start adds to it, dies whose list it clears; the carry by lamp (`lampKey`), and the one that this
frame makes; the surface of the last completed overdrive history of each die, the history values of this frame by lamp; bands, the bands
that this frame's tiles use (none: DEF_SET), last temperatures and the frame of the last one by strand × 512 + address; the fenced cells of
each die as of the last knot line (d × 4 + m); the dead lamps of each die in this frame; the groups whose data has been supplied in this
frame (die × 2^32 + line × 2^16 + group), and those whose program has ended in it. `Old`: the same of the frame before, whose last groups may
still end (R252). -/
structure LampSt where
  eotf : AMap Nat
  od : AMap Nat
  lg : AMap Nat
  eotfLoad : AMap (Option Nat)
  outLoad : AMap (Option Nat)
  dyn : AMap (List (Nat × Nat × Nat))
  dynNew : AMap (List (Nat × Nat × Nat))
  dynClr : List Nat
  carry : AMap (Option Nat)
  carryNew : AMap (Option Nat)
  histLast : AMap (Option Nat)
  histNew : AMap Nat
  histOld : AMap Nat
  band : AMap Nat
  bandUse : AMap (Option Nat)
  temp : AMap (Option TempSt)
  cells : AMap Nat
  dead : AMap (List DeadLamp)
  deadOld : AMap (List DeadLamp)
  fed : List Nat
  ended : List Nat
  endedOld : List Nat
deriving DecidableEq, Repr

/-! ### Scan-out (R332 to R343) -/

/-- What a strand sends: a DRIVE packet (frame, partner, segment, first lamp index, codes, canvas lines that it carries) or a ROW command of
class L (frame, line, partner address or 0x3FF, row, T_ON, DUR). -/
inductive Item where
  | drive (frame addr seg first : Nat) (codes : List Nat) (lines : List Nat)
  | row (frame line addr row tOn dur : Nat)
deriving DecidableEq, Repr

/-- Scan-out: drive codes plus 1 of the frame in force and of the one before by lamp (`lampKey`; 0 where none is computed); segment lines
that the packer has taken (frame, segment × 65536 + line); open runs, oldest first, and closed items in the order they leave, by strand;
segments that have underrun (frame, segment); class L lines whose packets are dropped (frame, segment × 65536 + line); dies of which a drive
packet of a frame has left (frame, die); the place, plus 1, of the frame of the last FRAME_DONE of each die; rectangles of the picture check
with a pixel that was not produced by its group's deadline (frame, 16 × die + rectangle; R343). -/
structure ScanSt where
  codes : AMap Nat
  codesOld : AMap Nat
  taken : List (Nat × Nat)
  runs : AMap (List Item)
  queue : AMap (List Item)
  under : List (Nat × Nat)
  cut : List (Nat × Nat)
  sentAny : List (Nat × Nat)
  done : AMap Nat
  late : List (Nat × Nat)
deriving DecidableEq, Repr

/-! ### What goes over a strand (R264 to R278, R294, R295) -/

/-- The fields of a TRAIN block (R294): PHASE, BIDX, RATE, DONE, END, INV, REV, SET, word 1, CNT, SKEW. -/
structure TrainBlk where
  phase : Nat
  bidx : Nat
  rate : Nat
  done : Bool
  chainEnd : Bool
  inv : Bool
  rev : Bool
  set : Bool
  w1 : Nat
  cnt : Nat
  skew : Nat
deriving DecidableEq, Repr

/-- A control block (R268) with its fields. DECL is split into its two parts; `body` of STATUS is word 1. -/
inductive Ctl where
  | idle
  | sync (mode line frame : Nat)
  | mark (lane width bidx rate mseq : Nat)
  | train (t : TrainBlk)
  | cmd (op addr tag arg0 arg1 arg2 : Nat)
  | keep (lead frame adj addr : Nat) (launch : Bool)
  | echo (addr tag seq wait : Nat)
  | ack (addr tag op result reg data : Nat)
  | decl (addr part : Nat) (ovr : Bool) (d : Decl)
  | status (addr f8 body own : Nat)
  | fault (addr : Nat) (lamps : List (Nat × Bool))
  | eq (bidx pre post : Nat) (done : Bool) (fom seq : Nat)
  | wake (addr reason : Nat)
deriving DecidableEq, Repr

/-- What the part puts on a strand: a MARK slot, control slots of one block, a DRIVE packet (frame, partner, segment, first lamp, codes), a
FRAME_SYNC packet (frame, LEAD, ADJ), or `n` inverted bits on bond lane `b` (R320). -/
inductive Tx where
  | mark
  | ctl (c : Ctl)
  | drive (frame addr seg first : Nat) (codes : List Nat)
  | frameSync (frame lead adj : Nat)
  | invert (b n : Nat)
deriving DecidableEq, Repr

/-- A broadcast that is to leave (R289, R312): OP, TAG, ARG0, ARG1, and how many of its copies have not left. -/
structure Bcast where
  op : Nat
  tag : Nat
  arg0 : Nat
  arg1 : Nat
  left : Nat
deriving DecidableEq, Repr

/-! ### Strands (R261 to R322) -/

/-- A command of the part to a partner that is outstanding or waits (R289, R290): partner or 0x3FF, OP, TAG, ARG0, ARG1, repeats
made, whether the host issued it, and whether it is a primer (R310). -/
structure Cmd where
  addr : Nat
  op : Nat
  tag : Nat
  arg0 : Nat
  arg1 : Nat
  tries : Nat
  host : Bool
  primer : Bool
deriving DecidableEq, Repr

/-- A strand, by its global lowest lane: CTL and PRESET as of the last Detect; whether it has been Active since it left OFF, and whether its
STRAND_DOWN episode is open (R299); failed attempts of the step in progress; declarations of the enumeration in progress or in force with
the DECL parts that have arrived (bits 0 and 1), and the sub-step of ENUM: 0 declarations, 1 stamps, 2 trims, 3 code widths; stamp round
trips of the measurement in progress, forward delays, measurements after a jump, acknowledged trims and flags of the last STATUS, by partner
(R90, R91); outstanding and waiting commands and the next TAG; the selection of CAP: rate code, back rate code, width code, PRE and POST;
per bond lane the requests and completion of EQ; a window that has discarded a FAULT (R310); a WAKE held in Dormant (R315); the fence stream
of R27; the last SYNC sent (frame, line); the last launch marker (frame, whether a FRAME_SYNC, lead) and the partners vetoed with it; a
primer stamp is out (R310); a back wake waits for its MARK (R316); the PRBS window in progress: PATH, partner, pattern and the lanes still
to be read; sleep states announced but not yet in force (R313); trims to be written in the next vertical blank (R91); broadcasts that are to
leave, the outstanding one first; a backoff wait that has ended in Dormant (R292); calibrated trims that wait for the next Detect, and the set
whose trims the strand runs with (R443; empty: those of the fuses);
the place of the frame of the last measurement (R91); an episode has begun whose STRAND_DOWN is still to be raised (R299); the AUX state that the
partners were last told (R312); what the strand has sent since the line started, oldest first, and how many packets it has sent back to back
(R267); the rate code, back rate code and width code last selected (R299); the broadcasts that may leave while the forward direction sleeps, with
a burst or behind the preamble of a wake (R314, R316). -/
structure StrandSt where
  ctl : Nat
  preset : Nat
  since : Bool
  episode : Bool
  att : Nat
  decls : AMap (Option Decl)
  parts : AMap Nat
  stage : Nat
  rtts : AMap (List Nat)
  fds : AMap (Option Nat)
  jumps : AMap (List Nat)
  trims : AMap Nat
  flags : AMap Nat
  temps : AMap Nat
  out : List Cmd
  wait : List Cmd
  tag : Nat
  rate : Nat
  back : Nat
  width : Nat
  eqReq : AMap Nat
  eqDone : Nat
  winFault : Bool
  wakeHeld : Bool
  fence : Bool
  sync : Option (Nat × Nat)
  marker : Option (Nat × Bool × Nat)
  vetoes : List Nat
  primer : Bool
  backWake : Bool
  test : Option (Nat × Nat × Nat)
  reads : List Nat
  fwdNext : Option (Nat × Nat)
  trimDue : AMap (Option Nat)
  bcast : List Bcast
  waitDone : Bool
  trimWait : Bool
  trimSet : List Word
  meas : Nat
  due : Bool
  aux : Bool
  sent : List Tx
  run : Nat
  sel : Nat × Nat × Nat
  burst : Nat
deriving DecidableEq, Repr

/-- A strand in OFF that has done nothing yet. (DESIGN CHOICE: notes/assumptions/10.md) -/
def StrandSt.reset : StrandSt :=
  { ctl := 0, preset := 0, since := false, episode := false, att := 0, decls := [], parts := [], stage := 0, rtts := [], fds := []
    jumps := [], trims := [], flags := [], temps := [], out := [], wait := [], tag := 0, rate := 0, back := 8, width := 0, eqReq := []
    eqDone := 0, winFault := false, wakeHeld := false, fence := false, sync := .none, marker := .none, vetoes := [], primer := false
    backWake := false
    test := .none, reads := [], fwdNext := .none, trimDue := [], bcast := [], waitDone := false, trimWait := false, trimSet := []
    meas := 0, due := false, aux := false, sent := [], run := 0, sel := (0, 8, 0), burst := 0 }

/-! ### Partner chips (R277 to R288) -/

/-- A message in a partner's outgoing queue (R278). -/
inductive BackMsg where
  | echo (tag seq : Nat)
  | ack (op tag result reg data : Nat)
  | decl (part : Nat) (excess : Bool)
  | fault (lamps : List (Nat × Bool))
  | status (f8 temp rxErr discard flags : Nat)
deriving DecidableEq, Repr

/-- A class L row in pending or on show: T_ON, DUR and row. -/
structure RowSt where
  tOn : Nat
  dur : Nat
  row : Nat
deriving DecidableEq, Repr

/-- A partner: its declaration; address; the COUNT it relays (R281); configuration registers (R287: CODE_W as written and in force,
KEEP_LIMIT when written, the others), maker's registers; front and back buffer (class L: show and fill) with the salts that name what is not
defined in them, and pending; the row pending and the row driven; the launch scheduled (frame, FRAME_SYNC, instant); last launch frame and
instant; vetoed frames; whether a packet was discarded or a framing lost since the last launch; whether it skips data blocks up to the next
control block, and the frame whose FRAME_SYNC fell among such blocks (R274); launches without a swap in a row; HELD, BLANK, LOST and
LATE_ROW flags; launches since the last STATUS; RX_ERR and DISCARD since then; known faults; sleep states and the one to come with its
frame; TAG of the last broadcast acted on; test window (pattern, direction, lanes); outgoing queue. -/
structure PartnerSt where
  decl : Decl
  addr : Option Nat
  relay : Option Nat
  codeW : Nat
  codeWOn : Nat
  keepLimit : Option Nat
  statusPeriod : Nat
  faultEn : Nat
  trim : Nat
  errTotal : Nat
  maker : AMap Nat
  front : AMap Nat
  frontSalt : Option Nat
  back : AMap Nat
  backSalt : Option Nat
  pending : AMap Nat
  row : Option RowSt
  shown : Option RowSt
  launch : Option (Nat × Bool × Int)
  last : Option (Nat × Int)
  veto : List Nat
  spoiled : Bool
  skip : Bool
  missed : Option Nat
  holds : Nat
  held : Bool
  blank : Bool
  lost : Bool
  lateRow : Bool
  launches : Nat
  rxErr : Nat
  discard : Nat
  faults : List (Nat × Bool)
  fwd : Nat
  fwdNext : Option (Nat × Nat)
  backOff : Bool
  aux : Bool
  tag : Option Nat
  test : Option (Nat × Nat × Nat)
  queue : List BackMsg
deriving DecidableEq, Repr

/-- A declaration of nothing: the partner chip is described by the ENUM that reaches it. -/
def noDecl : Decl := ⟨false, false, 0, 0, 0, 0, 0, 0, 0, 0, 0⟩

/-- A partner after its own reset (R287): no address, its registers at their reset values, its buffers empty.
(DESIGN CHOICE: notes/assumptions/10.md) -/
def PartnerSt.reset : PartnerSt :=
  { decl := noDecl, addr := .none, relay := .none, codeW := 16, codeWOn := 16, keepLimit := .none, statusPeriod := 1, faultEn := 1
    trim := 0, errTotal := 0, maker := [], front := [], frontSalt := .none, back := [], backSalt := .none, pending := [], row := .none
    shown := .none, launch := .none, last := .none, veto := [], spoiled := false, skip := false, missed := .none, holds := 0, held := false, blank := true
    lost := false, lateRow := false, launches := 0, rxErr := 0, discard := 0, faults := [], fwd := 0
    fwdNext := .none, backOff := false, aux := false, tag := .none, test := .none, queue := [] }

/-! ### Job rings (R476 to R481) -/

/-- How a job ends (R417, R479, R481). -/
inductive JobEnd where
  | ok | noGain | outFull | badDesc | memUe | pinBlocked | ioErr | aborted
deriving DecidableEq, Repr

/-- The result of a job: status, DETAIL, OUT_BYTES, IN_BYTES, CHECK (R418). -/
structure JobRes where
  how : JobEnd
  detail : Nat
  out : Nat
  inp : Nat
  check : Nat
deriving DecidableEq, Repr

/-- A job in the queue: its number in order of entry, its ring, the words of its descriptors (one, or a chain of R414, of which 65 at most
are kept), and its result once it has run. -/
structure Job where
  id : Nat
  ring : Nat
  descs : List (List Nat)
  res : Option JobRes
deriving DecidableEq, Repr

/-- A ring: the tail and the head of the doorbells, whether a failed read has ended its fetching, the descriptors of a chain not yet
complete. -/
structure RingSt where
  tail : Nat
  head : Nat
  stopped : Bool
  part : List (List Nat)
deriving DecidableEq, Repr

/-- A ring after reset. -/
def RingSt.reset : RingSt := ⟨0, 0, false, []⟩

/-- The job queue in order of entry, the next job number, the ring whose turn comes first (R477), the rings, and the jobs that have
completed and wait for their record, in order of completion (R480). -/
structure JobSt where
  queue : List Job
  next : Nat
  turn : Nat
  rings : AMap RingSt
  ended : List Nat
deriving DecidableEq, Repr

/-! ### Calibration and pace (R438 to R455) -/

/-- Pace control of a die: the supply step that AVSBus has commanded and not acknowledged (VCODE), how often it has timed out, one that
has failed three times, whether a step is settling; whether the frame is marked shed-wanted, whether every margin of the frame was high
and whether there was one; high frames in a row; the largest group cost of the line in progress and of the one before. -/
structure PaceSt where
  cmd : Option Nat
  tries : Nat
  failed : Option Nat
  settling : Bool
  marked : Bool
  allHigh : Bool
  any : Bool
  high : Nat
  cost : Nat
  costPrev : Nat
deriving DecidableEq, Repr

/-- Pace control after reset. (DESIGN CHOICE: notes/assumptions/10.md) -/
def PaceSt.reset : PaceSt := ⟨.none, 0, .none, false, false, true, false, 0, 0, 0⟩

/-- Calibration: REF_MODE in force; dies that have lost VREF_EXT; whether THERM_WARN waits to be armed again; samples at or above 110 °C
in a row, by die; words of the trim sets by die × 64 + index (none: at the fuse trim), words written for a new set; RATIO of the pace
chains by die × 8 + block (none: from fuses); pace control by die; the mean results of the rows that have passed, by row × 4096 + instance
(R442); the sets that have been in force with the ratios they hold (die, words, RATIO of the blocks); the sets whose strand trims, and whose
DisplayPort termination, wait to be taken, by die (R443). -/
structure CalSt where
  mode : Nat
  lost : List Nat
  warned : Bool
  hot : AMap Nat
  trims : AMap (Option Word)
  newTrims : AMap (Option Word)
  ratio : AMap (Option Nat)
  pace : AMap PaceSt
  means : AMap (Option Int)
  sets : List (Nat × List Word × List Nat)
  strNew : AMap (List Word)
  portNew : AMap (List Word)
deriving DecidableEq, Repr

/-! ### JTAG (R516) -/

/-- The states of an IEEE 1149.1 TAP controller. -/
inductive TapState where
  | reset | idle | selDr | capDr | shDr | ex1Dr | pauDr | ex2Dr | updDr | selIr | capIr | shIr | ex1Ir | pauIr | ex2Ir | updIr
deriving DecidableEq, Repr

/-- What one die's instruction register holds: IDCODE, BYPASS, or another instruction with its bits. -/
inductive TapInstr where
  | idcode | bypass
  | other (ir : List Bool)
deriving DecidableEq, Repr

/-- The TAPs of the chain: controller state, the instructions by die (of a die beyond the list IDCODE), the shift path of the data registers and
that of the instruction registers from TDO towards TDI, what TDO drives (none: high impedance). -/
structure TapSt where
  st : TapState
  instrs : List TapInstr
  path : List Bool
  ir : List Bool
  tdo : Option Bool
deriving DecidableEq, Repr

/-! ### Host endpoint and management port -/

/-- An entry of the MSI-X table (R470, R483): address, data, mask bit. -/
structure MsixVec where
  addr : Nat
  data : Nat
  masked : Bool
deriving DecidableEq, Repr

/-- An MSI-X table entry after reset: masked, as PCIe defines. (PRESUMED: notes/assumptions/14.md) -/
def MsixVec.dflt : MsixVec := ⟨0, 0, true⟩

/-- The endpoint and the ports as seen from outside: vectors whose message has been sent and not re-armed, pending bits, messages
sent (newest first), the MSI-X table, the configuration bits that act on the part, the configuration registers that only hold what
is written, what the last host read and the last SPI frame returned, RESULT of the last management write frame (R487), and the
host's memory as the part's bus-master accesses see it. -/
structure HostSt where
  sent : List Nat
  pba : Nat
  messages : List Nat
  vectors : AMap MsixVec
  busMaster : Bool
  memSpace : Bool
  msixEn : Bool
  funcMask : Bool
  d3 : Bool
  cfg : AMap Word
  perst : Bool
  rcPerst : AMap Bool
  rdData : List Byte
  rdPoison : Bool
  miso : List Byte
  frameRes : Nat
  mem : AMap Byte
deriving DecidableEq, Repr


/-! ### The whole state -/

/-- Everything of the block but its die count, its DRAM and its command queue. -/
structure Dev where
  /-- Registers by BAR0 offset: current value, for RWS fields the active value. -/
  regs : AMap Word
  /-- Shadows of the RWS fields (R171). -/
  shadow : AMap Word
  /-- A `_LO` write held for its `_HI` (R16), by requester and offset. -/
  heldLo : AMap (Option Word)
  /-- A `_HI` value latched by a read of its `_LO` (R16), by requester and offset. -/
  latchHi : AMap (Option Word)
  /-- Snapshot values (R191), by offset. -/
  snap : AMap (Option Word)
  /-- Registers that latch a first event and hold one (R388, R373, R475): by offset. -/
  latched : AMap Bool
  /-- How many free values have been drawn (the model's own field). -/
  free : Nat
  boot : BootSt
  image : Option Image
  knot : KnotSt
  mem : MemSt
  /-- Engines by d × 128 + b × 16 + c. -/
  engines : AMap Engine
  host : HostSt
  nvm : NvmSt
  tb : TbSt
  /-- Source ports by die. -/
  src : AMap SrcSt
  comp : CompSt
  /-- The register values in force for the work of the frame (R177): the active values at its start. -/
  work : AMap Word
  /-- The same of the frame before. -/
  workOld : AMap Word
  coil : CoilSt
  lamp : LampSt
  scan : ScanSt
  /-- Strands by global lowest lane. -/
  strands : AMap StrandSt
  /-- Partners by strand × 512 + place in the chain. -/
  partners : AMap PartnerSt
  jobs : JobSt
  cal : CalSt
  tap : TapSt
  /-- What the window of a die fenced at run time reads (R496), by offset. -/
  frozen : AMap Word
  /-- The same with the active values of RWS fields, for KNOT_PEEK_DATA (R172). -/
  frozenAct : AMap Word
  /-- Layer slots and strands of the image that was in force when a die was fenced, by die (R496). -/
  frozenShape : AMap (Option (Nat × List StrandEnt))
  /-- The fuse maps that the dies have loaded (R46), by die. -/
  fuse : AMap FuseMap
  /-- The hold buffers of R464: back blocks that have arrived while their region was in Nap or Deep, in order, each with its global lane. -/
  hold : List (Nat × Instr)
deriving DecidableEq, Repr

/-- The part: die count (R2), DRAM by device address (R13), the DRAM bytes that the command in progress has written, newest
first, everything else, and the commands that wait. -/
structure State where
  dies : Nat
  dram : List Host.Cell
  journal : List Host.Cell
  dev : Dev
  pending : List Instr
deriving DecidableEq, Repr

/-- Reasons for a fault: the block has none (every command has an effect, is ignored, or is refused). -/
inductive Fault where
  /-- Raised by no command. Safe. -/
  | none
deriving DecidableEq, Repr

/-- Reasons for a refusal. -/
inductive Refusal where
  /-- Answered by exec for a command without a meaning yet. Safe. -/
  | notModelled (mnemonic : String)
  /-- Answered by RESET_L_RELEASE without a running reference or with a supply out of range: the spec defines no behaviour
  (R42, R9). Safe. -/
  | undefinedRelease
  /-- Answered by RESET_L_ASSERT with a pulse longer than 1 µs and shorter than 10 µs: the spec defines no behaviour (R517). Safe. -/
  | undefinedPulse
  /-- Answered by POWER_DOWN with RESET_L high: a supply out of range has an undefined effect (R505, R9). Safe. -/
  | undefinedSupply
deriving DecidableEq, Repr

/-- The memory controllers after reset: nothing buffered, nothing repaired. -/
def MemSt.reset : MemSt := ⟨[], [], [], [], [], [], [], [], [], [], [], [], [], []⟩

/-- The mode machine after reset: each requester's copy of CHIP_MODE_REQ reads 0x3, nothing pending. -/
def BootSt.reset : BootSt :=
  ⟨⟨3, 0⟩, ⟨3, 0⟩, 0, false, .none, true, false, 0, false, [], .none, false, false, false, .none, [], 0, [], 0⟩

/-- The knot machine after reset. -/
def KnotSt.reset : KnotSt := ⟨[], false, 0, [], [], [], 0, []⟩

/-- The endpoint after reset: configuration space at its defaults, nothing sent. (DESIGN CHOICE: notes/assumptions/11.md) -/
def HostSt.reset : HostSt :=
  ⟨[], 0, [], [], false, false, false, false, false, [], false, [], [], false, [], 0, []⟩

/-- The record store of a part that has written no record. (DESIGN CHOICE: notes/assumptions/11.md) -/
def NvmSt.reset : NvmSt := ⟨[], [], [], [], []⟩

/-- The timebase after reset. -/
def TbSt.reset : TbSt :=
  ⟨.reset, 0, false, 0, [], 0, 0, 0, .none, [], [], .none, 0, .none, 0, 0, .none, false, 0, []⟩

/-- Palettes 0, standard coefficients, identity tables: all at their defaults. -/
def CompSt.reset : CompSt := ⟨[], [], [], [], [], 0, [], [], [], [], []⟩

/-- A drive not yet known. -/
def DriveSt.none' : DriveSt := ⟨.none, 0, false, false, ⟨false, 512, 0, 0⟩, false, false, [], 0, 0⟩

/-- The content store after reset: no drive known, the ring empty. (DESIGN CHOICE: notes/assumptions/11.md) -/
def CoilSt.reset : CoilSt := ⟨[], [], [], [], 0, .none, [], .none, 0, .none, .none, 0⟩

/-- The lamp pipeline after reset: linear tables, identity sets, nothing listed. -/
def LampSt.reset : LampSt := ⟨[], [], [], [], [], [], [], [], [], [], [], [], [], [], [], [], [], [], [], [], [], []⟩

/-- Scan-out after reset. -/
def ScanSt.reset : ScanSt := ⟨[], [], [], [], [], [], [], [], [], []⟩

/-- The job queue after reset. -/
def JobSt.reset : JobSt := ⟨[], 0, 0, [], []⟩

/-- Calibration after reset: fuse trims, mode INTERNAL (R438). -/
def CalSt.reset : CalSt := ⟨0, [], false, [], [], [], [], [], [], [], [], []⟩

/-- The TAP after power-up. -/
def TapSt.reset : TapSt := ⟨.reset, [], [], [], .none⟩

/-- A fuse map before it is loaded. (DESIGN CHOICE: notes/assumptions/10.md) -/
def noFuse : FuseMap := ⟨0, [], [], [], [], [], true⟩

/-- Everything but die count, DRAM and queue right after reset: every register at the value the register index gives.
(DESIGN CHOICE: notes/assumptions/10.md) -/
def Dev.reset : Dev :=
  { regs := [], shadow := [], heldLo := [], latchHi := [], snap := [], latched := [], free := 0, boot := .reset, image := .none,
    knot := .reset
    mem := .reset
    engines := []
    host := .reset
    nvm := .reset
    tb := .reset
    src := []
    comp := .reset
    work := []
    workOld := []
    coil := .reset
    lamp := .reset
    scan := .reset
    strands := []
    partners := []
    jobs := .reset
    cal := .reset
    tap := .reset
    frozen := []
    frozenAct := []
    frozenShape := []
    fuse := []
    hold := []
  }

/-- The machine right after reset: an IMZ8-8B (DESIGN CHOICE: notes/assumptions/3.md) in mode Reset with RESET_L low, supplies up. -/
def State.reset : State := { dies := 8, dram := [], journal := [], dev := .reset, pending := [] }

end Sys2Proof.Machine
end

