-- ==== Sys2Proof/Machine/Ops.lean ====
section
/-! DEFINITION. The named operations that every meaning is written over: registers and their fields, free values, events and
errors (R475, R482 to R484, R489), dies, modes, and how a command's effect becomes the next state. -/
namespace Sys2Proof.Machine

/-- An outcome of a command. -/
abbrev Out := Host.Outcome State Fault Refusal

/-! ### From an effect to the next state -/

/-- One byte written to DRAM; a byte equal to what an unlisted address reads as is not listed. (DESIGN CHOICE: notes/assumptions/5.md) -/
def dramSet (m : List Host.Cell) (a : Nat) (b : Byte) : List Host.Cell := AMap.set (fun _ => (0 : Byte)) m a b

/-- DRAM after the writes of a journal, newest first. -/
def dramCommit (m : List Host.Cell) : List Host.Cell → List Host.Cell
  | [] => m
  | (a, b) :: t => dramSet (dramCommit m t) a b

/-- The next state of a command whose effect `f` writes DRAM: its DRAM writes land in the order made. The die count and the queue
are no part of any effect. -/
def State.run (s : State) (f : State → State) : State :=
  let t := f { s with journal := [] }
  { s with dev := t.dev, dram := dramCommit s.dram t.journal, journal := [] }

/-- The next state of a command that writes no DRAM. -/
def State.runDev (s : State) (f : State → State) : State :=
  { s with dev := (f { s with journal := [] }).dev, journal := [] }

/-! ### Registers -/

/-- The current (active) value of the register at BAR0 offset `a`. -/
def State.regW (s : State) (a : Nat) : Word := s.dev.regs.get (resetWord s.dies) a

/-- The shadow of the register at `a` (R171). -/
def State.shW (s : State) (a : Nat) : Word := s.dev.shadow.get (resetWord s.dies) a

/-- The current value as a number. -/
def State.reg (s : State) (a : Nat) : Nat := (s.regW a).toNat

/-- Write the current value. -/
def State.setReg (s : State) (a v : Nat) : State :=
  { s with dev := { s.dev with regs := s.dev.regs.set (resetWord s.dies) a (BitVec.ofNat 32 v) } }

/-- Write the shadow. -/
def State.setSh (s : State) (a v : Nat) : State :=
  { s with dev := { s.dev with shadow := s.dev.shadow.set (resetWord s.dies) a (BitVec.ofNat 32 v) } }

/-- The RWS bits of the register at BAR0 offset `a`. -/
def rwsBits (a : Nat) : Nat := match findReg (decide (0x10000 ≤ a)) (a % 0x10000) with
  | some r => r.rws
  | none => 0

/-- The shadow of the register at `a` with its other bits as they are. -/
def State.shadowed (s : State) (a : Nat) : Nat :=
  let m := BitVec.ofNat 32 (rwsBits a)
  ((s.shW a &&& m) ||| (s.regW a &&& ~~~m)).toNat

/-- A field of a word. -/
def Fd.get (f : Fd) (v : Nat) : Nat := v / 2 ^ f.lsb % 2 ^ f.w

/-- A word with a field replaced; a value wider than the field keeps its low bits. -/
def Fd.put (f : Fd) (v x : Nat) : Nat := v - f.get v * 2 ^ f.lsb + x % 2 ^ f.w * 2 ^ f.lsb

/-- A field of the register at `a`. -/
def State.f (s : State) (a : Nat) (f : Fd) : Nat := f.get (s.reg a)

/-- A one-bit field as a truth value. -/
def State.b (s : State) (a : Nat) (f : Fd) : Bool := s.f a f != 0

/-- Write a field of the register at `a`. -/
def State.setF (s : State) (a : Nat) (f : Fd) (x : Nat) : State := s.setReg a (f.put (s.reg a) x)

/-- Set a one-bit field. -/
def State.setB (s : State) (a : Nat) (f : Fd) (x : Bool) : State := s.setF a f (if x then 1 else 0)

/-- Bit `i` of a number. -/
def bitOf (v i : Nat) : Bool := v / 2 ^ i % 2 = 1

/-- A number with bit `i` set. -/
def setBit (v i : Nat) : Nat := if bitOf v i then v else v + 2 ^ i

/-- A number with bit `i` cleared. -/
def clrBit (v i : Nat) : Nat := if bitOf v i then v - 2 ^ i else v

/-- Set bit `i` of a field. -/
def State.setBitF (s : State) (a : Nat) (f : Fd) (i : Nat) : State := s.setF a f (setBit (s.f a f) i)

/-- Clear bit `i` of a field. -/
def State.clrBitF (s : State) (a : Nat) (f : Fd) (i : Nat) : State := s.setF a f (clrBit (s.f a f) i)

/-- Add to a 32-bit count that saturates. -/
def State.countN (s : State) (a n : Nat) : State := s.setReg a (min 0xFFFFFFFF (s.reg a + n))

/-- Count one event in a 32-bit count that saturates. -/
def State.count (s : State) (a : Nat) : State := s.countN a 1

/-- Add to a count held in a field, saturating at the field's largest value. -/
def State.countF (s : State) (a : Nat) (f : Fd) (n : Nat) : State := s.setF a f (min (2 ^ f.w - 1) (s.f a f + n))

/-- The two halves of a `_LO`/`_HI` pair as one number, the high half as far as `hiBits` bits. -/
def State.pair (s : State) (lo hi hiBits : Nat) : Nat := s.reg lo + 2 ^ 32 * (s.reg hi % 2 ^ hiBits)

/-- Write a pair whose high register holds `hiBits` bits of the value and nothing else. -/
def State.setPair (s : State) (lo hi hiBits v : Nat) : State :=
  (s.setReg lo (v % 2 ^ 32)).setReg hi (v / 2 ^ 32 % 2 ^ hiBits)

/-- Write a pair whose high register keeps its bits above `hiBits`. -/
def State.setPairKeep (s : State) (lo hi hiBits v : Nat) : State :=
  (s.setReg lo (v % 2 ^ 32)).setF hi ⟨0, hiBits⟩ (v / 2 ^ 32)

/-! ### Free values -/

/-- Draw a value that no rule states. (DESIGN CHOICE: notes/assumptions/2.md) -/
def State.draw (s : State) : Nat × State :=
  ((Config.freeWord s.dev.free).toNat, { s with dev := { s.dev with free := s.dev.free + 1 } })

/-! ### Modes (R34) -/

/-- The modes of R34. -/
inductive Mode where
  | reset | load | test | idle | live | belay | coil | lanyardOnly | calibrate | linkTest | dormant | reload
deriving DecidableEq, Repr

/-- The code of a mode in CHIP_MODE.MODE. -/
def Mode.code : Mode → Nat
  | .reset => 0 | .load => 1 | .test => 2 | .idle => 3 | .live => 4 | .belay => 5 | .coil => 6 | .lanyardOnly => 7
  | .calibrate => 8 | .linkTest => 9 | .dormant => 10 | .reload => 11

/-- The mode of a code; 0xC to 0xF are reserved. -/
def Mode.ofCode : Nat → Option Mode
  | 0 => some .reset | 1 => some .load | 2 => some .test | 3 => some .idle | 4 => some .live | 5 => some .belay
  | 6 => some .coil | 7 => some .lanyardOnly | 8 => some .calibrate | 9 => some .linkTest | 10 => some .dormant
  | 11 => some .reload | _ => none

/-- The mode the part is in: CHIP_MODE.MODE. -/
def State.mode (s : State) : Mode := (Mode.ofCode (s.f CHIP_MODE CHIP_MODE.MODE)).getD .reset

/-- The operating modes (R35). -/
def Mode.operating : Mode → Bool
  | .idle | .live | .belay | .coil | .lanyardOnly | .calibrate | .linkTest | .reload => true
  | .reset | .load | .test | .dormant => false

/-- The raster runs in the operating modes, from the knot of an installation on (R66, R78), and goes on in Dormant (R466). -/
def State.rasterOn (s : State) : Bool := s.mode.operating || s.mode = .dormant

/-! ### Dies -/

/-- The part has a die in slot `d` (R3). -/
def State.populated (s : State) (d : Nat) : Bool := d < s.dies

/-- Die `d` is fenced. -/
def State.fenced (s : State) (d : Nat) : Bool := bitOf (s.f CHIP_DIES CHIP_DIES.FENCED) d

/-- Die `d` is populated and unfenced. -/
def State.live (s : State) (d : Nat) : Bool := s.populated d && !s.fenced d

/-- The populated, unfenced dies, in increasing number. -/
def State.liveDies (s : State) : List Nat := (List.range s.dies).filter (s.live ·)

/-- The window of die `d` takes writes: populated and unfenced, apart from registers the part itself keeps. -/
def State.onDies (s : State) (f : State → Nat → State) : State := s.liveDies.foldl f s

/-! ### Events and errors -/

/-- The events of R482, by their bit and vector. -/
inductive Ev where
  | err | vbStart | lineMatch (k : Nat) | frameDone | underrun | knotDone | knotDefer | pinViolation | pckMismatch
  | strandUp | strandDown | srcSleep | srcWake | coilEvent | eccCe | eccUe | eccUeBg | scrubStarved | nvmTie | nvmDone
  | calFail | paceLow | thermWarn | thermCrit
deriving DecidableEq, Repr

/-- Bit and vector of an event (R482). -/
def Ev.bit : Ev → Nat
  | .err => 0 | .vbStart => 1 | .lineMatch k => 2 + k % 4 | .frameDone => 6 | .underrun => 7 | .knotDone => 8 | .knotDefer => 9
  | .pinViolation => 10 | .pckMismatch => 11 | .strandUp => 12 | .strandDown => 13 | .srcSleep => 14 | .srcWake => 15
  | .coilEvent => 16 | .eccCe => 17 | .eccUe => 18 | .eccUeBg => 19 | .scrubStarved => 20 | .nvmTie => 21 | .nvmDone => 22
  | .calFail => 23 | .paceLow => 24 | .thermWarn => 25 | .thermCrit => 26

/-- The endpoint can send the message of vector `v` now (R483): MSI-X enabled, bus mastering enabled, neither the function nor the
vector masked. -/
def State.msixOpen (s : State) (v : Nat) : Bool :=
  s.dev.host.msixEn && s.dev.host.busMaster && !s.dev.host.funcMask && !(s.dev.host.vectors.look MsixVec.dflt v).masked

/-- Signal vector `v` (R483): a vector whose message has gone out and whose bits have not all been cleared sends no further one; a
vector that cannot send sets its pending bit. -/
def State.msix (s : State) (v : Nat) : State :=
  let x := s.dev.host
  if x.sent.contains v then s
  else
    let x := { x with sent := v :: x.sent }
    let x := if s.msixOpen v then { x with messages := v :: x.messages } else { x with pba := setBit x.pba v }
    { s with dev := { s.dev with host := x } }

/-- All bits of vector `v` have been cleared (R483): the next one that is set sends a message again. -/
def State.msixRearm (s : State) (v : Nat) : State :=
  let x := s.dev.host
  { s with dev := { s.dev with host := { x with sent := x.sent.filter (· != v), pba := clrBit x.pba v } } }

/-- Send the pending messages that can be sent now (R483). -/
def State.msixFlush (s : State) : State :=
  (List.range 64).foldl (fun s v =>
    if bitOf s.dev.host.pba v && s.msixOpen v then
      let x := s.dev.host
      { s with dev := { s.dev with host := { x with pba := clrBit x.pba v, messages := v :: x.messages } } }
    else s) s

/-- Set an event's bit in the host copy (R482) and send its message when enabled (R483). -/
def State.evHost (s : State) (e : Nat) : State :=
  let s := s.setBitF HOST_IRQ_STAT HOST_IRQ_STAT.EVENT e
  if bitOf (s.f HOST_IRQ_EN HOST_IRQ_EN.EVENT) e then s.msix e else s

/-- Set an event's bit in the management copy (R482); INT_L follows from the register (R484). -/
def State.evMgmt (s : State) (e : Nat) : State := s.setBitF HOST_MGMT_IRQ_STAT HOST_MGMT_IRQ_STAT.EVENT e

/-- An event sets its bit in both copies (R482). -/
def State.ev (s : State) (e : Ev) : State := (s.evHost e.bit).evMgmt e.bit

/-- INT_L is driven low (R484). -/
def State.intLow (s : State) : Bool :=
  Nat.land (s.f HOST_MGMT_IRQ_STAT HOST_MGMT_IRQ_STAT.EVENT) (s.f HOST_MGMT_IRQ_EN HOST_MGMT_IRQ_EN.EVENT) != 0

/-- JOB_DONE of ring r (R482): its bit of HOST_IRQ_JOB and vector 32 + r; no management copy. -/
def State.jobDone (s : State) (r : Nat) : State :=
  let s := s.setBitF HOST_IRQ_JOB HOST_IRQ_JOB.RING r
  if bitOf (s.f HOST_IRQ_JOB_EN HOST_IRQ_JOB_EN.RING) r then s.msix (32 + r) else s

/-- Set a field of ERR_STATUS and raise ERR. -/
def State.err (s : State) (f : Fd) : State := (s.setF ERR_STATUS f 1).ev .err

/-- Set bit `d` of a per-die field of ERR_STATUS and raise ERR. -/
def State.errDieBit (s : State) (f : Fd) (d : Nat) : State := (s.setBitF ERR_STATUS f d).ev .err

/-- Latch a first event in the register at `key`, unless it holds one already. -/
def State.latchOnce (s : State) (key : Nat) (f : State → State) : State :=
  if s.dev.latched.look false key then s
  else f { s with dev := { s.dev with latched := s.dev.latched.put false key true } }

/-- Re-arm the register at `key`. -/
def State.unlatch (s : State) (key : Nat) : State :=
  { s with dev := { s.dev with latched := s.dev.latched.put false key false } }

/-- An access error (R475): counted, the first since the count was last read latched, ERR_STATUS.ACCESS set.
(DEDUCED: notes/assumptions/23.md) -/
def State.accErr (s : State) (cause off : Nat) : State :=
  ((s.latchOnce HOST_ACC_ERR (·.setReg HOST_ACC_ERR (cause % 16 * 2 ^ 28 + off % 2 ^ 20))).count HOST_ACC_ERR_CNT).err ERR_STATUS.ACCESS

/-- Bits [hi:lo] of the register at `a` are not all 0. -/
def State.anyBits (s : State) (a lo w : Nat) : Bool := s.reg a / 2 ^ lo % 2 ^ w != 0

/-- ERR_DIE_d: the OR of the leaf bits of each class on die d; the CELL and BLOCK bits are kept until PE_FENCE_CAUSE is read. -/
def State.errDie (s : State) (d : Nat) : Nat :=
  let bit (c : Bool) (k : Nat) : Nat := if c then 2 ^ k else 0
  s.reg (ERR_DIE d) / 128 % 4 * 128
  + bit (s.reg (CAL_PACE_STAT d) / 2 ^ CAL_PACE_STAT.AVS_ERR.lsb % 2 = 1) 6
  + bit (s.b (PCK_STATUS d) PCK_STATUS.INCOMPLETE) 5
  + bit (s.reg (MEM_STATUS d) != 0 || s.anyBits (ECC_STATUS d) 4 2) 4
  + bit (s.anyBits (LAMP_STATUS d) 0 2 || s.anyBits (LAMP_OUT_STATUS d) 0 2 || s.anyBits (LAMP_CONC_STATUS d) 31 1) 3
  + bit ((List.range 16).any fun n => s.reg (STR_PERR d n) != 0 || s.anyBits (STR_EVT d n) 27 3 || s.anyBits (STR_PRBS_STAT d n) 27 3) 2
  + bit (s.anyBits (SRC_EVT d) 0 6) 1
  + bit (s.reg (DIE_XFIFO_ERR d) != 0) 0

/-- A change `f` of leaf bits of die `d`: when an ERR_DIE_d bit rises, ERR_STATUS.DIE_ERR[d] is set and ERR raised. -/
def State.leafOf (s : State) (d : Nat) (f : State → State) : State :=
  let t := f s
  let o := s.errDie d
  let n := t.errDie d
  if (List.range 9).any (fun k => bitOf n k && !bitOf o k) then t.errDieBit ERR_STATUS.DIE_ERR d else t

/-- Set a leaf bit of die `d`. -/
def State.leaf (s : State) (d a : Nat) (f : Fd) : State := s.leafOf d (·.setF a f 1)

/-- Set bit `i` of a leaf field of die `d`. -/
def State.leafBit (s : State) (d a : Nat) (f : Fd) (i : Nat) : State := s.leafOf d (·.setBitF a f i)

end Sys2Proof.Machine
end

