-- ==== Sys2Proof/Machine/Operands.lean ====
section
/-! DEFINITION. Operand forms: rounding (R11), saturation ranges (R247), signed and fixed-point readings of words (R10), lists of
bytes as little-endian numbers (R12), and the operand fields of engine instructions (R246). -/
namespace Sys2Proof.Machine

/-- A value divided by 2^n and rounded by R11: half of the target LSB is added, then truncation toward negative infinity. -/
def rshift (x : Int) (n : Nat) : Int := if n = 0 then x else (x + 2 ^ (n - 1)) / 2 ^ n

/-- A value divided by a positive whole number and rounded by R11. -/
def rdiv (x : Int) (n : Nat) : Int := (2 * x + n) / (2 * n)

/-- The nearest value of [lo, hi] (R11). -/
def clampI (lo hi x : Int) : Int := if x < lo then lo else if hi < x then hi else x

/-- A word as an operand: unsigned or signed (UA, UB of R246). -/
def opnd (unsigned : Bool) (w : Word) : Int := if unsigned then (w.toNat : Int) else w.toInt

/-- The low `n` bits of a number as a two's complement value. -/
def sext (n v : Nat) : Int := if v % 2 ^ n < 2 ^ (n - 1) then (v % 2 ^ n : Nat) else (v % 2 ^ n : Nat) - (2 ^ n : Int)

/-- The SAT codes of R247: the result word; code 7 is undefined. -/
def satCode (code : Nat) (x : Int) : Option Word :=
  match code with
  | 0 => some (BitVec.ofInt 32 x)
  | 1 => some (BitVec.ofInt 32 (clampI (-0x80000000) 0x7FFFFFFF x))
  | 2 => some (BitVec.ofInt 32 (clampI 0 0xFFFF x))
  | 3 => some (BitVec.ofInt 32 (clampI 0 0xFFFFFF x))
  | 4 => some (BitVec.ofInt 32 (clampI 0 0x100000 x))
  | 5 => some (BitVec.ofInt 32 (clampI (-0x800000) 0x7FFFFF x))
  | 6 => some (BitVec.ofInt 32 (clampI 0 0xFFFFFFFF x))
  | _ => none

/-- Saturation under a SAT code that R247 defines. -/
def sat (code : Nat) (x : Int) : Word := (satCode code x).getD (BitVec.ofInt 32 x)

/-- CLMP counts a lane whose value SAT lowers (R245, R218): the value of the result lies below it. -/
def satLowers (code : Nat) (x : Int) : Bool :=
  match code with
  | 1 => decide (0x7FFFFFFF < x)
  | 2 => decide (0xFFFF < x)
  | 3 => decide (0xFFFFFF < x)
  | 4 => decide (0x100000 < x)
  | 5 => decide (0x7FFFFF < x)
  | 6 => decide (0xFFFFFFFF < x)
  | _ => false

/-- A little-endian number from its bytes (R12). -/
def leNat : List Byte → Nat
  | [] => 0
  | b :: t => b.toNat + 256 * leNat t

/-- The `n` low bytes of a number, little-endian (R12). -/
def leBytes : Nat → Nat → List Byte
  | 0, _ => []
  | n + 1, v => BitVec.ofNat 8 v :: leBytes n (v / 256)

/-- Element size in bytes of a SIZE code (R246). -/
def sizeBytes (code : Nat) : Nat := if code = 0 then 1 else if code = 1 then 2 else 4

/-- An element extended to a word (SX of R246). -/
def extend (size : Nat) (sx : Bool) (v : Nat) : Word :=
  if sx then BitVec.ofInt 32 (sext (8 * sizeBytes size) v) else BitVec.ofNat 32 v

/-- Left shift of FEED: SHL codes 0, 4, 8 and 16 bits (R246). -/
def feedShift (code : Nat) : Nat := if code = 0 then 0 else if code = 1 then 4 else if code = 2 then 8 else 16

end Sys2Proof.Machine
end

