-- ==== Sys2Proof/Machine/Flags.lean ====
section
/-! DEFINITION. Flag computations: the predicate bit that CMP sets in a lane (R245, R246) and the bit that SKIP tests. -/
namespace Sys2Proof.Machine

/-- The condition codes of CMP (R246): EQ, NE, LT, LE, GT, GE; `none` for a code that is not defined. -/
def cmpCond (cond : Nat) (a b : Int) : Option Bool :=
  match cond with
  | 0 => some (a = b)
  | 1 => some (a ≠ b)
  | 2 => some (a < b)
  | 3 => some (a ≤ b)
  | 4 => some (b < a)
  | 5 => some (b ≤ a)
  | _ => none

/-- SKIP is taken when bit `bit` of the scalar equals SENSE (R245). -/
def skipTaken (v : Word) (bit : Nat) (sense : Bool) : Bool := bitOf v.toNat bit == sense

end Sys2Proof.Machine
end

