-- ==== Sys2Proof/Machine/Engine.lean ====
section
/-! DEFINITION. A pixel engine: its registers, scratchpad, feed slots and instructions (R237 to R252), and the interpolations of
overdrive, low-grey shaping and dither (R228 to R231). Functions of one engine; the meanings apply them to an engine of the part. -/
namespace Sys2Proof.Machine

/-- What an engine reads besides its own state: the EOTF banks by scratchpad address, the overdrive and low-grey tables of the
bank in force, and whether a table word of its block is unreadable (R368). -/
structure Tabs where
  eotf : Nat → Byte
  od : Nat → Nat → Nat → Nat → Nat
  lg : Nat → Nat → Nat → Nat
  odBad : Nat → Nat → Nat → Nat → Bool
  lgBad : Nat → Nat → Nat → Bool

/-! ### Registers -/

/-- Lane k of vector register r. -/
def Engine.vl (e : Engine) (r k : Nat) : Word := e.v.look 0 (4 * r + k)

/-- Scalar register r. -/
def Engine.sr (e : Engine) (r : Nat) : Word := e.sc.look 0 r

/-- Accumulator of lane k. -/
def Engine.al (e : Engine) (k : Nat) : Int := e.acc.look 0 k

/-- Predicate of lane k. -/
def Engine.pl (e : Engine) (k : Nat) : Bool := e.p.look false k

/-- Write the four lanes of a vector register. -/
def Engine.setV (e : Engine) (r : Nat) (f : Nat → Word) : Engine :=
  { e with v := (List.range 4).foldl (fun v k => v.put 0 (4 * r + k) (f k)) e.v }

/-- Write a scalar register. -/
def Engine.setS (e : Engine) (r : Nat) (w : Word) : Engine := { e with sc := e.sc.put 0 r w }

/-- Write the four accumulators, saturating at −2^63 and 2^63 − 1 (R237). -/
def Engine.setAcc (e : Engine) (f : Nat → Int) : Engine :=
  { e with acc := (List.range 4).foldl (fun a k => a.put 0 k (clampI (-(2 ^ 63)) (2 ^ 63 - 1) (f k))) e.acc }

/-- Write the four predicates. -/
def Engine.setP (e : Engine) (f : Nat → Bool) : Engine :=
  { e with p := (List.range 4).foldl (fun p k => p.put false k (f k)) e.p }

/-! ### Pending results and cost (R248 to R250) -/

/-- Write a pending result to its VD. -/
def Engine.deliver (e : Engine) (r : PendRes) : Engine :=
  { e.setV r.vd (fun k => r.lanes.getD k 0) with pend := e.pend.filter (· != r) }

/-- An instruction that reads a VD with a pending result waits until it arrives (R249). -/
def Engine.await (e : Engine) (srcs : List Nat) : Engine :=
  (e.pend.filter (fun r => srcs.contains r.vd)).foldl (fun e r => { e.deliver r with hs := max e.hs r.ready }) e

/-- Wait for the sources, then occupy the engine for `cost` handshakes and step to the next instruction (R248). -/
def Engine.issue (e : Engine) (srcs : List Nat) (cost : Nat) : Engine :=
  let e := e.await srcs
  { e with hs := e.hs + cost, pc := e.pc + 1 }

/-! ### Scratchpad and feed slots (R238, R242) -/

/-- A byte of the scratchpad; outside it reads 0. -/
def Engine.padByte (t : Tabs) (e : Engine) (a : Nat) : Byte :=
  if a < 0x12200 then t.eotf a else if a < 0x18000 then e.pad.look 0 a else 0

/-- `n` bytes of the scratchpad, little-endian. -/
def Engine.padRead (t : Tabs) (e : Engine) (a n : Nat) : Nat := leNat ((List.range n).map fun i => e.padByte t (a + i))

/-- The access counts in PE_ACC_ERR (R247): a byte of it lies at or above 0x1_8000. -/
def padOut (a n : Nat) : Bool := 0x18000 < a + n

/-- An engine's store lands only in the work area (R247). -/
def padStoreOk (a n : Nat) : Bool := 0x12200 ≤ a && a + n ≤ 0x17C00

/-- The address of the feed slot in use. -/
def Engine.slotBase (e : Engine) : Nat := 0x17C00 + 0x200 * e.slot

/-- `n` bytes of the feed slot at offset `o`. -/
def Engine.slotRd (t : Tabs) (e : Engine) (o n : Nat) : Nat := e.padRead t (e.slotBase + o) n

/-- FLAGS.MASK of the slot: lane k is valid (R240). -/
def Engine.valid (t : Tabs) (e : Engine) (k : Nat) : Bool := bitOf (e.slotRd t 8 4) k

/-- Count accesses that read 0 or were discarded. -/
def Engine.errs (e : Engine) (n : Nat) : Engine := { e with accErr := e.accErr + n }

/-- How many of the four lanes satisfy `f`. -/
def lanes (f : Nat → Bool) : Nat := ((List.range 4).filter f).length

/-! ### Instructions (R245) -/

/-- NOP. -/
def Engine.nop (e : Engine) : Engine := e.issue [] 1

/-- FEED: element k of the slot field, extended, shifted left. -/
def Engine.feed (t : Tabs) (vd size : Nat) (sx : Bool) (shl off : Nat) (e : Engine) : Engine :=
  let e := e.issue [] (if sizeBytes size = 4 then 2 else 1)
  let n := sizeBytes size
  (e.setV vd fun k => extend size sx (e.slotRd t (off + n * k) n) <<< feedShift shl).errs (lanes fun k => padOut (e.slotBase + off + n * k) n)

/-- FEEDC: the effective coefficient S24((M_k << 8) + (δ_k << (12 − E_k))). -/
def Engine.feedc (t : Tabs) (vd : Nat) (esel : Bool) (off : Nat) (e : Engine) : Engine :=
  let e := e.issue [] 2
  (e.setV vd fun k =>
    let m := sext 16 (e.slotRd t (off + 2 * k) 2)
    let dl := sext 8 (e.slotRd t (off + 8 + k) 1)
    let x := e.slotRd t ((if esel then 0x14 else 0x10) + k) 1
    sat 5 (m * 256 + dl * 2 ^ (12 - x))).errs
    (lanes (fun k => padOut (e.slotBase + off + 2 * k) 2) + lanes (fun k => padOut (e.slotBase + off + 8 + k) 1))

/-- FEEDS: a slot word into a scalar register. -/
def Engine.feeds (t : Tabs) (sd off : Nat) (e : Engine) : Engine :=
  let e := e.issue [] 1
  e.setS sd (BitVec.ofNat 32 (e.slotRd t off 4))

/-- TLD: a scratchpad element per lane. -/
def Engine.tld (t : Tabs) (vd va size : Nat) (sx : Bool) (disp : Nat) (e : Engine) : Engine :=
  let e := e.issue [va] 2
  let n := sizeBytes size
  let ad := fun k => (e.vl va k).toNat + disp
  (e.setV vd fun k => extend size sx (e.padRead t (ad k) n)).errs (lanes fun k => padOut (ad k) n)

/-- TST: a scratchpad element stored per lane, lane 0 first; a store outside the work area is discarded and counted. -/
def Engine.tst (va vb size disp : Nat) (e : Engine) : Engine :=
  let e := e.issue [va, vb] 3
  let n := sizeBytes size
  (List.range 4).foldl (fun e k =>
    let a := (e.vl va k).toNat + disp
    if padStoreOk a n then
      { e with pad := (List.range n).foldl (fun p i => p.put 0 (a + i) ((e.vl vb k).extractLsb' (8 * i) 8)) e.pad }
    else e.errs 1) e

/-- TLDS: a scratchpad word into a scalar register. -/
def Engine.tlds (t : Tabs) (sd sa disp : Nat) (e : Engine) : Engine :=
  let e := e.issue [] 2
  let a := (e.sr sa).toNat + disp
  (e.setS sd (BitVec.ofNat 32 (e.padRead t a 4))).errs (if padOut a 4 then 1 else 0)

/-- Entry size of an EF code (R246): U24, U16 or s32. -/
def efBytes (ef : Nat) : Nat := if ef = 0 then 3 else if ef = 1 then 2 else 4

/-- A table entry read in its format. -/
def efVal (ef v : Nat) : Int := if ef = 2 then sext 32 v else (v : Int)

/-- The range of an entry format. -/
def efClamp (ef : Nat) (x : Int) : Int :=
  if ef = 0 then clampI 0 0xFFFFFF x else if ef = 1 then clampI 0 0xFFFF x else clampI (-0x80000000) 0x7FFFFFFF x

/-- LUT1: one-dimensional interpolation (R247). -/
def Engine.lut1 (t : Tabs) (vd va sb sh ef : Nat) (e : Engine) : Engine :=
  let e := e.issue [va] 3
  let n := efBytes ef
  let i := fun k => (e.vl va k).toNat / 2 ^ sh
  let f := fun k => (e.vl va k).toNat % 2 ^ sh
  let a := fun k => (e.sr sb).toNat + i k * n
  (e.setV vd fun k =>
      let t0 := efVal ef (e.padRead t (a k) n)
      let t1 := if f k = 0 then t0 else efVal ef (e.padRead t (a k + n) n)
      BitVec.ofInt 32 (efClamp ef (t0 + rshift ((t1 - t0) * (f k : Int)) sh))).errs
    (lanes (fun k => padOut (a k) n) + lanes (fun k => f k != 0 && padOut (a k + n) n))

/-- Overdrive interpolation (R228) of the current target c from the previous target p. -/
def overdrive (T : Nat → Nat → Nat) (p c : Nat) : Nat :=
  let i := p / 2 ^ 15
  let fi := p % 2 ^ 15
  let j := c / 2 ^ 15
  let fj := c % 2 ^ 15
  let row := fun i => T i j * (32768 - fj) + (if fj = 0 then 0 else T i (j + 1) * fj)
  let s := row i * (32768 - fi) + (if fi = 0 then 0 else row (i + 1) * fi)
  (clampI 0 0x100000 (rshift s 25)).toNat

/-- Low-grey shaping (R229) of a target below the knee 2^k. -/
def lowGrey (L : Nat → Nat) (k t : Nat) : Nat :=
  let i := t / 2 ^ (k - 6)
  let f := t % 2 ^ (k - 6)
  (clampI 0 0x100000 (rshift ((min (L i) 0x10000 * (2 ^ (k - 6) - f) + (if f = 0 then 0 else min (L (i + 1)) 0x10000 * f) : Nat) : Int) 10)).toNat

/-- A table entry that R228 reads lies in an unreadable word; an entry with weight 0 is not read. -/
def overdriveBad (t : Tabs) (s q p c : Nat) : Bool :=
  let i := p / 2 ^ 15
  let fi := p % 2 ^ 15
  let j := c / 2 ^ 15
  let fj := c % 2 ^ 15
  t.odBad s q i j || (fj != 0 && t.odBad s q i (j + 1)) || (fi != 0 && t.odBad s q (i + 1) j) ||
    (fi != 0 && fj != 0 && t.odBad s q (i + 1) (j + 1))

/-- A curve entry that R229 reads for target t under knee 2^k lies in an unreadable word. -/
def lowGreyBad (t : Tabs) (k g q x : Nat) : Bool :=
  let i := x / 2 ^ (k - 6)
  t.lgBad g q i || (x % 2 ^ (k - 6) != 0 && t.lgBad g q (i + 1))

/-- Issue ODI or LGI: the result arrives within 16 handshakes of the issue (R249). -/
def Engine.later (vd : Nat) (srcs : List Nat) (f : Engine → Nat → Word) (e : Engine) : Engine :=
  let e := e.await srcs
  let r : PendRes := ⟨vd, (List.range 4).map (f e), e.hs + 16⟩
  { e with pend := e.pend ++ [r], hs := e.hs + 2, pc := e.pc + 1 }

/-- ODI: overdrive of VB from VA in primary q, set VD[3:0]; VB unchanged where VD[4] is set. -/
def Engine.odi (t : Tabs) (vd va vb q : Nat) : Engine → Engine :=
  Engine.later vd [vd, va, vb] fun e k =>
    let w := (e.vl vd k).toNat
    let p := (e.vl va k).toNat
    let c := (e.vl vb k).toNat
    if bitOf w 4 || overdriveBad t (w % 16) q p c then e.vl vb k
    else BitVec.ofNat 32 (overdrive (t.od (w % 16) q) p c)

/-- LGI: low-grey shaping of VA in primary q with knee 2^kn, curve set VD[1:0]; VA unchanged where VD[7] is set. -/
def Engine.lgi (t : Tabs) (kn vd va q : Nat) : Engine → Engine :=
  Engine.later vd [vd, va] fun e k =>
    let w := (e.vl vd k).toNat
    let x := (e.vl va k).toNat
    if bitOf w 7 || 2 ^ kn ≤ x || lowGreyBad t kn (w % 4) q x then e.vl va k
    else BitVec.ofNat 32 (lowGrey (t.lg (w % 4) q) kn x)

/-- The valid lanes whose ODI entry cannot be read (R368). -/
def Engine.odiBad (t : Tabs) (vd va vb q : Nat) (e : Engine) : Nat :=
  let e := e.await [vd, va, vb]
  lanes fun k => e.valid t k && !bitOf (e.vl vd k).toNat 4 &&
    overdriveBad t ((e.vl vd k).toNat % 16) q (e.vl va k).toNat (e.vl vb k).toNat

/-- The valid lanes whose LGI entry cannot be read (R368). -/
def Engine.lgiBad (t : Tabs) (kn vd va q : Nat) (e : Engine) : Nat :=
  let e := e.await [vd, va]
  lanes fun k => e.valid t k && !bitOf (e.vl vd k).toNat 7 && (e.vl va k).toNat < 2 ^ kn &&
    lowGreyBad t kn ((e.vl vd k).toNat % 4) q (e.vl va k).toNat

/-- The result of an ODI or LGI to `vd` arrives; no instruction waits for it (R249). -/
def Engine.result (vd : Nat) (e : Engine) : Engine := (e.pend.filter (fun r => r.vd = vd)).foldl (fun e r => e.deliver r) e

/-- MULA: ACC = VA × VB. -/
def Engine.mula (va vb : Nat) (ua ub : Bool) (e : Engine) : Engine :=
  let e := e.issue [va, vb] 2
  e.setAcc fun k => opnd ua (e.vl va k) * opnd ub (e.vl vb k)

/-- MACA: ACC = ACC + VA × VB. -/
def Engine.maca (va vb : Nat) (ua ub : Bool) (e : Engine) : Engine :=
  let e := e.issue [va, vb] 2
  e.setAcc fun k => e.al k + opnd ua (e.vl va k) * opnd ub (e.vl vb k)

/-- ADDA: ACC = ACC + (VA << SH). -/
def Engine.adda (va : Nat) (ua : Bool) (sh : Nat) (e : Engine) : Engine :=
  let e := e.issue [va] 1
  e.setAcc fun k => e.al k + opnd ua (e.vl va k) * 2 ^ sh

/-- RDA: VD = SAT(round(ACC / 2^N)). -/
def Engine.rda (vd n sc : Nat) (e : Engine) : Engine :=
  let e := e.issue [] 1
  e.setV vd fun k => sat sc (rshift (e.al k) n)

/-- MULR: VD = SAT(round(VA × VB / 2^N)). -/
def Engine.mulr (vd va vb : Nat) (ua ub : Bool) (n sc : Nat) (e : Engine) : Engine :=
  let e := e.issue [va, vb] 2
  e.setV vd fun k => sat sc (rshift (opnd ua (e.vl va k) * opnd ub (e.vl vb k)) n)

/-- An instruction of one handshake from VA and VB to VD, lane by lane. -/
def Engine.lane2 (vd va vb : Nat) (f : Word → Word → Word) (e : Engine) : Engine :=
  let e := e.issue [va, vb] 1
  e.setV vd fun k => f (e.vl va k) (e.vl vb k)

/-- SHL, SHR: the shift amount, from the instruction or from VB[4:0]. -/
def shiftAmt (byreg : Bool) (amt : Nat) (b : Word) : Nat := if byreg then b.toNat % 32 else amt

/-- SHL: VD = SAT(VA << AMT), VA signed. -/
def Engine.shl (vd va vb : Nat) (byreg : Bool) (amt sc : Nat) (e : Engine) : Engine :=
  let e := e.issue (if byreg then [va, vb] else [va]) 1
  e.setV vd fun k => sat sc ((e.vl va k).toInt * 2 ^ shiftAmt byreg amt (e.vl vb k))

/-- SHR: VD = SAT(VA >> AMT), logical or arithmetic, rounded when RND = 1. -/
def Engine.shr (vd va vb : Nat) (byreg : Bool) (amt : Nat) (arith rnd : Bool) (sc : Nat) (e : Engine) : Engine :=
  let e := e.issue (if byreg then [va, vb] else [va]) 1
  e.setV vd fun k =>
    let x := opnd (!arith) (e.vl va k)
    let n := shiftAmt byreg amt (e.vl vb k)
    sat sc (if rnd then rshift x n else x / 2 ^ n)

/-- CLMP: VD = SAT(VA), VA signed; CNT counts the valid lanes that SAT lowers. -/
def Engine.clmp (t : Tabs) (vd va sc : Nat) (cnt : Bool) (e : Engine) : Engine :=
  let e := e.issue [va] 1
  let n := if cnt then lanes fun k => e.valid t k && satLowers sc (e.vl va k).toInt else 0
  { e.setV vd (fun k => sat sc (e.vl va k).toInt) with clips := e.clips + n }

/-- CMP: the predicate of each lane. -/
def Engine.cmp (va vb : Nat) (ua : Bool) (cond : Nat) (e : Engine) : Engine :=
  let e := e.issue [va, vb] 1
  e.setP fun k => (cmpCond cond (opnd ua (e.vl va k)) (opnd ua (e.vl vb k))).getD (e.pl k)

/-- SEL: VA where the predicate is set, else VB. -/
def Engine.sel (vd va vb : Nat) (e : Engine) : Engine :=
  let e := e.issue [va, vb] 1
  e.setV vd fun k => if e.pl k then e.vl va k else e.vl vb k

/-- VBC: a scalar in every lane. -/
def Engine.vbc (vd sa : Nat) (e : Engine) : Engine :=
  let e := e.issue [] 1
  e.setV vd fun _ => e.sr sa

/-- An immediate loaded: sign-extended, or into the high half with the low half kept (R245). -/
def loadImm (hi : Bool) (imm : Nat) (old : Word) : Word :=
  if hi then BitVec.ofNat 32 (imm % 0x10000 * 0x10000 + old.toNat % 0x10000) else BitVec.ofInt 32 (sext 16 imm)

/-- VLDI. -/
def Engine.vldi (vd : Nat) (hi : Bool) (imm : Nat) (e : Engine) : Engine :=
  let e := e.issue (if hi then [vd] else []) 1
  e.setV vd fun k => loadImm hi imm (e.vl vd k)

/-- SLDI. -/
def Engine.sldi (sd : Nat) (hi : Bool) (imm : Nat) (e : Engine) : Engine :=
  let e := e.issue [] 1
  e.setS sd (loadImm hi imm (e.sr sd))

/-- SADD: SD = SA + SB modulo 2^32. -/
def Engine.sadd (sd sa sb : Nat) (e : Engine) : Engine :=
  let e := e.issue [] 1
  e.setS sd (e.sr sa + e.sr sb)

/-- The drive code of R230 from target t, maximum code m = 2^Wc − 1 and threshold th. -/
def dither (on : Bool) (t m th : Nat) : Nat :=
  min m ((t * m + (if on then th * 0x1000 + 0x800 else 0x80000)) / 0x100000)

/-- DITH: MODE 0 dithers, 1 uses the EN_DITHER = 0 rule, 2 dithers unless FLAGS.EN_DITHER is 0 or SHED[16] is 1. -/
def Engine.dith (t : Tabs) (vd va vb mode : Nat) (e : Engine) : Engine :=
  let e := e.issue [vd, va, vb] 2
  let fl := e.slotRd t 8 4
  let on := mode = 0 || (mode = 2 && bitOf fl 8 && !bitOf fl 16)
  e.setV vd fun k => BitVec.ofNat 32 (dither on (e.vl va k).toNat (e.vl vb k).toNat ((e.vl vd k).toNat % 256))

/-- The DEAD bit of lamp m in lane k of the slot. -/
def Engine.dead (t : Tabs) (e : Engine) (k m : Nat) : Bool := bitOf (e.slotRd t (0x160 + k) 1) m

/-- EMIT: VA of each valid lane to a stream (R252); a carry only for a lane whose lamp is dead. -/
def Engine.emit (t : Tabs) (va stream lamp : Nat) (deadz : Bool) (e : Engine) : Engine :=
  let e := e.issue [va] 1
  (List.range 4).foldl (fun e k =>
    if e.valid t k && (stream != 2 || e.dead t k lamp) then
      let x := if deadz && e.dead t k lamp then 0 else e.vl va k
      { e with emits := AMap.insert e.emits (12 * stream + 4 * lamp + k) x }
    else e) e

/-- SKIP: when bit BIT of SA equals SENSE the next N instructions are not executed. -/
def Engine.skip (sa bit : Nat) (sense : Bool) (n : Nat) (e : Engine) : Engine :=
  let e := e.issue [] 1
  if skipTaken (e.sr sa) bit sense then { e with pc := e.pc + n } else e

/-- END: it issues, every pending result arrives, then the program ends (R249, R250). -/
def Engine.endProg (e : Engine) : Engine :=
  let e := (e.issue [] 1).await (e.pend.map (·.vd))
  { e with ended := true }

end Sys2Proof.Machine
end

