-- ==== Sys2Proof/Machine/Crc.lean ====
section
/-! DEFINITION. The check codes of the spec: CRC-32C of image sections (R55), CRC-32 of the picture check (R342), CRC-16 of
control blocks, packets and SPI frames (R269, R485), the SHA-256 digest (R61), and the SECDED (72,64) code (R378, R379). -/
namespace Sys2Proof.Machine

/-- `n` steps of a reflected CRC register: shift right, XOR the reflected polynomial when the bit shifted out is 1. -/
def crcRefl (poly : BitVec 32) : Nat → BitVec 32 → BitVec 32
  | 0, c => c
  | n + 1, c => crcRefl poly n (if c.getLsbD 0 then (c >>> 1) ^^^ poly else c >>> 1)

/-- A reflected CRC-32 register fed a byte, least significant bit first. -/
def crcReflByte (poly c : BitVec 32) (b : Byte) : BitVec 32 := crcRefl poly 8 (c ^^^ b.setWidth 32)

/-- CRC-32 of the picture check (R342): polynomial 0x04C11DB7 reflected, initial value and final XOR all ones. -/
def crc32 (bs : List Byte) : BitVec 32 := bs.foldl (crcReflByte 0xEDB88320) 0xFFFFFFFF ^^^ 0xFFFFFFFF

/-- CRC-32C of an image section (R55): the Castagnoli polynomial 0x1EDC6F41 reflected. -/
def crc32c (bs : List Byte) : BitVec 32 := bs.foldl (crcReflByte 0x82F63B78) 0xFFFFFFFF ^^^ 0xFFFFFFFF

/-- `n` steps of the CRC-16 register, most significant bit first. -/
def crcStep16 : Nat → BitVec 16 → BitVec 16
  | 0, c => c
  | n + 1, c => crcStep16 n (if c.getLsbD 15 then (c <<< 1) ^^^ 0x1021 else c <<< 1)

/-- CRC-16 of R269: polynomial 0x1021, initial value 0xFFFF, no reflection, no final XOR. -/
def crc16 (bs : List Byte) : BitVec 16 :=
  bs.foldl (fun c b => crcStep16 8 (c ^^^ (BitVec.ofNat 16 (256 * b.toNat)))) 0xFFFF

/-! ### SHA-256 (R61) -/

/-- The 32-bit words that a number of 256 bits holds, its most significant word first. -/
def words256 (v : Nat) : List Nat := (List.range 8).map fun i => v / 2 ^ (224 - 32 * i) % 2 ^ 32

/-- The round constants of SHA-256, eight to a number. -/
def shaK : List Nat :=
  words256 0x428a2f9871374491b5c0fbcfe9b5dba53956c25b59f111f1923f82a4ab1c5ed5 ++
  words256 0xd807aa9812835b01243185be550c7dc372be5d7480deb1fe9bdc06a7c19bf174 ++
  words256 0xe49b69c1efbe47860fc19dc6240ca1cc2de92c6f4a7484aa5cb0a9dc76f988da ++
  words256 0x983e5152a831c66db00327c8bf597fc7c6e00bf3d5a7914706ca635114292967 ++
  words256 0x27b70a852e1b21384d2c6dfc53380d13650a7354766a0abb81c2c92e92722c85 ++
  words256 0xa2bfe8a1a81a664bc24b8b70c76c51a3d192e819d6990624f40e3585106aa070 ++
  words256 0x19a4c1161e376c082748774c34b0bcb5391c0cb34ed8aa4a5b9cca4f682e6ff3 ++
  words256 0x748f82ee78a5636f84c878148cc7020890befffaa4506cebbef9a3f7c67178f2

/-- The initial hash value of SHA-256. -/
def shaInit : List Nat := words256 0x6a09e667bb67ae853c6ef372a54ff53a510e527f9b05688c1f83d9ab5be0cd19

/-- A 32-bit word rotated right by `n` bits. -/
def rotr (x n : Nat) : Nat := Nat.lor (x / 2 ^ n) (x * 2 ^ (32 - n) % 2 ^ 32)

/-- The XOR of three words. -/
def xor3 (x y z : Nat) : Nat := Nat.xor (Nat.xor x y) z

/-- Extend the message schedule, newest word first, by `n` words. -/
def shaExtend : Nat → List Nat → List Nat
  | 0, w => w
  | n + 1, w =>
    let s1 := xor3 (rotr (w.getD 1 0) 17) (rotr (w.getD 1 0) 19) (w.getD 1 0 / 2 ^ 10)
    let s0 := xor3 (rotr (w.getD 14 0) 7) (rotr (w.getD 14 0) 18) (w.getD 14 0 / 2 ^ 3)
    shaExtend n ((w.getD 15 0 + s0 + w.getD 6 0 + s1) % 2 ^ 32 :: w)

/-- One round on the working variables a to h; `kw` is the sum of the round constant and the word of the schedule. -/
def shaRound (v : List Nat) (kw : Nat) : List Nat :=
  match v with
  | [a, b, c, d, e, f, g, h] =>
    let t1 := h + xor3 (rotr e 6) (rotr e 11) (rotr e 25) + Nat.xor (Nat.land e f) (Nat.land (2 ^ 32 - 1 - e) g) + kw
    let t2 := xor3 (rotr a 2) (rotr a 13) (rotr a 22) + xor3 (Nat.land a b) (Nat.land a c) (Nat.land b c)
    [(t1 + t2) % 2 ^ 32, a, b, c, (d + t1) % 2 ^ 32, e, f, g]
  | _ => v

/-- Words of a byte list, big-endian, `n` of them. -/
def beWords : Nat → List Byte → List Nat
  | 0, _ => []
  | n + 1, bs => leNat (bs.take 4).reverse :: beWords n (bs.drop 4)

/-- One block of 64 bytes. -/
def shaBlock (h : List Nat) (b : List Byte) : List Nat :=
  let w := (shaExtend 48 (beWords 16 b).reverse).reverse
  let v := (shaK.zip w).foldl (fun v kw => shaRound v (kw.1 + kw.2)) h
  (h.zip v).map fun x => (x.1 + x.2) % 2 ^ 32

/-- `n` blocks. -/
def shaBlocks : Nat → List Nat → List Byte → List Nat
  | 0, h, _ => h
  | n + 1, h, bs => shaBlocks n (shaBlock h (bs.take 64)) (bs.drop 64)

/-- SHA-256: the 32 digest bytes in the order of the standard. -/
def sha256 (bs : List Byte) : List Byte :=
  let n := bs.length
  let z := (119 - n % 64) % 64
  let p := bs ++ [0x80] ++ List.replicate z 0 ++ (leBytes 8 (8 * n)).reverse
  (shaBlocks (p.length / 64) shaInit p).flatMap fun w => (leBytes 4 w).reverse

/-! ### SECDED (72,64) -/

/-- The number of ones in a byte value. -/
def weight8 (v : Nat) : Nat := (List.range 8).foldl (fun n i => n + v / 2 ^ i % 2) 0

/-- The columns of data bits 0 to 63 (R378): the 56 byte values of weight 3 in increasing order, then the first eight of weight 5. -/
def eccColumns : List Nat :=
  (List.range 256).filter (weight8 · = 3) ++ ((List.range 256).filter (weight8 · = 5)).take 8

/-- The check byte of a 64-bit word (R378): the XOR of the columns of its set bits. -/
def eccCheck (data : Nat) : Nat :=
  (eccColumns.zip (List.range 64)).foldl (fun c ci => if bitOf data ci.2 then Nat.xor c ci.1 else c) 0

/-- What a syndrome says (R379). -/
inductive Synd where
  | ok
  | data (i : Nat)
  | check (j : Nat)
  | ue
deriving DecidableEq, Repr

/-- The decoding of a syndrome (R379). -/
def eccDecode (synd : Nat) : Synd :=
  if synd = 0 then .ok
  else if synd = 0xFF then .ue
  else match eccColumns.findIdx? (· = synd) with
    | some i => .data i
    | none => if weight8 synd = 1 then .check (Nat.log2 synd) else .ue

/-- The syndrome of a code word of 72 bits: data 0 to 63, check bits 64 to 71. -/
def eccSyndrome (code : Nat) : Nat := Nat.xor (eccCheck (code % 2 ^ 64)) (code / 2 ^ 64 % 256)

/-- What a checker answers to a code word (R379, R50). -/
def eccAnswer (code : Nat) : EccCheck :=
  match eccDecode (eccSyndrome code) with
  | .ok => .noError
  | .data i => .corrected i
  | .check j => .corrected (64 + j)
  | .ue => .uncorrectable

/-- The patterns P0 to P7 of R50: data word, code bits inverted before the checker, expected result. -/
def eccPatterns : List (Nat × List Nat × EccCheck) :=
  let d := 0xA5A55A5AC3C33C3C
  [(0, [], .noError), (0xFFFFFFFFFFFFFFFF, [], .noError), (d, [0], .corrected 0), (d, [63], .corrected 63), (d, [64], .corrected 64),
    (d, [71], .corrected 71), (d, [0, 1], .uncorrectable), (d, [63, 64], .uncorrectable)]

/-- The code word that a pattern drives into a checker. -/
def eccDriven (p : Nat × List Nat × EccCheck) : Nat := p.2.1.foldl (fun c i => Nat.xor c (2 ^ i)) (p.1 + 2 ^ 64 * eccCheck p.1)

/-- A checker that answers `rs` to the patterns passes: every pattern gives its expected result (R48, items 4 and 5). -/
def checkerPasses (rs : List EccCheck) : Bool := rs = eccPatterns.map (·.2.2)

/-- The data that a read returns for stored data and syndrome: a data bit in error is inverted. -/
def eccFix (data synd : Nat) : Nat :=
  match eccDecode synd with
  | .data i => Nat.xor data (2 ^ i)
  | .ok | .check _ | .ue => data

end Sys2Proof.Machine
end

