-- ==== Sys2Proof/Machine/Trim.lean ====
section
/-! DEFINITION. Trim sets (R442, R443, R445): the words of a die's set, the rows of R441 that their bits belong to, the ratios of the pace
chains that a set holds, and the trims that wait for a strand's Detect or a port's link. -/
namespace Sys2Proof.Machine

/-- Put the calibration unit back. -/
def State.setCal (s : State) (c : CalSt) : State := { s with dev := { s.dev with cal := c } }

/-- The fuse map that die d has loaded (R46). -/
def State.fuseMap (s : State) (d : Nat) : FuseMap := s.dev.fuse.look noFuse d

/-- The CRC-32C of words 0 to 62 of a trim set and of die d's fuse identity (R445). -/
def State.trimCrc (s : State) (d : Nat) (ws : List Word) : Word :=
  crc32c (ws.flatMap (fun w => leBytes 4 w.toNat) ++ (s.fuseMap d).ident)

/-- Word `k` of the trims of die d in force, from the fuse map until a calibration or a write replaces it. -/
def State.trimForce (s : State) (d k : Nat) : Word := (s.dev.cal.trims.look none (d * 64 + k)).getD ((s.fuseMap d).trims.getD k 0)

/-- Words 0 to 62 of the trims of die d in force. -/
def State.trimWords (s : State) (d : Nat) : List Word := (List.range 63).map (s.trimForce d)

/-- A word of die d's trim set as CAL_TRIM_DATA reads it; word 63 is the CRC (R445). -/
def State.trimWord (s : State) (d i : Nat) : Word := if i = 63 then s.trimCrc d (s.trimWords d) else s.trimForce d i

/-- A read of CAL_TRIM_DATA of die d: the word that CAL_TRIM_IDX names, and the step of the index (R445). -/
def State.trimRead (s : State) (d : Nat) : Word × State :=
  let i := s.f (CAL_TRIM_IDX d) CAL_TRIM_IDX.IDX
  (s.trimWord d i, s.setF (CAL_TRIM_IDX d) CAL_TRIM_IDX.IDX ((i + 1) % 64))

/-- RATIO of block `b` of die d (R449). -/
def State.ratio (s : State) (d b : Nat) : Nat := (s.dev.cal.ratio.look none (d * 8 + b)).getD ((s.fuseMap d).ratio.getD b 0)

/-- The bits of word `i` that hold trims of the rows `rows`. (DEDUCED: notes/assumptions/17.md) -/
def trimMask (rows : Nat → Bool) (i : Nat) : Word :=
  BitVec.ofNat 32 ((List.range 32).foldl (fun m b => if rows (Config.trimRow (32 * i + b)) then m + 2 ^ b else m) 0)

/-- The words `old` with the trims of the rows `rows` as `new` has them. -/
def mixTrims (rows : Nat → Bool) (old new : List Word) : List Word :=
  (List.range 63).map fun i => (old.getD i 0 &&& ~~~(trimMask rows i)) ||| (new.getD i 0 &&& trimMask rows i)

/-- The rows whose trims wait for a strand's Detect (swing and termination), and for a port's link (R443). -/
def rowStrand (k : Nat) : Bool := k = 3 || k = 4
def rowPort (k : Nat) : Bool := k = 5

/-- The rows whose trims take effect at once. -/
def rowDirect (k : Nat) : Bool := !rowStrand k && !rowPort k

/-- The trims of die d in force become `ws`; with them goes what ratios they hold. -/
def State.setTrims (s : State) (d : Nat) (ws : List Word) : State :=
  let c := s.dev.cal
  s.setCal { c with
    trims := ws.zipIdx.foldl (fun (m : AMap (Option Word)) e => m.put none (d * 64 + e.2) (some e.1)) c.trims
    sets := (d, ws, (List.range 8).map (s.ratio d)) :: c.sets.filter fun x => !(x.1 = d && x.2.1 = ws) }

/-- The trims of die d of the rows `rows` become those of `ws`. -/
def State.trimTake (s : State) (d : Nat) (rows : Nat → Bool) (ws : List Word) : State := s.setTrims d (mixTrims rows (s.trimWords d) ws)

/-- The ratios that the set `ws` of die d holds, when it is one that has been in force (R445). (DEDUCED: notes/assumptions/17.md) -/
def State.ratiosOf (s : State) (d : Nat) (ws : List Word) : Option (List Nat) :=
  match s.dev.cal.sets.find? fun x => x.1 = d && x.2.1 = ws with
  | some x => some x.2.2
  | none => if ws = (List.range 63).map (fun k => (s.fuseMap d).trims.getD k 0) then some ((List.range 8).map fun b => (s.fuseMap d).ratio.getD b 0)
    else none

/-- RATIO of the blocks of die d. -/
def State.setRatios (s : State) (d : Nat) (rs : List Nat) : State :=
  s.setCal { s.dev.cal with ratio := rs.zipIdx.foldl (fun (m : AMap (Option Nat)) e => m.put none (d * 8 + e.2) (some e.1)) s.dev.cal.ratio }

/-- The words of die d as they will be when nothing waits any more. -/
def State.trimTarget (s : State) (d : Nat) : List Word :=
  let c := s.dev.cal
  let ws := s.trimWords d
  let ws := if (c.strNew.look [] d).isEmpty then ws else mixTrims rowStrand ws (c.strNew.look [] d)
  if (c.portNew.look [] d).isEmpty then ws else mixTrims rowPort ws (c.portNew.look [] d)

/-- Nothing waits for die d's port any more. -/
def State.dropPortNew (s : State) (d : Nat) : State := s.setCal { s.dev.cal with portNew := s.dev.cal.portNew.put [] d [] }

end Sys2Proof.Machine
end

