-- ==== Sys2Proof/Machine/Image.lean ====
section
/-! DEFINITION. The structure image: its layout (R53 to R59, R255, R257, R324 to R330) and checks 1 to 7 and the content checks of
check 9 (R62, R520, R258, R328). The knot rules of check 9 and the installation stand with the loader. -/
namespace Sys2Proof.Machine

/-- The 32-bit word at byte `o` of a byte list. -/
def wordAt (bs : List Byte) (o : Nat) : Nat := leNat ((bs.drop o).take 4)

/-- Bits [hi:lo] of a word. -/
def bits (v hi lo : Nat) : Nat := v / 2 ^ lo % 2 ^ (hi + 1 - lo)

/-! ### Engine instructions as words (R244 to R246, R250) -/

/-- The fields that a V-format instruction may use: VD, VA, VB and a mask of MOD bits; and a test of its MOD values. -/
def insV (w : Nat) (vd va vb : Bool) (modMask : Nat) (ok : Bool) : Bool :=
  (vd || bits w 25 22 = 0) && (va || bits w 21 18 = 0) && (vb || bits w 17 14 = 0) &&
    Nat.land (bits w 13 0) (0x3FFF - modMask) = 0 && ok

/-- The instruction word is defined: a listed opcode, no reserved field or bit set, every code defined (R258 case 3). -/
def insOk (w : Nat) : Bool :=
  let size := bits w 13 12
  let satOk := bits w 5 3 != 7
  match bits w 31 26 with
  | 0x00 | 0x3F => bits w 25 0 = 0
  | 0x01 => insV w true false false 0x3FFF (size != 3 && bits w 8 0 % sizeBytes size = 0)
  | 0x02 => insV w true false false 0x03FF (bits w 8 0 % 4 = 0)
  | 0x03 => insV w true false false 0x01FF (bits w 8 0 % 4 = 0)
  | 0x08 => insV w true true false 0x3FFF (size != 3)
  | 0x09 => insV w false true true 0x3FFF (size != 3)
  | 0x0A => insV w true true false 0x3FFF (size = 2)
  | 0x10 => insV w true true false 0x3FF8 (1 ≤ bits w 9 5 && bits w 9 5 ≤ 16 && bits w 4 3 != 3)
  | 0x11 => insV w true true true 0x3000 (size != 3)
  | 0x12 => insV w true true false 0x3000 (size != 3)
  | 0x18 | 0x19 => insV w false true true 0x3000 true
  | 0x1A => insV w false true false 0x2FC0 (bits w 11 6 ≤ 32)
  | 0x1B => insV w true false false 0x0FF8 satOk
  | 0x1C => insV w true true true 0x3FF8 satOk
  | 0x20 | 0x21 => insV w true true true 0x2038 satOk
  | 0x22 => insV w true true (bits w 2 2 = 1) 0x0FFC (satOk && bits w 11 6 ≤ 31)
  | 0x23 => insV w true true (bits w 2 2 = 1) 0x3FFC (satOk && bits w 11 6 ≤ 31)
  | 0x24 | 0x25 => insV w true true true 0x2000 true
  | 0x26 => insV w true true false 0x1038 satOk
  | 0x27 | 0x28 | 0x29 | 0x2B | 0x2F => insV w true true true 0 true
  | 0x2A => insV w false true true 0x2007 (bits w 2 0 ≤ 5)
  | 0x2C => insV w true true false 0 true
  | 0x2D | 0x2E => bits w 21 17 = 0
  | 0x30 => insV w true true true 0x3000 (size != 3)
  | 0x38 => insV w false true false 0x3E00 (size != 3 && bits w 11 10 != 3)
  | 0x3E => bits w 15 12 = 0
  | _ => false

/-- The vector registers an instruction reads (R250). -/
def insSrcs (w : Nat) : List Nat :=
  let vd := bits w 25 22
  let va := bits w 21 18
  let vb := bits w 17 14
  match bits w 31 26 with
  | 0x08 | 0x10 | 0x1A | 0x26 | 0x38 => [va]
  | 0x09 | 0x18 | 0x19 | 0x1C | 0x20 | 0x21 | 0x24 | 0x25 | 0x27 | 0x28 | 0x29 | 0x2A | 0x2B => [va, vb]
  | 0x11 | 0x30 => [vd, va, vb]
  | 0x12 => [vd, va]
  | 0x22 | 0x23 => if bits w 2 2 = 1 then [va, vb] else [va]
  | 0x2D => if bits w 16 16 = 1 then [vd] else []
  | _ => []

/-- The vector register an instruction writes. -/
def insDest (w : Nat) : Option Nat :=
  match bits w 31 26 with
  | 0x01 | 0x02 | 0x08 | 0x10 | 0x11 | 0x12 | 0x1B | 0x1C | 0x20 | 0x21 | 0x22 | 0x23 | 0x24 | 0x25 | 0x26 | 0x27 | 0x28 | 0x29
  | 0x2B | 0x2C | 0x2D | 0x30 => some (bits w 25 22)
  | _ => none

/-- The issue cost of an instruction (R245). -/
def insCost (w : Nat) : Nat :=
  match bits w 31 26 with
  | 0x01 => if bits w 13 12 = 2 then 2 else 1
  | 0x02 | 0x08 | 0x0A | 0x11 | 0x12 | 0x18 | 0x19 | 0x1C | 0x30 => 2
  | 0x09 | 0x10 => 3
  | _ => 1

/-- The instruction is ODI or LGI. -/
def insLater (w : Nat) : Bool := bits w 31 26 = 0x11 || bits w 31 26 = 0x12

/-- The instructions from an entry to its END, in address order; `none` when no END is reached (R258 case 2). -/
def progTo : List Nat → Option (List Nat)
  | [] => none
  | w :: t => if bits w 31 26 = 0x3F then some [w] else (progTo t).map (w :: ·)

/-- The program at an entry. -/
def progAt (prog : List Nat) (entry : Nat) : Option (List Nat) := progTo (prog.drop entry)

/-- The walk of R250: handshakes so far, when each V register with a pending result is readable, and whether no instruction has
written such a register too early (R258 case 5). -/
structure CostWalk where
  t : Nat
  ready : AMap Nat
  ok : Bool

/-- One instruction of the walk. -/
def CostWalk.step (c : CostWalk) (w : Nat) : CostWalk :=
  let start := (insSrcs w).foldl (fun m v => max m (c.ready.look 0 v)) c.t
  let early := match insDest w with
    | some v => decide (start < c.ready.look 0 v)
    | none => false
  { t := start + insCost w,
    ready := if insLater w then c.ready.put 0 (bits w 25 22) (start + 16) else c.ready,
    ok := c.ok && !early }

/-- The static cost of a program up to its END (R250). -/
def staticWalk (p : List Nat) : CostWalk := p.foldl CostWalk.step ⟨0, [], true⟩

/-- The handshakes of a program (R250). -/
def staticCost (p : List Nat) : Nat :=
  let c := staticWalk p
  (List.range 16).foldl (fun m v => max m (c.ready.look 0 v)) c.t

/-- The program positions that a SKIP range covers. -/
def skipped (p : List Nat) (i : Nat) : Bool :=
  (List.range i).any fun j => bits (p.getD j 0) 31 26 = 0x3E && i ≤ j + bits (p.getD j 0) 11 0

/-- The rules of R258 on one program: defined instructions, SKIP ranges, no early write of a pending VD. -/
def progOk (p : List Nat) : Bool :=
  p.all insOk && (staticWalk p).ok &&
    (List.range p.length).all fun i =>
      bits (p.getD i 0) 31 26 != 0x3E || (bits (p.getD i 0) 11 0 != 0 && i + bits (p.getD i 0) 11 0 + 1 < p.length)

/-- The GROUP program emits every lamp's drive code outside every SKIP range (R258 case 6). -/
def emitsAll (p : List Nat) : Bool :=
  (List.range 3).all fun m => (List.range p.length).any fun i =>
    let w := p.getD i 0
    bits w 31 26 = 0x38 && bits w 13 12 = 0 && bits w 11 10 = m && !skipped p i

/-- The LINE program keeps to R251. -/
def lineOk (p : List Nat) : Bool := p.all fun w => !([0x01, 0x02, 0x03, 0x38, 0x11, 0x12, 0x30].contains (bits w 31 26))

/-! ### Work distribution and budget (R254, R255) -/

/-- The handshakes of one engine in one line (R254). -/
def availOf (lineTicks : Nat) : Nat := lineTicks * 75 / 128

/-- The groups of one section line (R254). -/
def groupsOf (r : Rect) : Nat := (r.x + r.w - 1) / 4 - r.x / 4 + 1

/-- The groups that the i-th of `nb` live blocks receives of `g` groups dealt in chunks (R255). -/
def blockGroups (g chunk nb i : Nat) : Nat :=
  ((List.range g).filter fun j => j / chunk % nb = i).length

/-- GPC_MAX (R254): the most groups of a line that one cell receives, all cells and blocks live. -/
def gpcMax (g chunk : Nat) : Nat :=
  (List.range 8).foldl (fun m i => max m ((blockGroups g chunk 8 i + 15) / 16)) 0

/-- NEED (R254) of an image for the section `r`. -/
def Image.need (im : Image) (r : Rect) : Nat :=
  gpcMax (groupsOf r) im.chunk * im.groupCost + (if im.lineEn then im.lineCost else 0)

/-- The section of die `d`. -/
def Image.sect (im : Image) (d : Nat) : Rect := im.sections.getD d ⟨0, 0, 0, 0⟩

/-- A rectangle without pixels. -/
def Rect.empty (r : Rect) : Bool := r.w = 0 || r.h = 0

/-- Pixel (x, y) lies in a rectangle. -/
def Rect.has (r : Rect) (x y : Nat) : Bool := r.x ≤ x && x < r.x + r.w && r.y ≤ y && y < r.y + r.h

/-- Two rectangles share a pixel. -/
def Rect.meets (a b : Rect) : Bool :=
  !a.empty && !b.empty && a.x < b.x + b.w && b.x < a.x + a.w && a.y < b.y + b.h && b.y < a.y + a.h

/-- The part of `a` inside `b`. -/
def Rect.clip (a b : Rect) : Rect :=
  let x := max a.x b.x
  let y := max a.y b.y
  ⟨x, y, min (a.x + a.w) (b.x + b.w) - x, min (a.y + a.h) (b.y + b.h) - y⟩

/-- The budget check of R254 passes for every populated die with pixels. -/
def Image.budgetOk (im : Image) (lineTicks : Nat) : Bool :=
  im.sections.all fun r => r.empty || im.need r ≤ availOf lineTicks

/-! ### Strand map and lamp order map (R324 to R330) -/

/-- Column `a`, line `b` of an na × nb grid in scan order (R329). -/
def scan (a b na nb : Nat) (col serp : Bool) : Nat :=
  if !col then b * na + (if serp && b % 2 = 1 then na - 1 - a else a)
  else a * nb + (if serp && a % 2 = 1 then nb - 1 - b else b)

/-- lamp_index of R329, with the segment's height taken as `h` and line offset `w`. -/
def lampIndexAt (g : Seg) (o : Order) (h u w r : Nat) : Nat :=
  let u := if o.mirrorX then g.w - 1 - u else u
  let w := if o.mirrorY then h - 1 - w else w
  let nmx := g.w / o.mw
  let nmy := h / o.mh
  let np := o.mw * o.mh
  let m := scan (u / o.mw) (w / o.mh) nmx nmy o.outerCol o.outerSerp
  let p := scan (u % o.mw) (w % o.mh) o.mw o.mh o.innerCol o.innerSerp
  let pos := if r = 0 then o.pr else if r = 1 then o.pg else o.pb
  match o.cmode with
  | 0 => g.base + 3 * (m * np + p) + pos
  | 1 => g.base + 3 * np * m + pos * np + p
  | _ => g.base + pos * g.w * h + m * np + p

/-- A segment that is not disabled (R328). -/
def Seg.on (g : Seg) : Bool := g.w != 0 && g.h != 0

/-- The canvas rectangle of a segment. -/
def Seg.rect (g : Seg) : Rect := ⟨g.x, g.y, g.w, g.h⟩

/-- The strand entry of a global lowest lane. -/
def Image.strand (im : Image) (s : Nat) : Option StrandEnt := im.strands.find? (·.lane = s)

/-- The partner entry of a segment. -/
def Image.partner (im : Image) (s a : Nat) : Option PartnerEnt := (im.strand s).bind fun e => e.chain[a]?

/-- The order descriptor of a segment. -/
def Image.orderOf (im : Image) (g : Seg) : Order :=
  im.orders.getD g.order ⟨1, 1, 0, 1, 2, 0, false, false, false, false, false, false⟩

/-- The segment's partner is of class L. -/
def Image.segL (im : Image) (g : Seg) : Bool :=
  match im.partner g.strand g.addr with
  | some p => p.classL
  | none => false

/-- Lamp index and row (0 for class H) of lamp r of canvas pixel (x, y) in a segment (R329, R330). -/
def Image.lampOf (im : Image) (g : Seg) (x y r : Nat) : Nat × Nat :=
  let o := im.orderOf g
  let w := y - g.y
  if im.segL g then
    (lampIndexAt { g with h := 1 } o 1 (x - g.x) 0 r, if o.mirrorY then g.row0 + g.h - 1 - w else g.row0 + w)
  else (lampIndexAt g o g.h (x - g.x) w r, 0)

/-- The enabled segment in which a canvas pixel lies. -/
def Image.segAt (im : Image) (x y : Nat) : Option (Nat × Seg) :=
  ((List.range im.segs.length).zip im.segs).find? fun jg => jg.2.on && jg.2.rect.has x y

/-- The pixels of a rectangle, line by line. -/
def Rect.pixels (r : Rect) : List (Nat × Nat) :=
  (List.range r.h).flatMap fun j => (List.range r.w).map fun i => (r.x + i, r.y + j)

/-- Every lamp of a segment: partner, index and row. -/
def Image.segLamps (im : Image) (g : Seg) : List ((Nat × Nat) × (Nat × Nat)) :=
  g.rect.pixels.flatMap fun p => (List.range 3).map fun r => ((g.strand, g.addr), im.lampOf g p.1 p.2 r)

/-- The row timing rule of R334 for the first and last lines of class L segments. -/
def Image.rowTimingOk (im : Image) (lineTicks hactStart launchOfs vtotal : Nat) : Bool :=
  im.segs.all fun g => !g.on || !im.segL g ||
    match im.partner g.strand g.addr with
    | some p => launchOfs ≤ (g.y + p.lag) * lineTicks + hactStart && g.y + g.h - 1 + p.lag ≤ vtotal - 1
    | none => true

/-- The lanes of a width code (R325). -/
def laneCount (code : Nat) : Nat := if code = 0 then 1 else if code = 1 then 2 else 4

/-- Parse the strand entries and their partner entries (R324 to R326). -/
def parseStrands (bs : List Byte) (ents : List Nat) (po : Nat) : List StrandEnt × Nat :=
  ents.foldl (fun (acc : List StrandEnt × Nat) w =>
    let n := bits w 25 16
    let chain := (List.range n).map fun i =>
      let p := wordAt bs (acc.2 + 4 * i)
      (⟨bits p 0 0 = 1, bits p 7 4, bits p 15 8⟩ : PartnerEnt)
    (acc.1 ++ [⟨bits w 6 0, laneCount (bits w 9 8), chain⟩], acc.2 + 4 * n)) ([], po)

/-- Parse segment entry `j` at byte offset `o` (R327). -/
def parseSeg (bs : List Byte) (o : Nat) : Seg :=
  let w (i : Nat) := wordAt bs (o + 4 * i)
  ⟨bits (w 0) 15 0, bits (w 0) 31 16, bits (w 1) 15 0, bits (w 1) 31 16, bits (w 2) 31 23, bits (w 2) 22 18, bits (w 2) 17 8,
    bits (w 2) 6 0, bits (w 3) 27 16, bits (w 3) 15 0⟩

/-- Parse a lamp order descriptor (R329). -/
def parseOrder (bs : List Byte) (o : Nat) : Order :=
  let a := wordAt bs o
  let b := wordAt bs (o + 4)
  ⟨bits a 31 16, bits a 15 0, bits b 9 8, bits b 11 10, bits b 13 12, bits b 7 6, bits b 5 5 = 1, bits b 4 4 = 1, bits b 3 3 = 1,
    bits b 2 2 = 1, bits b 1 1 = 1, bits b 0 0 = 1⟩

/-- The strand map section keeps cases 1 and 2 of R328 as far as its own words go: VERSION, LENGTH, reserved bits, ranges; a disabled
segment is not checked. -/
def strandMapOk (dies : Nat) (bs : List Byte) : Bool :=
  let h := wordAt bs 0
  let nseg := bits h 23 8
  let nstr := bits h 7 0
  let ents := (List.range nstr).map fun i => wordAt bs (8 + 4 * i)
  let sum := ents.foldl (fun n w => n + bits w 25 16) 0
  let segO := 8 + 4 * nstr + 4 * sum
  8 ≤ bs.length && bits h 31 24 = 1 && nstr ≤ 128 && wordAt bs 4 = 0 && bs.length = segO + 16 * nseg &&
    (ents.all fun w => bits w 31 26 = 0 && bits w 15 10 = 0 && bits w 7 7 = 0 && bits w 9 8 != 3 && bits w 25 16 ≤ 512 &&
      bits w 6 0 < 16 * dies && bits w 6 0 % laneCount (bits w 9 8) = 0) &&
    ((List.range (nstr - 1)).all fun i =>
      bits (ents.getD i 0) 6 0 + laneCount (bits (ents.getD i 0) 9 8) ≤ bits (ents.getD (i + 1) 0) 6 0) &&
    ((List.range sum).all fun i =>
      let p := wordAt bs (8 + 4 * nstr + 4 * i)
      bits p 31 16 = 0 && bits p 3 1 = 0 && bits p 7 4 ≤ 6 && (if bits p 0 0 = 1 then bits p 15 8 != 0 else bits p 15 8 = 0)) &&
    ((List.range nseg).all fun j =>
      let w (i : Nat) := wordAt bs (segO + 16 * j + 4 * i)
      bits (w 1) 15 0 = 0 || bits (w 1) 31 16 = 0 ||
        (bits (w 1) 31 16 ≤ 16384 && bits (w 1) 15 0 ≤ 32768 && bits (w 2) 7 7 = 0 && bits (w 3) 31 28 = 0 && bits (w 2) 17 8 ≤ 511))

/-- The lamp order map section keeps case 1 of R328 and the ranges of R329. -/
def orderMapOk (bs : List Byte) : Bool :=
  let h := wordAt bs 0
  let n := bits h 8 0
  4 ≤ bs.length && bits h 31 24 = 1 && bits h 23 9 = 0 && 1 ≤ n && bs.length = 4 + 8 * n &&
    (List.range n).all fun i =>
      let o := parseOrder bs (4 + 8 * i)
      1 ≤ o.mh && o.mh ≤ 16384 && 1 ≤ o.mw && o.mw ≤ 32768 && bits (wordAt bs (8 + 8 * i)) 31 14 = 0 && o.cmode != 3 &&
        ((o.pr = 0 || o.pg = 0 || o.pb = 0) && (o.pr = 1 || o.pg = 1 || o.pb = 1) && (o.pr = 2 || o.pg = 2 || o.pb = 2))

/-- No element occurs twice. -/
def noDup {α : Type} [DecidableEq α] : List α → Bool
  | [] => true
  | a :: t => !t.contains a && noDup t

/-- Cases 3 to 8 of R328, with the rules of R329 and R330 on a segment and its order: those that a strand map breaks. -/
def Image.segsOk (im : Image) (lineTicks hactStart launchOfs vtotal : Nat) : Bool :=
  let on := im.segs.filter (·.on)
  on.all (fun g =>
    let o := im.orderOf g
    (im.partner g.strand g.addr).isSome && g.order < im.orders.length && !(im.sect (g.strand / 16)).empty &&
      (im.sect (g.strand / 16)).x ≤ g.x && g.x + g.w ≤ (im.sect (g.strand / 16)).x + (im.sect (g.strand / 16)).w &&
      (im.sect (g.strand / 16)).y ≤ g.y && g.y + g.h ≤ (im.sect (g.strand / 16)).y + (im.sect (g.strand / 16)).h &&
      g.w % o.mw = 0 && (if im.segL g then o.mh = 1 else g.h % o.mh = 0 && g.row0 = 0)) &&
    (List.range on.length).all (fun i => (List.range i).all fun j =>
      !(on.getD i ⟨0, 0, 0, 0, 0, 0, 0, 0, 0, 0⟩).rect.meets (on.getD j ⟨0, 0, 0, 0, 0, 0, 0, 0, 0, 0⟩).rect) &&
    (let ls := on.flatMap im.segLamps
     noDup ls && ls.all fun l => l.2.1 ≤ 65535 && l.2.2 ≤ 4095) &&
    im.rowTimingOk lineTicks hactStart launchOfs vtotal

/-! ### Header, section table and sections (R53 to R59) -/

/-- The header fields that the loader uses (R54). -/
def imgSections (bs : List Byte) : Nat := bits (wordAt bs 4) 7 0

/-- IMAGE_LEN. -/
def imgLen (bs : List Byte) : Nat := wordAt bs 8

/-- Section table entry `k`: type, offset, length, CRC (R55). -/
def imgEntry (bs : List Byte) (k i : Nat) : Nat := wordAt bs (32 + 16 * k + 4 * i)

/-- The body of section `k`. -/
def imgBody (bs : List Byte) (k : Nat) : List Byte := (bs.drop (imgEntry bs k 1)).take (imgEntry bs k 2)

/-- The index of the section of a type. -/
def imgFind (bs : List Byte) (ty : Nat) : Option Nat :=
  (List.range (imgSections bs)).find? fun k => bits (imgEntry bs k 0) 31 16 = ty

/-- The body of the section of a type; empty when there is none. -/
def imgSection (bs : List Byte) (ty : Nat) : List Byte :=
  match imgFind bs ty with
  | some k => imgBody bs k
  | none => []

/-- A required type (R56). -/
def required (ty : Nat) : Bool := 1 ≤ ty && ty ≤ 6

/-- Section table entry `k` breaks R55 or R56, alone or against an entry of lower index (R520).
(DEDUCED: notes/assumptions/47.md) -/
def entryBad (bs : List Byte) (k : Nat) : Bool :=
  let ty := bits (imgEntry bs k 0) 31 16
  let o := imgEntry bs k 1
  let n := imgEntry bs k 2
  bits (imgEntry bs k 0) 15 0 != 0 || o % 256 != 0 || o < 32 + 16 * imgSections bs || imgLen bs < o + n + 32 ||
    !(required ty || ty = 7 || 0x8000 ≤ ty) ||
    (List.range k).any fun j =>
      (imgEntry bs j 1 < o + n && o < imgEntry bs j 1 + imgEntry bs j 2) ||
        (ty < 0x8000 && bits (imgEntry bs j 0) 31 16 = ty)

/-- Checks 1 to 7 of R62 on an image: the ERR code and ERR_SECTION of the first that fails. (DEDUCED: notes/assumptions/47.md) -/
def imgCheck1to7 (dies : Nat) (stageLen : Option Nat) (bs : List Byte) : Option (Nat × Nat) :=
  let w (i : Nat) := wordAt bs (4 * i)
  if w 0 ≠ 0x41534D49 then some (0x01, 0xFF)
  else if bits (w 1) 31 24 ≠ 1 ∨ bits (w 3) 31 6 ≠ 0 ∨ bits (w 3) 3 2 ≠ 0 ∨ w 6 ≠ 0 ∨ w 7 ≠ 0 then some (0x02, 0xFF)
  else if bits (w 1) 15 8 ≠ dies then some (0x03, 0xFF)
  else if imgLen bs = 0 ∨ imgLen bs % 4 ≠ 0 ∨ 0x4000000 < imgLen bs ∨ stageLen.any (fun n => n < imgLen bs || 0x4000000 < n) then some (0x04, 0xFF)
  else if imgSections bs = 0 ∨ 32 < imgSections bs then some (0x05, 0xFF)
  else match (List.range (imgSections bs)).find? (entryBad bs) with
    | some k => some (0x05, k)
    | none =>
      if !(List.range 6).all (fun t => (imgFind bs (t + 1)).isSome) then some (0x05, 0xFF)
      else match (List.range (imgSections bs)).find? fun k => (crc32c (imgBody bs k)).toNat ≠ imgEntry bs k 3 with
        | some k => some (0x06, k)
        | none =>
          if sha256 (bs.take (imgLen bs - 32)) ≠ (bs.drop (imgLen bs - 32)).take 32 then some (0x07, 0xFF) else none

/-- The computed digest of an image (R61). -/
def imgDigest (bs : List Byte) : List Byte := sha256 (bs.take (imgLen bs - 32))

/-- The register defaults (R59): offset and value of each entry. -/
def imgDefaults (bs : List Byte) : List (Nat × Nat) :=
  let b := imgSection bs 7
  (List.range (wordAt b 0)).map fun i => (wordAt b (4 + 8 * i), wordAt b (8 + 8 * i))

/-- What an accepted image holds. (DEDUCED: notes/assumptions/33.md) -/
def parseImage (dies : Nat) (bs : List Byte) : Image :=
  let p := imgSection bs 1
  let c := imgSection bs 3
  let m := imgSection bs 4
  let o := imgSection bs 5
  let nstr := bits (wordAt m 0) 7 0
  let ents := (List.range nstr).map fun i => wordAt m (8 + 4 * i)
  let (strands, so) := parseStrands m ents (8 + 4 * nstr)
  { canvasW := bits (wordAt c 0) 15 0, canvasH := bits (wordAt c 0) 31 16,
    sections := (List.range dies).map fun d =>
      ⟨bits (wordAt c (4 + 8 * d)) 15 0, bits (wordAt c (4 + 8 * d)) 31 16, bits (wordAt c (8 + 8 * d)) 15 0,
        bits (wordAt c (8 + 8 * d)) 31 16⟩,
    layerEn := wordAt (imgSection bs 6) 0,
    prog := (List.range (bits (wordAt p 0) 12 0)).map fun i => BitVec.ofNat 32 (wordAt p (16 + 4 * i)),
    groupCost := bits (wordAt p 4) 27 16, groupEntry := bits (wordAt p 4) 11 0, lineEn := bits (wordAt p 8) 31 31 = 1,
    lineCost := bits (wordAt p 8) 27 16, lineEntry := bits (wordAt p 8) 11 0, chunk := wordAt (imgSection bs 2) 0,
    strands := strands, segs := (List.range (bits (wordAt m 0) 23 8)).map fun j => parseSeg m (so + 16 * j),
    orders := (List.range (bits (wordAt o 0) 8 0)).map fun i => parseOrder o (4 + 8 * i) }

/-- Cases 1 to 8 of R258 on the engine programs section. -/
def programsOk (bs : List Byte) : Bool :=
  let n := bits (wordAt bs 0) 12 0
  let prog := (List.range n).map fun i => wordAt bs (16 + 4 * i)
  let ge := bits (wordAt bs 4) 11 0
  let le := bits (wordAt bs 8) 11 0
  let lineEn := bits (wordAt bs 8) 31 31 = 1
  16 ≤ bs.length && bits (wordAt bs 0) 31 24 = 1 && bits (wordAt bs 0) 23 13 = 0 && 1 ≤ n && n ≤ 4096 && bs.length = 16 + 4 * n &&
    bits (wordAt bs 4) 31 28 = 0 && bits (wordAt bs 4) 15 12 = 0 && bits (wordAt bs 8) 30 28 = 0 && bits (wordAt bs 8) 15 12 = 0 &&
    wordAt bs 12 = 0 &&
    (match progAt prog ge with
     | some p => progOk p && emitsAll p && staticCost p = bits (wordAt bs 4) 27 16
     | none => false) &&
    (if lineEn then
      match progAt prog le with
      | some p => progOk p && lineOk p && staticCost p = bits (wordAt bs 8) 27 16
      | none => false
     else bits (wordAt bs 8) 27 16 = 0 && le = 0)

/-- The canvas partition keeps R57 and R23: sizes in range, and the sections with pixels tile the canvas exactly. -/
def partitionOk (dies : Nat) (bs : List Byte) : Bool :=
  let w := bits (wordAt bs 0) 15 0
  let h := bits (wordAt bs 0) 31 16
  let rs := (List.range dies).map fun d => (⟨bits (wordAt bs (4 + 8 * d)) 15 0, bits (wordAt bs (4 + 8 * d)) 31 16,
    bits (wordAt bs (8 + 8 * d)) 15 0, bits (wordAt bs (8 + 8 * d)) 31 16⟩ : Rect)
  let on := rs.filter (!·.empty)
  bs.length = 4 + 8 * dies && 1 ≤ w && w ≤ 32768 && 1 ≤ h && h ≤ 16384 &&
    on.all (fun r => r.x + r.w ≤ w && r.y + r.h ≤ h) &&
    (List.range on.length).all (fun i => (List.range i).all fun j =>
      !(on.getD i ⟨0, 0, 0, 0⟩).meets (on.getD j ⟨0, 0, 0, 0⟩)) &&
    on.foldl (fun n r => n + r.w * r.h) 0 = w * h

/-- The layer slot enables keep R58. -/
def enablesOk (bs : List Byte) : Bool :=
  bs.length = 4 && bits (wordAt bs 0) 31 8 = 0 && 2 ≤ weight8 (wordAt bs 0)

/-- An entry of the register defaults addresses what R60 forbids. (DEDUCED: notes/assumptions/47.md) -/
def defaultBad (dies a : Nat) : Bool :=
  a / 2 ^ 20 != 0 || a % 4 != 0 ||
    (let w := a / 0x10000
     let o := a % 0x10000
     if w = 0 then
       match findReg false o with
       | none => true
       | some r => (r.rw = 0 && r.rws = 0) || (0x2C00 ≤ o && o < 0x3000) || o = CHIP_MODE_REQ || (0x40 ≤ o && o < 0x80)
     else if w = 15 ∨ w ≤ dies then
       match findReg true o with
       | none => true
       | some r => r.rw = 0 && r.rws = 0
     else true)

/-- The register defaults body keeps R59 and R60. -/
def defaultsOk (dies : Nat) (bs : List Byte) : Bool :=
  bs.isEmpty || (wordAt bs 0 ≤ 16384 && bs.length = 4 + 8 * wordAt bs 0 &&
    (List.range (wordAt bs 0)).all fun i => !defaultBad dies (wordAt bs (4 + 8 * i)))

/-- The section that a content rule names: its index, 0xFF when the image has none (R520). -/
def secOf (bs : List Byte) (ty : Nat) : Nat := (imgFind bs ty).getD 0xFF

/-- The content checks of check 9 (R62), but for the knot rules: the section at fault. (DEDUCED: notes/assumptions/47.md) -/
def imgContent (dies lineTicks hactStart launchOfs vtotal : Nat) (bs : List Byte) : Option (Nat × Nat) :=
  let im := parseImage dies bs
  if !partitionOk dies (imgSection bs 3) then some (9, secOf bs 3)
  else if !enablesOk (imgSection bs 6) then some (9, secOf bs 6)
  else if !defaultsOk dies (imgSection bs 7) then some (9, secOf bs 7)
  else if !strandMapOk dies (imgSection bs 4) then some (9, secOf bs 4)
  else if !orderMapOk (imgSection bs 5) then some (9, secOf bs 5)
  else if !im.segsOk lineTicks hactStart launchOfs vtotal then some (9, secOf bs 4)
  else if !programsOk (imgSection bs 1) then some (9, secOf bs 1)
  else if !((imgSection bs 2).length = 4 && 1 ≤ wordAt (imgSection bs 2) 0 && wordAt (imgSection bs 2) 0 ≤ 255) then some (9, secOf bs 2)
  else if !im.budgetOk lineTicks then some (9, secOf bs 1)
  else none

end Sys2Proof.Machine
end

