-- ==== Sys2Proof/Machine/Memory.lean ====
section
/-! DEFINITION. The DRAM controllers: addresses (R13, R373), protected regions and their check bytes (R380 to R382), the order of a
write's checks (R383), the merge buffer (R384, R385), pins (R190), the Lanyard protected range (R165), reads (R387), reports (R388). -/
namespace Sys2Proof.Machine

/-! ### Addresses -/

/-- The die of a device address (R13). -/
def dieOf (a : Nat) : Nat := a % 2 ^ 40 / 2 ^ 37

/-- The offset of a device address within its die (R13). -/
def offOf (a : Nat) : Nat := a % 2 ^ 37

/-- The channel of an offset within its die: consecutive 256-byte units go to the channels (R373). -/
def channelOf (o : Nat) : Nat := Nat.xor (o / 2 ^ 8 % 8) (o / 2 ^ 16 % 8)

/-- The aligned 64-bit word that holds a byte. -/
def wordOf (a : Nat) : Nat := a - a % 8

/-- A byte of DRAM as the command in progress sees it. -/
def State.mem (s : State) (a : Nat) : Byte :=
  match s.journal.find? (·.1 = a) with
  | some c => c.2
  | none => AMap.get (fun _ => (0 : Byte)) s.dram a

/-- `n` bytes of DRAM from `a`. -/
def State.memN (s : State) (a n : Nat) : List Byte := (List.range n).map fun i => s.mem (a + i)

/-- Write a byte of DRAM. -/
def State.memPut (s : State) (a : Nat) (b : Byte) : State := { s with journal := (a, b) :: s.journal }

/-- Write bytes of DRAM from `a` on. -/
def State.memPuts (s : State) (a : Nat) : List Byte → State
  | [] => s
  | b :: t => (s.memPut a b).memPuts (a + 1) t

/-- Region k of die d is enabled. -/
def State.protEn (s : State) (d k : Nat) : Bool := s.b (MEM_PROT_BASE d k) MEM_PROT_BASE.EN

/-- First offset of region k (R381). -/
def State.protLo (s : State) (d k : Nat) : Nat := s.f (MEM_PROT_BASE d k) MEM_PROT_BASE.BASE * 2 ^ 21

/-- Bytes of region k (R381). -/
def State.protLen (s : State) (d k : Nat) : Nat := s.f (MEM_PROT_LEN d k) MEM_PROT_LEN.LEN * 2 ^ 24

/-- The enabled region whose data holds offset `o` of die d. -/
def State.protOf (s : State) (d o : Nat) : Option Nat :=
  (List.range 8).find? fun k => s.protEn d k && s.protLo d k ≤ o && o < s.protLo d k + s.protLen d k

/-- Offset `o` of die d lies in the check range of an enabled region (R381). -/
def State.inCheck (s : State) (d o : Nat) : Bool :=
  (List.range 8).any fun k => s.protEn d k &&
    (let c := s.protLo d k + s.protLen d k
     c ≤ o && o < c + s.protLen d k / 8)

/-- The device address of the check byte of the word at `a` in region k (R381). -/
def State.checkAddr (s : State) (k a : Nat) : Nat :=
  let d := dieOf a
  d * 2 ^ 37 + s.protLo d k + s.protLen d k + (offOf a - s.protLo d k) / 8

/-- Bytes of LPDDR5X installed on die d. -/
def State.capacity (s : State) (d : Nat) : Nat := s.f (MEM_SIZE d) MEM_SIZE.GIB * 2 ^ 30

/-- Byte `a` is an address error (R373, R381). -/
def State.addrBad (s : State) (a : Nat) : Bool :=
  !s.live (dieOf a) || s.capacity (dieOf a) ≤ offOf a || s.inCheck (dieOf a) (offOf a)

/-- Where the words that the `n` bytes from `a` touch begin: `a` itself and each aligned word after it. -/
def wordStarts (a n : Nat) : List Nat := (List.range ((a + n + 7 - wordOf a) / 8)).map fun i => max a (wordOf a + 8 * i) % 2 ^ 40

/-- The first of the `n` bytes from `a` that is an address error: dies, capacity and check ranges begin and end with a word. -/
def State.firstBad (s : State) (a n : Nat) : Option Nat := if n = 0 then none else (wordStarts a n).find? s.addrBad

/-- Some byte of the `n` from `a` is an address error. -/
def State.rangeBad (s : State) (a n : Nat) : Bool := (s.firstBad a n).isSome

/-- The bytes `bs` from `a` on that are no address error, as stretches. -/
def State.goodRuns (s : State) : Nat → List Byte → List (Nat × List Byte)
  | _, [] => []
  | a, b :: t =>
    let r := s.goodRuns (a + 1) t
    if s.addrBad (a % 2 ^ 40) then r
    else match r with
      | (x, bs) :: u => if x = a + 1 then (a, b :: bs) :: u else (a, [b]) :: r
      | [] => [(a, [b])]

/-- Record an address error at `a` of a requester on die `rd` (R373): on the live target die, else on the requester's. -/
def State.addrError (s : State) (rd a : Nat) : State :=
  let d := if s.live (dieOf a) then dieOf a else rd
  let s := s.latchOnce (MEM_ADDR_ERR_ADDR_LO d) (·.setPair (MEM_ADDR_ERR_ADDR_LO d) (MEM_ADDR_ERR_ADDR_HI d) 8 (a % 2 ^ 40))
  let s := (s.count (MEM_ADDR_ERR_CNT d)).leaf d (MEM_STATUS d) MEM_STATUS.ADDR_ERR
  if s.live (dieOf a) && s.inCheck (dieOf a) (offOf a) then s.leaf d (MEM_STATUS d) MEM_STATUS.CHK_ACCESS else s

/-! ### Reports (R388) -/

/-- The `_HI` word of a LAST register. -/
def lastHi (memid synd cls a : Nat) : Nat :=
  memid * 2 ^ 28 + synd * 2 ^ 20 + (if synd = 0xFF then 2 ^ 19 else 0) + cls * 2 ^ 16 + a / 2 ^ 32 % 256

/-- A correctable event on die d. -/
def State.ceEvent (s : State) (d memid synd cls a : Nat) : State :=
  let s := s.latchOnce (ECC_CE_LAST_LO d) fun s => (s.setReg (ECC_CE_LAST_LO d) (a % 2 ^ 32)).setReg (ECC_CE_LAST_HI d) (lastHi memid synd cls a)
  (((s.count (ECC_CE_CNT d)).setF (ECC_STATUS d) ECC_STATUS.CE 1)).ev .eccCe

/-- Latch ECC_UE_LAST, set ECC_STATUS.UE and raise ECC_UE, counting in the register at `cnt`. -/
def State.ueReport (s : State) (cnt d memid synd cls a : Nat) : State :=
  let s := s.latchOnce (ECC_UE_LAST_LO d) fun s => (s.setReg (ECC_UE_LAST_LO d) (a % 2 ^ 32)).setReg (ECC_UE_LAST_HI d) (lastHi memid synd cls a)
  ((s.count cnt).setF (ECC_STATUS d) ECC_STATUS.UE 1).ev .eccUe

/-- An uncorrectable read (R387). -/
def State.ueEvent (s : State) (d memid synd cls a : Nat) : State := s.ueReport (ECC_UE_CNT d) d memid synd cls a

/-- A refused read-modify-write (R385). -/
def State.refusedEvent (s : State) (d synd cls a : Nat) : State := s.ueReport (ECC_REFUSED_CNT d) d 0 synd cls a

/-- A background uncorrectable event (R390). -/
def State.ueBgEvent (s : State) (d memid synd cls a : Nat) : State :=
  let s := s.latchOnce (ECC_UE_BG_LAST_LO d) fun s => (s.setReg (ECC_UE_BG_LAST_LO d) (a % 2 ^ 32)).setReg (ECC_UE_BG_LAST_HI d) (lastHi memid synd cls a)
  ((s.count (ECC_UE_BG_CNT d)).setF (ECC_STATUS d) ECC_STATUS.UE_BG 1).ev .eccUeBg

/-! ### Words -/

/-- The 64-bit word at `a` as stored. -/
def State.rawWord (s : State) (a : Nat) : Nat := leNat (s.memN a 8)

/-- The region that checks the word at `a`: enabled, and past INIT or written during it (R382). -/
def State.checkedBy (s : State) (a : Nat) : Option Nat :=
  match s.protOf (dieOf a) (offOf a) with
  | some k => if s.b (MEM_PROT_BASE (dieOf a) k) MEM_PROT_BASE.INIT && !s.dev.mem.initDone.contains a then none else some k
  | none => none

/-- The syndrome of the word at `a`; 0 where no check byte applies (R378, R380). -/
def State.syndrome (s : State) (a : Nat) : Nat :=
  match s.checkedBy a with
  | some k => Nat.xor (s.mem (s.checkAddr k a)).toNat (eccCheck (s.rawWord a))
  | none => 0

/-- The word at `a` reads with an uncorrectable error or poison. -/
def State.wordUe (s : State) (a : Nat) : Bool := eccDecode (s.syndrome a) = .ue

/-- The word at `a` as a read returns it: corrected where it can be. -/
def State.wordVal (s : State) (a : Nat) : Nat := eccFix (s.rawWord a) (s.syndrome a)

/-- Write a whole word, with its check byte in a protected region (R386). -/
def State.putWord (s : State) (a data : Nat) : State :=
  let s := s.memPuts a (leBytes 8 data)
  match s.protOf (dieOf a) (offOf a) with
  | none => s
  | some k =>
    let s := s.memPut (s.checkAddr k a) (BitVec.ofNat 8 (eccCheck data))
    if s.b (MEM_PROT_BASE (dieOf a) k) MEM_PROT_BASE.INIT && !s.dev.mem.initDone.contains a then
      { s with dev := { s.dev with mem := { s.dev.mem with initDone := a :: s.dev.mem.initDone } } }
    else s

/-- Write poison to a word (R379): its data stays, its check byte is the computed one XOR 0xFF. -/
def State.poison (s : State) (a : Nat) : State :=
  match s.protOf (dieOf a) (offOf a) with
  | none => s
  | some k => s.memPut (s.checkAddr k a) (BitVec.ofNat 8 (Nat.xor (eccCheck (s.rawWord a)) 0xFF))

/-- Flip code bits of the word at `a` (0 to 63 data, 64 to 71 check bits): what an upset of the cells does.
(DEDUCED: notes/assumptions/43.md) -/
def State.upset (s : State) (a : Nat) (ks : List Nat) : State :=
  ks.foldl (fun s i =>
    if i < 64 then s.memPut (a + i / 8) (s.mem (a + i / 8) ^^^ (1#8 <<< (i % 8)))
    else match s.protOf (dieOf a) (offOf a) with
      | some k => s.memPut (s.checkAddr k a) (s.mem (s.checkAddr k a) ^^^ (1#8 <<< (i % 8)))
      | none => s) s

/-! ### The merge buffer (R384, R385) -/

/-- Put the merge buffers back. -/
def State.setMerge (s : State) (m : List Merge) : State := { s with dev := { s.dev with mem := { s.dev.mem with merge := m } } }

/-- The bytes of an entry merged into a word. -/
def mergeBytes (data : Nat) (bs : AMap Byte) : Nat :=
  leNat ((List.range 8).map fun i => bs.get (fun i => BitVec.ofNat 8 (data / 256 ^ i)) i)

/-- An entry leaves the buffer as a read-modify-write (R385). -/
def State.leave (s : State) (m : Merge) : State :=
  let s := s.setMerge (s.dev.mem.merge.filter (· != m))
  let sy := s.syndrome m.word
  match eccDecode sy with
  | .ok => s.putWord m.word (mergeBytes (s.wordVal m.word) m.bytes)
  | .data _ | .check _ =>
    (s.ceEvent m.die 0 sy m.cls m.word).putWord m.word (mergeBytes (s.wordVal m.word) m.bytes)
  | .ue =>
    let s := (s.poison m.word).refusedEvent m.die sy m.cls m.word
    let s := if m.host then s.accErr 4 (m.word / 2 ^ 20) else s
    { s with dev := { s.dev with mem := { s.dev.mem with jobUe := m.jobs ++ s.dev.mem.jobUe } } }

/-- The entry of a word, if one is open. -/
def State.mergeOf (s : State) (a : Nat) : Option Merge := s.dev.mem.merge.find? (·.word = a)

/-- Every entry that `p` names leaves as a read-modify-write, oldest first. -/
def State.leaveAll (s : State) (p : Merge → Bool) : State := (s.dev.mem.merge.filter p).foldl (fun s m => s.leave m) s

/-! ### Writes (R383) -/

/-- Who writes: class (R374), through the management port, subject to the pin table (R190), the job, the die of the requester. -/
structure WrSrc where
  cls : Nat
  mgmt : Bool
  pinned : Bool
  job : Option Nat
  die : Nat
deriving DecidableEq, Repr

/-- How a write ends. -/
inductive WrRes where
  | ok
  | addr
  | lany
  | pin
deriving DecidableEq, Repr

/-- The Lanyard protected range [lo, hi) (R165). -/
def State.lanyLo (s : State) : Nat := s.f LANY_PROT_BASE LANY_PROT_BASE.ADDR * 2 ^ 16
def State.lanyHi (s : State) : Nat := s.lanyLo + s.f LANY_PROT_LEN LANY_PROT_LEN.LEN * 2 ^ 16

/-- [a, a + n) meets the Lanyard protected range in a byte. -/
def State.inLany (s : State) (a n : Nat) : Bool := max a s.lanyLo < min (a + n) s.lanyHi

/-- Count and latch a write that the Lanyard range refuses (R165). -/
def State.lanyViol (s : State) (a : Nat) : State :=
  (s.latchOnce LANY_VIOL_ADDR_LO (·.setPair LANY_VIOL_ADDR_LO LANY_VIOL_ADDR_HI 8 (a % 2 ^ 40))).count LANY_VIOL_CNT

/-- The pin table of a die. -/
def State.pins (s : State) (d : Nat) : List Pin := s.dev.knot.pins.look [] d

/-- The range of an entry crosses from one die's address space into the next (R187). -/
def Pin.crosses (p : Pin) : Bool := p.lo < p.hi && dieOf p.lo != dieOf (p.hi - 1)

/-- [a, a + n) meets the range of an entry in a byte; for a range across dies R187 does not define it. (DEDUCED: notes/assumptions/29.md) -/
def Pin.meets (p : Pin) (a n : Nat) : Bool := max a p.lo < min (a + n) p.hi && (!p.crosses || Config.crossPin p.lo p.hi a)

/-- The entries of policy FLAG or BLOCK that [a, a + n) meets in a byte (R190): those of its die, and ranges across dies. -/
def State.pinHits (s : State) (a n : Nat) : List Pin :=
  (List.range 8).flatMap fun d => (s.pins d).filter fun p => (d = dieOf a || p.crosses) && p.policy != 2 && p.meets a n

/-- Count and latch a write into a pinned range (R190). -/
def State.pinViol (s : State) (a : Nat) (blocked : Bool) : State :=
  let d := dieOf a
  let s := s.latchOnce (DIE_PIN_VIOL_ADDR_LO d) fun s =>
    (s.setReg (DIE_PIN_VIOL_ADDR_LO d) (a % 2 ^ 32)).setReg (DIE_PIN_VIOL_ADDR_HI d) ((if blocked then 2 ^ 31 else 0) + a / 2 ^ 32 % 256)
  (s.count (DIE_PIN_VIOL_CNT d)).ev .pinViolation

/-- Write the bytes that fall in the word at `w`, as places and values (R384). -/
def State.wordWrite (s : State) (src : WrSrc) (w : Nat) (bs : List (Nat × Byte)) : State :=
  let d := dieOf w
  if 8 ≤ bs.length then
    (s.setMerge (s.dev.mem.merge.filter (·.word != w))).putWord w (mergeBytes 0 (bs.foldl (fun m b => AMap.insert m b.1 b.2) []))
  else if (s.protOf d (offOf w)).isNone then bs.foldl (fun s b => s.memPut (w + b.1) b.2) s
  else
    let m := (s.mergeOf w).getD ⟨d, w, [], src.cls, [], false⟩
    let m' : Merge := { m with
      bytes := bs.foldl (fun m b => AMap.insert m b.1 b.2) m.bytes
      cls := src.cls
      jobs := match src.job with
        | some j => if m.jobs.contains j then m.jobs else m.jobs ++ [j]
        | none => m.jobs
      host := m.host || (src.cls = 6 && src.pinned && !src.mgmt && src.job.isNone) }
    if 8 ≤ m'.bytes.length then
      (s.setMerge (s.dev.mem.merge.filter (·.word != w))).putWord w (mergeBytes 0 m'.bytes)
    else if (s.mergeOf w).isSome then s.setMerge (s.dev.mem.merge.map fun x => if x.word = w then m' else x)
    else
      let s := if 8 ≤ (s.dev.mem.merge.filter (·.die = d)).length then
          match s.dev.mem.merge.find? (·.die = d) with
          | some o => s.leave o
          | none => s
        else s
      s.setMerge (s.dev.mem.merge ++ [m'])

/-- The words that [a, a + n) touches, each with the bytes of `bs` that fall in it. -/
def splitWords (a : Nat) (bs : List Byte) : List (Nat × List (Nat × Byte)) :=
  let n := bs.length
  let w0 := wordOf a
  (List.range ((a + n + 7 - w0) / 8)).map fun i =>
    let w := w0 + 8 * i
    (w, ((List.range 8).filter fun j => a ≤ w + j && w + j < a + n).map fun j => (j, bs.getD (w + j - a) 0))

/-- Bytes without an address error reach the DRAM controller, checked in the order of R383. -/
def State.writeGood (s : State) (src : WrSrc) (a : Nat) (bs : List Byte) : State × WrRes :=
  if bs.isEmpty then (s, .ok)
  else if !src.mgmt && s.inLany a bs.length then (s.lanyViol a, .lany)
  else
    let hits := if src.pinned then s.pinHits a bs.length else []
    if hits.any (·.policy = 1) then (s.pinViol a true, .pin)
    else
      let s := if hits.isEmpty then s else s.pinViol a false
      ((splitWords a bs).foldl (fun s w => s.wordWrite src w.1 w.2) s, .ok)

/-- A write: the bytes that are an address error are discarded and reported as one, at the first of them; the others go on (R373, R383).
(DEDUCED: notes/assumptions/33.md) -/
def State.write (s : State) (src : WrSrc) (a : Nat) (bs : List Byte) : State × WrRes :=
  match s.firstBad a bs.length with
  | none => s.writeGood src a bs
  | some x => ((s.goodRuns a bs).foldl (fun s r => (s.writeGood src (r.1 % 2 ^ 40) r.2).1) (s.addrError src.die x), .addr)

/-! ### Reads (R387) -/

/-- Read the word at `a` for class `cls`: an open merge entry leaves first; a correctable word is counted and written back corrected;
an uncorrectable one is counted. -/
def State.readWord (s : State) (cls a : Nat) : Nat × Bool × State :=
  let s := match s.mergeOf a with
    | some m => s.leave m
    | none => s
  let sy := s.syndrome a
  let v := s.wordVal a
  match eccDecode sy with
  | .ok => (v, false, s)
  | .data _ | .check _ => (v, false, (s.ceEvent (dieOf a) 0 sy cls a).putWord a v)
  | .ue => (v, true, s.ueEvent (dieOf a) 0 sy cls a)

/-- Read `n` bytes from `a`: bytes that are an address error read 0, and the access reports MEM_UE (R373). (DEDUCED:
notes/assumptions/33.md) -/
def State.read (s : State) (cls rd a n : Nat) : List Byte × Bool × State :=
  if n = 0 then ([], false, s)
  else
    let w0 := wordOf a
    let r := (List.range ((a + n + 7 - w0) / 8)).foldl (fun (acc : List Byte × Bool × State) i =>
      let w := (w0 + 8 * i) % 2 ^ 40
      if s.addrBad w then (acc.1 ++ List.replicate 8 0, true, acc.2.2)
      else
        let x := acc.2.2.readWord cls w
        (acc.1 ++ leBytes 8 x.1, acc.2.1 || x.2.1, x.2.2)) ([], false, match s.firstBad a n with
      | some x => s.addrError rd x
      | none => s)
    ((r.1.drop (a - w0)).take n, r.2.1, r.2.2)

/-- What a read of `n` bytes at `a` returns, without its reports: bytes with the corrections made; 0 where the address is in error. -/
def State.peek (s : State) (a n : Nat) : List Byte :=
  (List.range n).map fun i =>
    let x := (a + i) % 2 ^ 40
    if s.addrBad x then 0
    else
      let w := wordOf x
      match s.mergeOf w with
      | some m => m.bytes.get (fun j => BitVec.ofNat 8 (s.wordVal w / 256 ^ j)) (x - w)
      | none => BitVec.ofNat 8 (s.wordVal w / 256 ^ (x - w))

/-- Byte `a` cannot be read: its address is in error or its word is uncorrectable. -/
def State.unreadable (s : State) (a : Nat) : Bool := s.addrBad (a % 2 ^ 40) || s.wordUe (wordOf (a % 2 ^ 40))

/-! ### Protected regions (R382) -/

/-- Two offset ranges meet. -/
def rangesMeet (a n b m : Nat) : Bool := a < b + m && b < a + n && n != 0 && m != 0

/-- Region k of die d may be enabled: not empty, data and check range below the capacity, clear of every other enabled region. -/
def State.protFits (s : State) (d k lo len : Nat) : Bool :=
  len != 0 && lo + len + len / 8 ≤ s.capacity d &&
    (List.range 8).all fun j => j = k || !s.protEn d j ||
      !rangesMeet lo (len + len / 8) (s.protLo d j) (s.protLen d j + s.protLen d j / 8)

/-- INIT of region k of die d begins or ends: no word of it counts as written during INIT. -/
def State.initForget (s : State) (d k : Nat) : State :=
  let lo := d * 2 ^ 37 + s.protLo d k
  { s with dev := { s.dev with mem := { s.dev.mem with
      initDone := s.dev.mem.initDone.filter fun w => !(lo ≤ w && w < lo + s.protLen d k) } } }

/-- Set MEM_STATUS.PROT_BAD. -/
def State.protBad (s : State) (d : Nat) : State := s.leaf d (MEM_STATUS d) MEM_STATUS.PROT_BAD

/-- A write of MEM_PROT_k_BASE (R382). -/
def State.protBaseWrite (s : State) (d k v : Nat) : State :=
  let en := bitOf v 31
  let base := v % 2 ^ 16
  let old := s.f (MEM_PROT_BASE d k) MEM_PROT_BASE.BASE
  if s.protEn d k then
    let s := if base = old then s else s.protBad d
    if en then s
    else
      let s := s.leaveAll fun m => decide (s.protOf (dieOf m.word) (offOf m.word) = some k ∧ m.die = d)
      ((s.initForget d k).setF (MEM_PROT_BASE d k) MEM_PROT_BASE.EN 0).setF (MEM_PROT_BASE d k) MEM_PROT_BASE.INIT 0
  else
    let s := s.setF (MEM_PROT_BASE d k) MEM_PROT_BASE.BASE base
    if !en then s
    else if s.protFits d k (base * 2 ^ 21) (s.protLen d k) then
      (s.setF (MEM_PROT_BASE d k) MEM_PROT_BASE.EN 1).setF (MEM_PROT_BASE d k) MEM_PROT_BASE.INIT 1
    else s.protBad d

/-- A write of MEM_PROT_k_LEN (R382). -/
def State.protLenWrite (s : State) (d k v : Nat) : State :=
  let len := v % 2 ^ 13
  if s.protEn d k then (if len = s.f (MEM_PROT_LEN d k) MEM_PROT_LEN.LEN then s else s.protBad d)
  else s.setF (MEM_PROT_LEN d k) MEM_PROT_LEN.LEN len

/-- The check bytes of region k are written from the data as it stands, and INIT clears (R382). A word of zeros has check byte 0, so
only words that hold something, and check bytes that hold something, are touched. -/
def State.protInit (s : State) (d k : Nat) : State :=
  if !(s.protEn d k && s.b (MEM_PROT_BASE d k) MEM_PROT_BASE.INIT) then s
  else
    let base := d * 2 ^ 37 + s.protLo d k
    let len := s.protLen d k
    let held := s.dram.map (·.1)
    let datas := (held.filter fun a => base ≤ a && a < base + len).map wordOf
    let checks := (held.filter fun a => base + len ≤ a && a < base + len + len / 8).map fun c => base + 8 * (c - base - len)
    let s := (datas ++ checks).foldl (fun s w => s.memPut (s.checkAddr k w) (BitVec.ofNat 8 (eccCheck (s.rawWord w)))) s
    (s.initForget d k).setF (MEM_PROT_BASE d k) MEM_PROT_BASE.INIT 0

end Sys2Proof.Machine
end

