-- ==== Sys2Proof/Machine/Nvm.lean ====
section
/-! DEFINITION. The non-volatile record store: sectors and records (R422 to R425), resolution of the two copies (R426, R427),
writing and compaction (R428 to R430), commands (R431), counters (R432 to R434), block protection (R435, R436). -/
namespace Sys2Proof.Machine

/-! ### Sectors and records -/

/-- The zone of a type (R422). -/
def nvmZone (ty : Nat) : Nat := if 0xC000 ≤ ty then 0 else if 0x8000 ≤ ty then 1 else if 0x4000 ≤ ty then 2 else 3

/-- Bytes a record of `len` payload bytes takes (R424). -/
def nvmSize (len : Nat) : Nat := (20 + len + 7) / 8 * 8

/-- A header as it lies in the array (R423). -/
def nvmHeadBytes (area erases sseq : Nat) : List Byte :=
  let h := [0x5652534E, 0x01 * 2 ^ 24 + area % 2 ^ 8 * 2 ^ 16, erases, sseq, 0, 0, 0].flatMap (leBytes 4)
  h ++ leBytes 4 (crc32c h).toNat

/-- What a scan finds in the first 32 bytes of a sector (R423). -/
def nvmReadHead (bs : List Byte) : NvmHead :=
  if wordAt bs 0 = 0xFFFFFFFF then .free none
  else if wordAt bs 0 = 0x5652534E ∧ wordAt bs 28 = (crc32c (bs.take 28)).toNat then
    .used (bits (wordAt bs 4) 23 16) (wordAt bs 8) (wordAt bs 12)
  else .unreadable

/-- A record as it lies in the array (R424); one that is not valid has a CRC that fails. -/
def NvmRec.bytes (r : NvmRec) : List Byte :=
  let w := r.payload.length * 2 ^ 16 + r.key
  let h := leBytes 4 (r.ty * 2 ^ 16 + 0x5A3C) ++ leBytes 4 w ++ leBytes 4 r.seq ++ leBytes 4 (2 ^ 32 - 1 - w) ++ r.payload
  h ++ (leBytes 4 (crc32c h).toNat).map fun b => if r.valid then b else ~~~b

/-- What a scan finds at a record position (R424): nothing, no record, or a record with its validity. -/
inductive NvmScan where
  | erased
  | broken
  | found (r : NvmRec)
deriving DecidableEq, Repr

/-- Read the bytes at a record position (R424). -/
def nvmReadRec (bs : List Byte) : NvmScan :=
  let w := wordAt bs 4
  let len := bits w 31 16
  let body := bs.take (16 + len)
  if wordAt bs 0 = 0xFFFFFFFF then .erased
  else if bits (wordAt bs 0) 15 0 != 0x5A3C || wordAt bs 12 + w != 2 ^ 32 - 1 then .broken
  else .found ⟨bits (wordAt bs 0) 31 16, bits w 15 0, wordAt bs 8, body.drop 16,
    len ≤ 4044 && 1 ≤ wordAt bs 8 && wordAt bs 8 ≤ 0xFFFFFFFE && decide (wordAt bs (16 + len) = (crc32c body).toNat)⟩

/-- Sector i of die d. -/
def NvmSt.sec (n : NvmSt) (d i : Nat) : NvmSec := n.secs.look NvmSec.blank (d * 1024 + i)

/-- Write sector i of die d. -/
def NvmSt.setSec (n : NvmSt) (d i : Nat) (x : NvmSec) : NvmSt := { n with secs := n.secs.put NvmSec.blank (d * 1024 + i) x }

/-- The sectors of a zone. -/
def zoneSecs (z : Nat) : List Nat := (List.range 144).map fun i => 192 + 144 * z + i

/-- In use by an area of its own: neither free, unreadable nor retired (AREA 0xE). -/
def NvmHead.inUse : NvmHead → Bool
  | .used a _ _ => a != 0xE
  | _ => false

/-- Free. -/
def NvmHead.isFree : NvmHead → Bool
  | .free _ => true
  | _ => false

/-- Retired (R429). -/
def NvmHead.retired : NvmHead → Bool
  | .used a _ _ => a = 0xE
  | _ => false

/-- ERASES, where the header carries it. -/
def NvmHead.erases : NvmHead → Option Nat
  | .used _ e _ => some e
  | .free e => e
  | .unreadable => none

/-- SSEQ; 0 where the sector is not in use. -/
def NvmHead.sseq : NvmHead → Nat
  | .used _ _ q => q
  | _ => 0

/-- The sectors of a zone of die d that hold records. -/
def NvmSt.inUse (n : NvmSt) (d z : Nat) : List Nat := (zoneSecs z).filter fun i => (n.sec d i).head.inUse

/-- The free sectors of a zone of die d. -/
def NvmSt.free (n : NvmSt) (d z : Nat) : List Nat := (zoneSecs z).filter fun i => (n.sec d i).head.isFree

/-- The largest ERASES that sectors `is` of die d carry. -/
def NvmSt.topErases (n : NvmSt) (d : Nat) (is : List Nat) : Nat := is.foldl (fun m i => max m ((n.sec d i).head.erases.getD 0)) 0

/-- The sectors of the area of sector i: a zone or the ladder. -/
def areaSecs (i : Nat) : List Nat := if i < 192 then List.range 192 else zoneSecs ((i - 192) / 144)

/-- Erases of sector i of die d: without a header of its own, the largest ERASES of its area (R423). (DEDUCED: notes/assumptions/41.md) -/
def NvmSt.erasesOf (n : NvmSt) (d i : Nat) : Nat := (n.sec d i).head.erases.getD (n.topErases d (areaSecs i))

/-- Every record position of a zone of die d: sector, place in it, record. -/
def NvmSt.recsOf (n : NvmSt) (d z : Nat) : List (Nat × Nat × NvmRec) :=
  (n.inUse d z).flatMap fun i => ((List.range (n.sec d i).recs.length).zip (n.sec d i).recs).map fun r => (i, r.1, r.2)

/-- The valid copies of (ty, key) on die d. -/
def NvmSt.copies (n : NvmSt) (d ty key : Nat) : List (Nat × Nat × NvmRec) :=
  (n.recsOf d (nvmZone ty)).filter fun r => r.2.2.valid && r.2.2.ty = ty && r.2.2.key = key

/-- Copy `a` is nominated before copy `b` (R426): higher SEQ, then lower SSEQ, then earlier in the sector. -/
def NvmSt.before (n : NvmSt) (d : Nat) (a b : Nat × Nat × NvmRec) : Bool :=
  let sa := (n.sec d a.1).head.sseq
  let sb := (n.sec d b.1).head.sseq
  b.2.2.seq < a.2.2.seq || (a.2.2.seq = b.2.2.seq && (sa < sb || (sa = sb && a.2.1 < b.2.1)))

/-- The copy that die d nominates (R426). -/
def NvmSt.nominate (n : NvmSt) (d ty key : Nat) : Option (Nat × Nat × NvmRec) :=
  (n.copies d ty key).foldl (fun best r =>
    match best with
    | none => some r
    | some b => if n.before d r b then some r else some b) none

/-- The highest SEQ of the valid copies of a key on die d; 0 when none. -/
def NvmSt.topSeq (n : NvmSt) (d ty key : Nat) : Nat := (n.copies d ty key).foldl (fun m r => max m r.2.2.seq) 0

/-- The record at a position is live on die d: the copy that it nominates (R429). -/
def NvmSt.isLive (n : NvmSt) (d : Nat) (r : Nat × Nat × NvmRec) : Bool := n.nominate d r.2.2.ty r.2.2.key = some r

/-- A live record stays through a compaction (R429): it is no tombstone, die 1 is not readable, or some die holds an older valid copy of
its key. -/
def NvmSt.kept (n : NvmSt) (dies : List Nat) (r : NvmRec) : Bool :=
  r.payload.length != 0 || !dies.contains 1 || [0, 1].any fun e => (n.copies e r.ty r.key).any fun c => c.2.2.seq < r.seq

/-- The live records of sector i of die d. -/
def NvmSt.liveRecs (n : NvmSt) (d z i : Nat) : List NvmRec := ((n.recsOf d z).filter fun r => r.1 = i && n.isLive d r).map (·.2.2)

/-- Live bytes of sector i. -/
def NvmSt.secLive (n : NvmSt) (d z i : Nat) : Nat := (n.liveRecs d z i).foldl (fun m r => m + nvmSize r.payload.length) 0

/-- Live bytes of a zone of die d: every nominated copy at its size (R422). -/
def NvmSt.zoneLive (n : NvmSt) (d z : Nat) : Nat := (n.inUse d z).foldl (fun m i => m + n.secLive d z i) 0

/-- Size of the live copy of a key on die d; 0 when none. -/
def NvmSt.liveSize (n : NvmSt) (d ty key : Nat) : Nat :=
  match n.nominate d ty key with
  | some r => nvmSize r.2.2.payload.length
  | none => 0

/-! ### Programming, appending and compaction

A command works on the array while the supply holds. Where it is cut short (R430), a number of its steps are done, a byte programmed or a
sector erased, and the step in progress has left some bits at 1. (DEDUCED: notes/assumptions/41.md) -/

/-- The array at work: what is left before the interruption, `none` where the command runs to its end. -/
structure NvmRun where
  st : NvmSt
  left : Option (Nat × Byte)
deriving DecidableEq, Repr

/-- The supply has gone. -/
def NvmRun.dead (n : NvmRun) : Bool := n.left = some (0, 0xFF)

/-- Program bytes: what lands, and the array's run afterwards; erased bytes read 0xFF (R422). -/
def NvmRun.spend (n : NvmRun) (bs : List Byte) : List Byte × NvmRun :=
  match n.left with
  | none => (bs, n)
  | some (k, m) =>
    if bs.length ≤ k then (bs, { n with left := some (k - bs.length, m) })
    else (bs.take k ++ (bs.getD k 0 ||| m) :: List.replicate (bs.length - k - 1) 0xFF, { n with left := some (0, 0xFF) })

/-- Write sector i of die d. -/
def NvmRun.setSec (n : NvmRun) (d i : Nat) (x : NvmSec) : NvmRun := { n with st := n.st.setSec d i x }

/-- The open sector of a zone of die d: the one opened last. -/
def NvmSt.openSec (n : NvmSt) (d z : Nat) : Option Nat :=
  (n.inUse d z).foldl (fun best i =>
    match best with
    | none => some i
    | some b => if (n.sec d b).head.sseq < (n.sec d i).head.sseq then some i else some b) none

/-- Open free sector i of area `z`, a zone or the ladder (8), as its newest: its header is written (R423). -/
def NvmRun.openNew (n : NvmRun) (d z i : Nat) : NvmRun :=
  let top := ((areaSecs i).filter fun j => (n.st.sec d j).head.inUse).foldl (fun m j => max m ((n.st.sec d j).head.sseq + 1)) 1
  let e := n.st.erasesOf d i
  match n.left with
  | none => n.setSec d i ⟨.used z e top, 32, []⟩
  | some _ =>
    let w := n.spend (nvmHeadBytes z e top)
    match nvmReadHead w.1 with
    | .free _ => w.2
    | h => w.2.setSec d i ⟨h, 32, []⟩

/-- Program record r behind the records of sector i: a header that fails closes the sector until it is erased (R424). -/
def NvmRun.add (n : NvmRun) (d i : Nat) (r : NvmRec) : NvmRun :=
  let x := n.st.sec d i
  let put (n : NvmRun) (r : NvmRec) : NvmRun := n.setSec d i { x with used := x.used + nvmSize r.payload.length, recs := x.recs ++ [r] }
  match n.left with
  | none => put n r
  | some _ =>
    let w := n.spend r.bytes
    match nvmReadRec w.1 with
    | .erased => w.2
    | .broken => w.2.setSec d i { x with used := 4096 }
    | .found r => put w.2 r

/-- Put a record into the open sector, opening a free one when it lacks room; `none` when there is none. -/
def NvmRun.place (n : NvmRun) (d z : Nat) (r : NvmRec) : Option NvmRun :=
  let fits (i : Nat) : Bool := (n.st.sec d i).used + nvmSize r.payload.length ≤ 4096
  match n.st.openSec d z, n.st.free d z with
  | some i, fs =>
    if fits i then some (n.add d i r)
    else match fs with
      | j :: _ => some ((n.openNew d z j).add d j r)
      | [] => none
  | none, j :: _ => some ((n.openNew d z j).add d j r)
  | none, [] => none

/-- Erase a sector and write its header with ERASES + 1 (R429); retired when the erase fails or 100,000 erases are reached. -/
def NvmRun.eraseSec (n : NvmRun) (d i : Nat) (bad : Bool) : NvmRun :=
  let e := n.st.erasesOf d i + 1
  let area := if bad || 100000 ≤ e then 0xE else if i < 192 then 8 else (i - 192) / 144
  let done : NvmHead := if area = 0xE then .used 0xE e 0 else .free (some e)
  match n.left with
  | none => n.setSec d i { NvmSec.blank with head := done }
  | some (0, m) =>
    if m = 0xFF then n else { st := n.st.setSec d i { NvmSec.blank with head := .unreadable }, left := some (0, 0xFF) }
  | some (k + 1, m) =>
    let w := NvmRun.spend { n with left := some (k, m) } (nvmHeadBytes area e 0)
    w.2.setSec d i { NvmSec.blank with head := match nvmReadHead w.1 with
      | .used _ _ _ => done
      | h => h }

/-- The victim of a compaction (R429): a sector at least 1,000 erases below the highest, else the fewest live bytes, then the
lowest SSEQ; an unreadable sector has no live bytes (R423); never the open sector. (DEDUCED: notes/assumptions/41.md) -/
def NvmSt.victim (n : NvmSt) (d z : Nat) : Option Nat :=
  let cand := (zoneSecs z).filter fun i => ((n.sec d i).head.inUse || (n.sec d i).head = .unreadable) && n.openSec d z != some i
  match cand.find? fun i => n.erasesOf d i + 1000 ≤ n.topErases d (zoneSecs z) with
  | some i => some i
  | none => cand.foldl (fun best i =>
      match best with
      | none => some i
      | some b =>
        let li := n.secLive d z i
        let lb := n.secLive d z b
        if li < lb || (li = lb && (n.sec d i).head.sseq < (n.sec d b).head.sseq) then some i else some b) none

/-- One compaction of a zone on die d. -/
def NvmRun.compact (n : NvmRun) (dies : List Nat) (d z : Nat) (bad : Bool) : Option NvmRun :=
  (n.st.victim d z).bind fun v =>
    (((n.st.liveRecs d z v).filter (n.st.kept dies)).foldl (fun (m : Option NvmRun) r => m.bind fun m => m.place d z r) (some n)).map
      fun m => m.eraseSec d v bad

/-- Compact until opening a sector leaves the zone 2 free ones; `none` when that cannot be reached. -/
def NvmRun.makeRoom (n : NvmRun) (dies : List Nat) (d z : Nat) (bad : Bool) : Nat → Option NvmRun
  | 0 => if n.dead || 3 ≤ (n.st.free d z).length then some n else none
  | k + 1 =>
    if n.dead || 3 ≤ (n.st.free d z).length then some n
    else (n.compact dies d z bad).bind fun m => m.makeRoom dies d z false k

/-- append() of R428 for one attempt. (DEDUCED: notes/assumptions/41.md) -/
def NvmRun.append1 (n : NvmRun) (dies : List Nat) (d : Nat) (bad : Bool) (r : NvmRec) : Option NvmRun :=
  let z := nvmZone r.ty
  let fits : Bool := match n.st.openSec d z with
    | some i => decide ((n.st.sec d i).used + nvmSize r.payload.length ≤ 4096)
    | none => false
  if fits then n.place d z r else (n.makeRoom dies d z bad 144).bind fun m => m.place d z r

/-- append() of R428: `fails` verify reads fail first; after three the die counts as failed. -/
def NvmRun.append (n : NvmRun) (dies : List Nat) (d fails : Nat) (bad : Bool) (r : NvmRec) : Option (NvmRun × Bool) :=
  let m := (List.range (min fails 3)).foldl (fun (m : Option NvmRun) _ => m.bind fun m => m.append1 dies d bad { r with valid := false }) (some n)
  if 3 ≤ fails then m.map (·, false) else (m.bind fun m => m.append1 dies d bad r).map (·, true)

/-! ### Results -/

/-- Result codes of NVM_k_STAT. -/
inductive NvmResult where
  | ok | absent | denied | prot | full | badArg | seqEnd | mirror | media
deriving DecidableEq, Repr

/-- Their codes. -/
def NvmResult.code : NvmResult → Nat
  | .ok => 0 | .absent => 1 | .denied => 2 | .prot => 3 | .full => 4 | .badArg => 5 | .seqEnd => 6 | .mirror => 7 | .media => 8

/-- The result of a write that `ok` of `n` dies took (R428). -/
def nvmOutcome (ok n : Nat) : NvmResult := if ok = n then .ok else if ok = 0 then .media else .mirror

/-- The dies whose copy takes part (R427). -/
def State.nvmDies (s : State) : List Nat :=
  (if s.b NVM_STATUS NVM_STATUS.DIE0_OK && s.live 0 then [0] else []) ++ (if s.b NVM_STATUS NVM_STATUS.DIE1_OK && s.live 1 then [1] else [])

/-- Put the store back. -/
def State.setNvm (s : State) (n : NvmSt) : State := { s with dev := { s.dev with nvm := n } }

/-- A zone is protected (R435). -/
def State.nvmProt (s : State) (z : Nat) : Bool :=
  match s.f NVM_BP NVM_BP.BP with
  | 0 => false
  | 1 => z = 3
  | 2 => z = 3 || z = 2
  | _ => true

/-- Raise a tie once per key and reset (R427). -/
def State.nvmTie (s : State) (ty key : Nat) : State :=
  if s.dev.nvm.ties.contains (ty, key) then s
  else
    let s := s.setNvm { s.dev.nvm with ties := (ty, key) :: s.dev.nvm.ties }
    let s := s.latchOnce NVM_TIE_LAST (·.setReg NVM_TIE_LAST (ty * 2 ^ 16 + key))
    (((s.count NVM_TIE_CNT).setF NVM_STATUS NVM_STATUS.TIE 1)).ev .nvmTie

/-- Die d holds two valid copies of the top SEQ that differ (R426). -/
def NvmSt.ownTie (n : NvmSt) (d ty key : Nat) : Bool :=
  match n.nominate d ty key with
  | some r => (n.copies d ty key).any fun c => c.2.2.seq = r.2.2.seq && c.2.2.payload != r.2.2.payload
  | none => false

/-- The two dies' nominated copies tie (R426 case 4), or one die's own do. -/
def State.nvmTied (s : State) (ty key : Nat) : Bool :=
  let n := s.dev.nvm
  let ds := s.nvmDies
  ds.any (fun d => n.ownTie d ty key) ||
    (ds = [0, 1] && match n.nominate 0 ty key, n.nominate 1 ty key with
      | some a, some b => a.2.2.seq = b.2.2.seq && a.2.2.payload != b.2.2.payload
      | _, _ => false)

/-- The record of a key as R426 resolves it. -/
def State.nvmResolve (s : State) (ty key : Nat) : Option NvmRec :=
  let n := s.dev.nvm
  s.nvmDies.foldl (fun best d =>
    match n.nominate d ty key, best with
    | none, b => b
    | some r, none => some r.2.2
    | some r, some (b : NvmRec) => if b.seq < r.2.2.seq then some r.2.2 else some b) none

/-- Read a record: ties are raised, a tombstone reads as absent. -/
def State.nvmGet (s : State) (ty key : Nat) : Option NvmRec × State :=
  let s' := if ty != 0xC000 && s.nvmTied ty key then s.nvmTie ty key else s
  ((s.nvmResolve ty key).bind fun r => if r.payload.isEmpty then none else some r, s')

/-- The payload of a record that the part reads for its own use. -/
def State.nvmPeek (s : State) (ty key : Nat) : Option (List Byte) :=
  (s.nvmResolve ty key).bind fun r => if r.payload.isEmpty then none else some r.payload

/-! ### Writes (R428) -/

/-- Nothing goes wrong. -/
def nvmNoFail : NvmFail := ⟨[], [], .none⟩

/-- Write a record to every readable die, die 0 first (R428); `none` when some die has no room, in which case nothing is written. -/
def State.nvmPut (s : State) (f : NvmFail) (r : NvmRec) : Option (NvmSt × Nat) :=
  let ds := s.nvmDies
  (ds.foldl (fun acc d => acc.bind fun (a : NvmRun × Nat) =>
    (a.1.append ds d (f.verify.getD d 0) (f.erase.contains d) r).map fun x => (x.1, a.2 + if x.2 then 1 else 0))
    (some (⟨s.dev.nvm, f.cut⟩, 0))).map fun a => (a.1.st, a.2)

/-- Who may write a type (R425): `none` allowed, else the refusal. -/
def nvmAllowed (chan ty : Nat) : Option NvmResult :=
  if ty = 0x21 then (if chan = 1 then none else some .denied)
  else if ty = 0x30 ∨ ty = 0x40 then none
  else if ty < 0x100 then some .badArg
  else if ty = 0xC000 then some .denied
  else none

/-- A trusted-digest payload is well formed (R64). -/
def digestWellFormed (p : List Byte) : Bool :=
  let w := wordAt p 0
  4 ≤ p.length && bits w 10 8 ≤ 4 && p.length = 4 + 32 * bits w 10 8 && w - bits w 0 0 - bits w 10 8 * 256 = 0

/-- nvm_write() of R428 for a permitted type: result, SEQ written. -/
def State.nvmWrite (s : State) (ty key : Nat) (payload : List Byte) (f : NvmFail) : NvmResult × Nat × State :=
  let z := nvmZone ty
  if s.nvmProt z then (.prot, 0, s)
  else
    let s := if s.nvmTied ty key then s.nvmTie ty key else s
    let n := s.dev.nvm
    let ds := s.nvmDies
    let top := ds.foldl (fun m d => max m (n.topSeq d ty key)) 0
    if top = 0xFFFFFFFE then (.seqEnd, 0, s)
    else if ds.any fun d => 524288 < n.zoneLive d z - n.liveSize d ty key + nvmSize payload.length then (.full, 0, s)
    else match s.nvmPut f ⟨ty, key, top + 1, payload, true⟩ with
      | none => (.full, 0, s)
      | some (n', ok) => (nvmOutcome ok ds.length, top + 1, s.setNvm n')

/-! ### Counters (R432 to R434) -/

/-- Cell i of a ladder slot. -/
def NvmSt.cell (n : NvmSt) (d slot i : Nat) : Nat := n.cells.look 0xFFFFFFFF ((d * 5952 + slot) * 32 + i)

/-- Program a cell: bits only turn from 1 to 0 (R422). -/
def NvmRun.setCell (n : NvmRun) (d slot i v : Nat) : NvmRun :=
  let w := n.spend (leBytes 4 v)
  { w.2 with st := { w.2.st with
      cells := w.2.st.cells.put 0xFFFFFFFF ((d * 5952 + slot) * 32 + i) (Nat.land (n.st.cell d slot i) (leNat w.1)) } }

/-- The word of a cell with a tag. -/
def tagCell (tag : Nat) : Nat := tag % 2 ^ 16 * 2 ^ 16 + (0xFFFF - tag % 2 ^ 16)

/-- The base of counter k on die d: SEQ, VALUE, SLOT. -/
def NvmSt.base (n : NvmSt) (d k : Nat) : Option (Nat × Nat × Nat) :=
  (n.nominate d 0xC000 k).map fun r =>
    (r.2.2.seq, leNat (r.2.2.payload.take 8), leNat ((r.2.2.payload.drop 8).take 2))

/-- The value of counter k on die d (R432). -/
def NvmSt.ctr (n : NvmSt) (d k : Nat) : Nat :=
  match n.base d k with
  | none => 0
  | some (q, v, sl) => min (2 ^ 64 - 1) (v + ((List.range 32).filter fun i => n.cell d sl i = tagCell q).length)

/-- The slots that a base of die d names, with their counters. -/
def NvmSt.named (n : NvmSt) (d : Nat) : List (Nat × Nat) :=
  (((n.recsOf d 0).filter fun r => r.2.2.ty = 0xC000 && r.2.2.valid).map (·.2.2.key)).eraseDups.filterMap fun k =>
    (n.base d k).map fun b => (b.2.2, k)

/-- The slots of die d that are not wholly erased. -/
def NvmSt.touched (n : NvmSt) (d : Nat) : List Nat :=
  ((n.cells.map fun c => c.1 / 32).filter fun x => x / 5952 = d).map (· - d * 5952) |>.eraseDups

/-- Ladder sector i of die d has no slots to give: it is retired, or unreadable until it is erased (R423, R429). -/
def NvmSt.secGone (n : NvmSt) (d i : Nat) : Bool := (n.sec d i).head.retired || (n.sec d i).head = .unreadable

/-- A free slot of die d: erased, named by no base, and not in sector `avoid`, whose compaction is in progress (R433, R434). -/
def NvmSt.freeSlot (n : NvmSt) (d : Nat) (avoid : Option Nat) : Option Nat :=
  let used := n.touched d ++ (n.named d).map (·.1)
  (List.range 5952).find? fun sl => !used.contains sl && !n.secGone d (sl / 31) && avoid != some (sl / 31)

/-- How many slots of die d are free. -/
def NvmSt.freeSlots (n : NvmSt) (d : Nat) : Nat :=
  let used := ((n.touched d ++ (n.named d).map (·.1)).eraseDups).filter fun sl => !n.secGone d (sl / 31)
  5952 - ((List.range 192).filter fun i => n.secGone d i).length * 31 - used.length

/-- A ladder sector comes into use with its first slot: it gets its header (R423). -/
def NvmRun.openSlot (n : NvmRun) (d sl : Nat) : NvmRun := if (n.st.sec d (sl / 31)).head.isFree then n.openNew d 8 (sl / 31) else n

/-- Write a new base of counter k with VALUE v in a free slot outside sector `avoid`, and whether its die accepted it; `none` when full. -/
def NvmRun.roll (n : NvmRun) (dies : List Nat) (avoid : Option Nat) (d k v fails : Nat) (bad : Bool) : Option (NvmRun × Bool) :=
  (n.st.freeSlot d avoid).bind fun sl =>
    let q := (n.st.topSeq d 0xC000 k) + 1
    if 0xFFFFFFFE < q then none
    else if 524288 < n.st.zoneLive d 0 - n.st.liveSize d 0xC000 k + nvmSize 12 then none
    else (n.openSlot d sl).append dies d fails bad ⟨0xC000, k, q, leBytes 8 v ++ leBytes 4 sl, true⟩

/-- Erase ladder sector i of die d (R434), its cells with it; a cut before the erase leaves them. -/
def NvmRun.eraseLadder (n : NvmRun) (d i : Nat) (bad : Bool) : NvmRun :=
  let n' := n.eraseSec d i bad
  if n.dead then n'
  else { n' with st := { n'.st with cells := n'.st.cells.filter fun c => !(c.1 / 32 / 5952 = d && c.1 / 32 % 5952 / 31 = i) } }

/-- Compact the ladder area of die d when fewer than 64 slots are free (R434): the named counters of the victim move to other sectors.
(DEDUCED: notes/assumptions/41.md) -/
def NvmRun.ladder (n : NvmRun) (dies : List Nat) (d : Nat) (bad : Bool) : NvmRun :=
  if n.dead || 64 ≤ n.st.freeSlots d then n
  else
    let names := n.st.named d
    let count (i : Nat) := (names.filter fun x => x.1 / 31 = i).length
    let cand := (List.range 192).filter fun i =>
      (n.st.sec d i).head = .unreadable || (!(n.st.sec d i).head.retired && (n.st.touched d).any fun sl => sl / 31 = i)
    match cand.foldl (fun best i =>
      match best with
      | none => some i
      | some b => if count i < count b then some i else some b) none with
    | none => n
    | some v =>
      let moved := (names.filter fun x => x.1 / 31 = v).foldl (fun (m : Option NvmRun) x => m.bind fun m =>
        (m.roll dies (some v) d x.2 (m.st.ctr d x.2) 0 false).map (·.1)) (some n)
      match moved with
      | some m => m.eraseLadder d v bad
      | none => n

/-- Bring counter k of die d to V (roll-over), compacting first when due; `none` when no slot is free. -/
def NvmRun.rollTo (n : NvmRun) (dies : List Nat) (f : NvmFail) (d k v : Nat) : Option (NvmRun × Bool) :=
  (n.ladder dies d (f.erase.contains d)).roll dies none d k v (f.verify.getD d 0) (f.erase.contains d)

/-- CTR_ADD of 1 on die d (R433). -/
def NvmRun.addOne (n : NvmRun) (dies : List Nat) (f : NvmFail) (d k : Nat) : Option (NvmRun × Bool) :=
  let more := n.rollTo dies f d k (min (2 ^ 64 - 1) (n.st.ctr d k + 1))
  match n.st.base d k with
  | none => more
  | some (q, _, sl) =>
    match (List.range 32).find? fun i => n.st.cell d sl i = 0xFFFFFFFF with
    | some i => some (n.setCell d sl i (tagCell q), true)
    | none => more

/-- A counter operation on every readable die (R433): a die whose value is lower is brought up to the larger value, then `op` acts on each
die, die 0 first. -/
def State.ctrRun (s : State) (k : Nat) (f : NvmFail) (op : NvmRun → Nat → Option (NvmRun × Bool)) : Option (NvmSt × Nat) :=
  let ds := s.nvmDies
  let top := ds.foldl (fun m d => max m (s.dev.nvm.ctr d k)) 0
  let raised := ds.foldl (fun acc d => acc.bind fun (a : NvmRun × List Nat) =>
    if a.1.st.ctr d k < top then (a.1.rollTo ds f d k top).map fun u => (u.1, if u.2 then a.2 else d :: a.2) else some a)
    (some (⟨s.dev.nvm, f.cut⟩, []))
  raised.bind fun r => (ds.foldl (fun acc d => acc.bind fun (a : NvmRun × Nat) =>
    (op a.1 d).map fun x => (x.1, a.2 + if x.2 && !r.2.contains d then 1 else 0)) (some (r.1, 0))).map fun a => (a.1.st, a.2)

/-- The value of a counter: the larger of the two dies' (R433). -/
def State.ctrVal (s : State) (k : Nat) : Nat := s.nvmDies.foldl (fun m d => max m (s.dev.nvm.ctr d k)) 0

/-! ### Commands (R431) -/

/-- The payload that a channel's buffer and LEN give. -/
def State.nvmPayload (s : State) (k : Nat) : List Byte :=
  let len := s.f (NVM_LEN k) NVM_LEN.LEN
  (List.range len).map fun i =>
    (s.dev.nvm.buf.look 0 (k * 1024 + i / 4)).extractLsb' (8 * (i % 4)) 8

/-- A payload into a channel's buffer: its bytes replace those of the words it fills. -/
def State.nvmFill (s : State) (k : Nat) (p : List Byte) : State :=
  s.setNvm { s.dev.nvm with buf := (List.range ((p.length + 3) / 4)).foldl (fun m i =>
    let old := leBytes 4 (m.look (0 : Word) (k * 1024 + i)).toNat
    let new := (p.drop (4 * i)).take 4
    m.put 0 (k * 1024 + i) (BitVec.ofNat 32 (leNat (new ++ old.drop new.length)))) s.dev.nvm.buf }

/-- End a command of channel k (R431): result, DONE, and NVM_DONE to the host (channel 0) or on INT_L (channel 1).
(DEDUCED: notes/assumptions/41.md) -/
def State.nvmDone (s : State) (k : Nat) (r : NvmResult) : State :=
  let s := (s.setF (NVM_STAT k) NVM_STAT.RESULT r.code).setBitF NVM_STATUS NVM_STATUS.DONE k
  if k = 0 then s.evHost Ev.nvmDone.bit else s.evMgmt Ev.nvmDone.bit

/-- READ (R426). -/
def State.nvmRead (s : State) (k ty key : Nat) : State :=
  if ty = 0 then s.nvmDone k .badArg
  else
    let r := s.nvmGet ty key
    match r.1 with
    | none => r.2.nvmDone k .absent
    | some x => (((r.2.nvmFill k x.payload).setF (NVM_LEN k) NVM_LEN.LEN x.payload.length).setReg (NVM_SEQ k) x.seq).nvmDone k .ok

/-- WRITE (`del` false; with LEN 0 it writes a tombstone, R437, but for a trusted-digest record, R64) and DELETE (R428). -/
def State.nvmWriteCmd (s : State) (k ty key : Nat) (p : List Byte) (del : Bool) (f : NvmFail) : State :=
  match nvmAllowed k ty with
  | some r => s.nvmDone k r
  | none =>
    if ty = 0x21 && !del && !digestWellFormed p then s.nvmDone k .badArg
    else
      let x := s.nvmWrite ty key p f
      let t := if x.2.1 = 0 then x.2.2 else x.2.2.setReg (NVM_SEQ k) x.2.1
      if f.cut.isSome then t.setF (NVM_STAT k) NVM_STAT.BUSY 1 else t.nvmDone k x.1

/-- Die 0's base SEQ and the value into SEQ and VAL. -/
def State.ctrReport (s : State) (k key : Nat) : State :=
  let q := match s.dev.nvm.base 0 key with
    | some b => b.1
    | none => 0
  (s.setReg (NVM_SEQ k) q).setPair (NVM_VAL_LO k) (NVM_VAL_HI k) 32 (s.ctrVal key)

/-- CTR_READ, CTR_ADD (`add`) and CTR_SET (R433). -/
def State.ctrCmd (s : State) (k key op : Nat) (f : NvmFail) : State :=
  let v := s.pair (NVM_VAL_LO k) (NVM_VAL_HI k) 32
  if 4095 < key then s.nvmDone k .badArg
  else if op = 4 then (s.ctrReport k key).nvmDone k .ok
  else if op = 5 && (v = 0 || 2 ^ 32 ≤ v) then s.nvmDone k .badArg
  else if s.nvmProt 0 then s.nvmDone k .prot
  else
    let ds := s.nvmDies
    let one := op = 5 && v = 1
    let goal := if op = 5 then min (2 ^ 64 - 1) (s.ctrVal key + v) else v
    match s.ctrRun key f fun n d => if one then n.addOne ds f d key else n.rollTo ds f d key goal with
    | none => s.nvmDone k .full
    | some (n, ok) =>
      let t := s.setNvm n
      if f.cut.isSome then t.setF (NVM_STAT k) NVM_STAT.BUSY 1
      else (t.ctrReport k key).nvmDone k (nvmOutcome ok ds.length)

/-- A GO on channel k with operation `op`: discarded while BUSY; a host GO on channel 1 is discarded (cause 0x3 of R475). -/
def State.nvmGo (s : State) (who : Requester) (k op : Nat) (f : NvmFail) : State :=
  if k = 1 && who = .host then s.accErr 3 (NVM_CMD k)
  else if 1 < k || s.b (NVM_STAT k) NVM_STAT.BUSY then s
  else
    let s := s.setF (NVM_CMD k) NVM_CMD.OP op
    let ty := s.f (NVM_ID k) NVM_ID.TYPE
    let key := s.f (NVM_ID k) NVM_ID.KEY
    match op with
    | 1 => s.nvmRead k ty key
    | 2 => if 4044 < s.f (NVM_LEN k) NVM_LEN.LEN then s.nvmDone k .badArg else s.nvmWriteCmd k ty key (s.nvmPayload k) false f
    | 3 => s.nvmWriteCmd k ty key [] true f
    | 4 | 5 | 6 => s.ctrCmd k key op f
    | _ => s.nvmDone k .badArg

/-- A DATA access of channel k (R431): the word at IDX, then IDX steps and wraps from 1,010 to 0. (DEDUCED: notes/assumptions/23.md) -/
def State.nvmData (s : State) (k : Nat) (wr : Option Word) : Word × State :=
  let i := s.f (NVM_DIDX k) NVM_DIDX.IDX
  let r := if 1010 < i then s.draw else ((s.dev.nvm.buf.look 0 (k * 1024 + i)).toNat, s)
  let s := r.2
  let s := match wr with
    | some w => if 1010 < i then s else s.setNvm { s.dev.nvm with buf := s.dev.nvm.buf.put 0 (k * 1024 + i) w }
    | none => s
  (BitVec.ofNat 32 r.1, s.setF (NVM_DIDX k) NVM_DIDX.IDX (if 1010 ≤ i then 0 else i + 1))

/-- A write of NVM_BP (R436). (DEDUCED: notes/assumptions/41.md) -/
def State.bpWrite (s : State) (who : Requester) (v : Nat) : State :=
  let deny := (s.setF NVM_STATUS NVM_STATUS.BP_DENIED 1).err ERR_STATUS.NVM
  if s.b NVM_BP_LOCK NVM_BP_LOCK.LOCK then deny
  else if who = .host && v % 4 < s.f NVM_BP NVM_BP.BP then deny
  else
    let s := s.setNvm { s.dev.nvm with bp := s.nvmDies.foldl (fun m d => m.put none d (some (v % 4))) s.dev.nvm.bp }
    s.setF NVM_BP NVM_BP.BP (v % 4)

/-- A write of NVM_BP_LOCK: 1 sets LOCK, 0 has no effect (R436). -/
def State.bpLockWrite (s : State) (v : Nat) : State := if bitOf v 0 then s.setF NVM_BP_LOCK NVM_BP_LOCK.LOCK 1 else s

/-- The record store scan at reset (R431, R436, R430): DIE_OK of a die whose array is readable (R427), BP, NVM_DIFF; no tie has been raised
yet. -/
def State.nvmScan (s : State) : State :=
  let ok (d : Nat) : Bool := s.live d && (s.dev.fuse.look noFuse d).store
  let s := (s.setB NVM_STATUS NVM_STATUS.DIE0_OK (ok 0)).setB NVM_STATUS NVM_STATUS.DIE1_OK (ok 1)
  let n := { s.dev.nvm with ties := [] }
  let s := s.setNvm n
  let word (d : Nat) : Option Nat := if s.nvmDies.contains d then n.bp.look none d else none
  let s := s.setF NVM_BP NVM_BP.BP ((word 0).getD ((word 1).getD 0))
  let keys := ((List.range 4).flatMap fun z => (n.recsOf 0 z).map fun r => (r.2.2.ty, r.2.2.key)).eraseDups
  let diff := keys.filter fun k => k.1 != 0xC000 && s.nvmDies = [0, 1] &&
    match n.nominate 0 k.1 k.2, n.nominate 1 k.1 k.2 with
    | some a, some b => a.2.2.seq != b.2.2.seq
    | _, _ => false
  s.setReg NVM_DIFF diff.length

/-- NVM_ZONE_z as it reads: free sectors of the poorer die, live bytes of the fuller. -/
def State.nvmZoneView (s : State) (z : Nat) : Nat :=
  let n := s.dev.nvm
  let ds := s.nvmDies
  let free := ds.foldl (fun m d => min m (n.free d z).length) (if ds.isEmpty then 0 else 255)
  let live := ds.foldl (fun m d => max m (n.zoneLive d z)) 0
  min 255 free * 2 ^ 24 + live % 2 ^ 20

/-- NVM_WEAR as it reads. -/
def State.nvmWearView (s : State) : Nat :=
  let secs := s.dev.nvm.secs.filter fun x => s.nvmDies.contains (x.1 / 1024)
  min 255 (secs.filter fun x => x.2.head.retired).length * 2 ^ 24 + secs.foldl (fun m x => max m (x.2.head.erases.getD 0)) 0 % 2 ^ 17

end Sys2Proof.Machine
end

