-- ==== Sys2Proof/Machine/Timebase.lean ====
section
/-! DEFINITION. Timebase and wall synchronisation: raster and frame counter (R79 to R85), SYNC_OUT (R93, R94), SYNC_IN and the slave
states (R95 to R98). -/
namespace Sys2Proof.Machine

/-- Put the timebase back. -/
def State.setTb (s : State) (t : TbSt) : State := { s with dev := { s.dev with tb := t } }

/-- TB_FRAME. -/
def State.tbFrame (s : State) : Nat := s.pair TB_FRAME_LO TB_FRAME_HI 16

/-- The raster that `v` (active or shadow values) gives (R79). -/
def rasterOf (v : Nat → Nat) : Raster :=
  { lineTicks := TB_HTIMING0.LINE_TICKS.get (v TB_HTIMING0), hsyncW := TB_HTIMING0.HSYNC_W.get (v TB_HTIMING0),
    hactStart := TB_HTIMING1.HACT_START.get (v TB_HTIMING1), hactEnd := TB_HTIMING2.HACT_END.get (v TB_HTIMING2),
    vtotal := TB_VTIMING0.VTOTAL.get (v TB_VTIMING0), vsyncStart := TB_VTIMING1.VSYNC_START.get (v TB_VTIMING1),
    vsyncLines := TB_VTIMING1.VSYNC_LINES.get (v TB_VTIMING1), frameAdj := TB_FRAME_ADJ.FRAME_ADJ.get (v TB_FRAME_ADJ),
    fracNum := TB_FRAC.FRAC_NUM.get (v TB_FRAC), fracDen := TB_FRAC.FRAC_DEN.get (v TB_FRAC) }

/-- The active raster. -/
def State.raster (s : State) : Raster := rasterOf s.reg

/-- Ticks of a frame of raster `r` whose accumulator is `acc` at its start, and the accumulator after it (R81). -/
def Raster.frame (r : Raster) (acc : Nat) : Nat × Nat :=
  let base := r.vtotal * r.lineTicks + r.frameAdj
  if r.fracDen ≤ acc + r.fracNum then (base + 1, acc + r.fracNum - r.fracDen) else (base, acc + r.fracNum)

/-- Ticks of the frame in force, with the slave's correction of its last line (R97). -/
def State.frameTicks (s : State) : Nat :=
  (((s.dev.tb.ras.frame s.dev.tb.acc).1 : Int) + s.dev.tb.extra).toNat

/-- Lines of the active area: the canvas height of the image in force. -/
def State.canvasH (s : State) : Nat := match s.dev.image with
  | some im => im.canvasH
  | none => 0

/-- Columns of the canvas. -/
def State.canvasW (s : State) : Nat := match s.dev.image with
  | some im => im.canvasW
  | none => 0

/-- The number that TB_FRAME takes at the next frame start (R85, R97). -/
def State.nextNumber (s : State) : Nat := match s.dev.tb.setFrame with
  | some (m, _) => m % 2 ^ 48
  | none => (s.tbFrame + 1) % 2 ^ 48

/-- The number of the frame before the one in force. -/
def State.prevFrame (s : State) : Option Nat := s.dev.tb.starts.head?.map (·.1)

/-- The place of frame `n`, the frame in force or the one before it. -/
def State.placeOf (s : State) (n : Nat) : Nat := if n = s.tbFrame then s.dev.tb.place else s.dev.tb.place - 1

/-- The number of the frame at place `o`, not after the one in force. -/
def State.numberOf (s : State) (o : Nat) : Nat :=
  if o = s.dev.tb.place then s.tbFrame
  else match s.dev.tb.starts.find? (·.2.1 = o) with
    | some x => x.1
    | none => (s.tbFrame + 2 ^ 48 - (s.dev.tb.place - o) % 2 ^ 48) % 2 ^ 48

/-- The frame start as the timebase sees it (R81, R84, R85, R97). -/
def State.tbFrameStart (s : State) : State :=
  let t := s.dev.tb
  let n := s.tbFrame
  let next := s.nextNumber
  let step := match t.setFrame with
    | some (_, b) => b
    | none => false
  let at' := t.start + s.frameTicks
  let acc := if t.changed then 0 else (t.ras.frame t.acc).2
  let s := s.setTb { t with
    ras := s.raster, acc := acc, changed := false, start := at', extra := 0, line := 0, setFrame := none,
    starts := (n, t.place, t.start) :: t.starts.take 3, place := t.place + 1 }
  let s := s.setPair TB_FRAME_LO TB_FRAME_HI 16 next
  if step then (s.setF TB_STATUS TB_STATUS.FRAME_STEP 1).err ERR_STATUS.TB else s

/-- The raster starts (R78): frame 0, line 0, with the active raster. -/
def State.tbRasterStart (s : State) : State :=
  (s.setTb { TbSt.reset with
    ras := s.raster, ofs := [(0, sext 24 (s.f TB_SYNC_OUT TB_SYNC_OUT.OFS), 0)] }).setPair TB_FRAME_LO TB_FRAME_HI 16 0

/-- Time of the knot line of the frame in force, in ticks of the raster: line KNOT_CTL.LINE, or CANVAS_H when 0 (R173). -/
def State.knotLine (s : State) : Nat :=
  let l := s.f KNOT_CTL KNOT_CTL.LINE
  if l = 0 then s.canvasH else l

/-! ### SYNC_OUT -/

/-- One bit of CRC-8: polynomial 0x07 (R94). -/
def crc8Bit (c : Nat) : Nat := if bitOf c 7 then Nat.xor (c * 2 % 256) 7 else c * 2 % 256

/-- CRC-8 of R94 over bytes. -/
def crc8 (bs : List Nat) : Nat := bs.foldl (fun c b => (List.range 8).foldl (fun c _ => crc8Bit c) (Nat.xor c b)) 0

/-- The 64-bit SYNC word (R94). -/
def syncWord (frame hops mode : Nat) (hold : Bool) : Nat :=
  let w := frame % 2 ^ 48 + hops % 8 * 2 ^ 48 + (if hold then 2 ^ 51 else 0) + mode % 16 * 2 ^ 52
  w + crc8 ((List.range 7).map fun i => w / 256 ^ i % 256) * 2 ^ 56

/-- The word passes its CRC8. -/
def syncWordOk (w : Nat) : Bool := crc8 ((List.range 7).map fun i => w / 256 ^ i % 256) = w / 2 ^ 56 % 256

/-- Ticks from the start of the frame in force to the start of the `k`-th frame after it, the accumulator evolving (R93). -/
def aheadTicks (r : Raster) : Nat → Nat → Nat
  | _, 0 => 0
  | acc, k + 1 => (r.frame acc).1 + aheadTicks r (r.frame acc).2 k

/-- The start of the frame at place `o` in ticks from the start of the raster (R93): known for the frames up to 4 before and 4 after the one in
force. -/
def State.startAt (s : State) (o : Nat) : Option Nat :=
  let t := s.dev.tb
  if o = t.place then some t.start
  else if t.place < o && o ≤ t.place + 4 then
    let acc := if t.changed then 0 else (t.ras.frame t.acc).2
    some (t.start + s.frameTicks + aheadTicks s.raster acc (o - t.place - 1))
  else (t.starts.find? (·.2.1 = o)).map (·.2.2)

/-- The SYNC_OUT offset of the frame at place `o` and the tick at which the window of its knot ended (R93): the newest whose first frame is not
after it. -/
def State.ofsAt (s : State) (o : Nat) : Int × Nat := match s.dev.tb.ofs.find? (·.1 ≤ o) with
  | some x => x.2
  | none => (0, 0)

/-- The reference point of the frame at place `o`: its start + OFS (R93). -/
def State.refAt (s : State) (o : Nat) : Option Int := (s.startAt o).map fun t => t + (s.ofsAt o).1

/-- The places of the frames with number `n`: those before the one in force, the one in force, those up to 4 after it. -/
def State.placesOf (s : State) (n : Nat) : List Nat :=
  let t := s.dev.tb
  let ahead := (n + 2 ^ 48 - s.nextNumber) % 2 ^ 48
  ((t.starts.filter (·.1 = n)).map (·.2.1)).reverse ++ (if n = s.tbFrame then [t.place] else []) ++
    (if n < 2 ^ 48 && ahead < 4 then [t.place + 1 + ahead] else [])

/-- The first frame with number `n` whose pulse has not been sent. -/
def State.unsentPlace (s : State) (n : Nat) : Option Nat := (s.placesOf n).find? fun o => match s.dev.tb.wordPlace with
  | some w => w < o
  | none => true

/-- The part is a slave. -/
def State.slave (s : State) : Bool := s.f TB_CTL TB_CTL.ROLE = 1

/-- TB_STATUS.STATE codes (R96). -/
def tbMaster : Nat := 0
def tbAcquiring : Nat := 1
def tbLocked : Nat := 2
def tbHoldover : Nat := 3
def tbMismatch : Nat := 4

/-- The reference point of frame n: pulse and word go out unless a case of R93 leaves them unsent. -/
def State.syncOut (s : State) (n : Nat) : State :=
  let t := s.dev.tb
  if !s.rasterOn || !s.b TB_CTL TB_CTL.SYNC_OUT_EN then s
  else match s.unsentPlace n with
  | none => s
  | some o => match s.refAt o with
    | none => s
    | some t0 =>
      if t0 < 0 || t0 < (s.ofsAt o).2 || t0 < t.wordEnd then s
      else
        let hops := if s.slave then min 7 (s.f TB_STATUS TB_STATUS.HOPS + 1) else 0
        let hold := s.slave && s.f TB_STATUS TB_STATUS.STATE != tbLocked
        s.setTb { t with
          word := some (syncWord n hops (s.f CHIP_MODE CHIP_MODE.MODE) hold), wordEnd := t0.toNat + 4416,
          wordPlace := some o }

/-- A knot of frame `n` changed TB_SYNC_OUT.OFS; its window ended at tick `at'` (R93). -/
def State.tbOfsApplied (s : State) (at' : Nat) : State :=
  let o := sext 24 (s.f TB_SYNC_OUT TB_SYNC_OUT.OFS)
  let t := s.dev.tb
  if (t.ofs.head?.map (·.2.1)) = some o then s
  else s.setTb { t with ofs := (t.place + 1, o, at') :: (t.ofs.filter fun x => x.1 != t.place + 1).take 8 }

/-- The level that SYNC_OUT drives `k` ticks after a reference point whose word is `w` (R93): pulse, gap, the 64 Manchester bits, low. -/
def syncLevel (w k : Nat) : Bool :=
  if k < 256 then true
  else if k < 320 || 4416 ≤ k then false
  else bitOf w ((k - 320) / 64) = decide ((k - 320) % 64 < 32)

/-- The level of SYNC_OUT at tick `t` of the raster (R93): low while it is off and in Reset. -/
def State.syncOutLevel (s : State) (t : Nat) : Bool :=
  s.rasterOn && s.b TB_CTL TB_CTL.SYNC_OUT_EN &&
    match s.dev.tb.word with
    | some w => s.dev.tb.wordEnd ≤ t + 4416 && syncLevel w (t + 4416 - s.dev.tb.wordEnd)
    | none => false

/-! ### SYNC_IN -/

/-- The mean frame period of R81 times FRAC_DEN. -/
def Raster.meanTimesDen (r : Raster) : Nat := (r.vtotal * r.lineTicks + r.frameAdj) * r.fracDen + r.fracNum

/-- A spacing lies within ±200 ppm of the mean frame period. -/
def Raster.near (r : Raster) (spacing : Nat) : Bool :=
  let m := r.meanTimesDen
  let x := spacing * r.fracDen
  (if m ≤ x then x - m else m - x) * 5000 ≤ m

/-- The change of the frequency trim that takes the own period to the pulses' spacing, in steps of 0.01 ppm within ±200 ppm (R97). Times are
counted in ticks of the timebase as it is trimmed, so a spacing shows what is left to trim (DEDUCED: notes/assumptions/48.md). -/
def Raster.trimTo (r : Raster) (spacing : Nat) : Int :=
  let m := r.meanTimesDen
  if m = 0 then 0 else clampI (-20000) 20000 (rdiv (((spacing * r.fracDen : Nat) - (m : Int)) * 100000000) m)

/-- The phase error of the frame in force against a pulse that arrives at `t`, within half a frame (R95), and the master's number at
the next frame start. (DEDUCED: notes/assumptions/48.md) -/
def State.phase (s : State) (t frame : Nat) : Int × Nat :=
  let e : Int := (t : Int) - s.f TB_SYNC_IN TB_SYNC_IN.DLY - s.dev.tb.start
  let p : Int := s.frameTicks
  let k := if p = 0 then 0 else (2 * e + p) / (2 * p)
  (e - k * p, ((frame : Int) - k + 1).toNat)

/-- A locked slave corrects its phase and number from a pulse (R97); `step` on entering Locked. -/
def State.slaveCorrect (s : State) (t frame : Nat) (step : Bool) : State :=
  let (e, next) := s.phase t frame
  let tb := s.dev.tb
  let wrong := next % 2 ^ 48 != (s.tbFrame + 1) % 2 ^ 48
  if step then s.setTb { tb with extra := e, setFrame := if wrong then some (next, false) else none }
  else
    let slew : Int := s.f TB_CTL TB_CTL.SLEW
    s.setTb { tb with extra := clampI (-slew) slew e, setFrame := if wrong then some (next, true) else none }

/-- A valid pulse at a slave (R96, R97). (DEDUCED: notes/assumptions/48.md) -/
def State.slavePulse (s : State) (t frame : Nat) : State :=
  let tb := s.dev.tb
  let st := s.f TB_STATUS TB_STATUS.STATE
  let near := match tb.pulse with
    | some (t0, _) => tb.ras.near (t - t0)
    | none => false
  let follows := match tb.pulse with
    | some (_, f0) => frame = (f0 + 1) % 2 ^ 48
    | none => false
  let restart := st = tbHoldover || st = tbMismatch
  let good := if !restart && near && follows then tb.good + 1 else 1
  let bad := if !restart && tb.pulse.isSome && !near then tb.bad + 1 else 1
  let trim := match tb.pulse with
    | some (t0, _) => if near then clampI (-20000) 20000 (tb.trim + tb.ras.trimTo (t - t0)) else tb.trim
    | none => tb.trim
  let s := s.setTb { tb with good := good, bad := bad, pulse := some (t, frame) }
  if restart then s.setF TB_STATUS TB_STATUS.STATE tbAcquiring
  else if st = tbLocked then
    if 4 ≤ bad then s.setF TB_STATUS TB_STATUS.STATE tbMismatch
    else (s.setTb { s.dev.tb with trim := trim }).slaveCorrect t frame false
  else if 4 ≤ good then
    let step := !s.dev.tb.locked || s.mode = .idle
    ((s.setF TB_STATUS TB_STATUS.STATE tbLocked).setTb { s.dev.tb with locked := true, trim := trim }).slaveCorrect t frame step
  else if 4 ≤ bad then s.setF TB_STATUS TB_STATUS.STATE tbMismatch
  else s

/-- Ticks from the last own reference point to tick `t` (R98); none where no reference point lies before it. (DEDUCED:
notes/assumptions/48.md) -/
def State.sinceRef (s : State) (t : Nat) : Option Nat :=
  let refs := (List.range 8).filterMap fun i => if s.dev.tb.place + i < 3 then none else s.refAt (s.dev.tb.place + i - 3)
  let l := (refs.filter fun r => 0 ≤ r && r ≤ (t : Int)).map fun r => ((t : Int) - r).toNat
  l.foldl (fun m d => match m with
    | none => some d
    | some x => some (min x d)) none

/-- A valid pulse at a master with SYNC_MEAS = 1: the mean of 4 loop times (R98). -/
def State.masterPulse (s : State) (t : Nat) : State :=
  let tb := s.dev.tb
  let l := tb.rtts ++ (s.sinceRef t).toList
  if l.length < 4 then s.setTb { tb with rtts := l }
  else
    let mean := (rdiv ((l.foldl (· + ·) 0 : Nat) : Int) 4).toNat
    ((s.setTb { tb with rtts := [] }).setF TB_SYNC_RTT TB_SYNC_RTT.RTT mean).setF TB_STATUS TB_STATUS.RTT_VALID 1

/-- A pulse of `high` ticks with its word arrives on SYNC_IN at tick `t` (R95). -/
def State.syncIn (s : State) (high w t : Nat) : State :=
  let meas := s.b TB_CTL TB_CTL.SYNC_MEAS
  if !s.rasterOn || (!s.slave && !meas) then s
  else if high < 224 || 288 < high || !syncWordOk w || 7 ≤ w / 2 ^ 48 % 8 then (s.setF TB_STATUS TB_STATUS.SYNC_BAD 1).err ERR_STATUS.TB
  else
    let s := s.setF TB_STATUS TB_STATUS.HOPS (w / 2 ^ 48 % 8)
    if s.slave then s.slavePulse t (w % 2 ^ 48) else s.masterPulse t

/-- A locked slave has seen no valid pulse for 3 frame periods (R96). -/
def State.holdover (s : State) : State :=
  if s.rasterOn && s.slave && s.f TB_STATUS TB_STATUS.STATE = tbLocked then
    ((s.setF TB_STATUS TB_STATUS.STATE tbHoldover).setF TB_STATUS TB_STATUS.LOCK_LOSS 1).err ERR_STATUS.TB
  else s

/-- A knot changed TB_CTL: ROLE 0b01 enters Acquiring, ROLE 0b00 is a master; with SYNC_MEAS off a loop measurement starts anew. -/
def State.tbRole (s : State) (was : Nat) : State :=
  let role := s.f TB_CTL TB_CTL.ROLE
  let s := if role = was then s
    else if role = 1 then
      (s.setTb { s.dev.tb with good := 0, bad := 0, pulse := none }).setF TB_STATUS TB_STATUS.STATE tbAcquiring
    else s.setF TB_STATUS TB_STATUS.STATE tbMaster
  if s.b TB_CTL TB_CTL.SYNC_MEAS then s else s.setTb { s.dev.tb with rtts := [] }

/-- At the reference point of frame `n` the part sends pulse and word. -/
def execSyncOutPulse (n : Nat) (s : State) : Out := .next (s.runDev (·.syncOut n))

/-- A pulse and word on SYNC_IN. -/
def execSyncInPulse (high word t : Nat) (s : State) : Out := .next (s.runDev (·.syncIn high word t))

/-- Three frame periods without a valid pulse. -/
def execSyncHoldover (s : State) : Out := .next (s.runDev (·.holdover))

end Sys2Proof.Machine
end

