-- ==== Sys2Proof/Machine/StdCoef.lean ====
section
/-! DEFINITION. The standard coefficient tables (R136) as the 448 words of a coefficient bank (R135). -/
namespace Sys2Proof.Machine

/-- Words 0 to 63. -/
def stdCoef0 : List Nat :=
  [0x0, 0x4000000, 0x0, 0x0, 0x50FFE, 0x3FF0FF2, 0xFFB000F, 0x2,
   0xA0FFD, 0x3FE0FE4, 0xFF6001E, 0x3, 0xF0FFC, 0x3FB0FD7, 0xFF0002E, 0x5,
   0x130FFA, 0x3F90FCB, 0xFEA003E, 0x7, 0x170FF9, 0x3F40FBF, 0xFE5004F, 0x9,
   0x1B0FF8, 0x3F00FB4, 0xFDF0060, 0xFFF000B, 0x1F0FF7, 0x3EB0FA9, 0xFD90071, 0xFFF000D,
   0x230FF6, 0x3E30F9F, 0xFD30084, 0xFFF000F, 0x260FF5, 0x3DC0F96, 0xFCD0096, 0xFFF0011,
   0x2A0FF4, 0x3D40F8D, 0xFC700A9, 0xFFE0013, 0x2D0FF3, 0x3CC0F84, 0xFC100BC, 0xFFE0015,
   0x300FF2, 0x3C10F7D, 0xFBB00D0, 0xFFE0017, 0x320FF2, 0x3B70F76, 0xFB400E4, 0xFFD001A,
   0x350FF1, 0x3AC0F6F, 0xFAE00F8, 0xFFD001C, 0x370FF1, 0x3A00F69, 0xFA8010D, 0xFFC001E]

/-- Words 64 to 127. -/
def stdCoef1 : List Nat :=
  [0x390FF1, 0x3930F64, 0xFA20121, 0xFFC0020, 0x3B0FF0, 0x3870F5F, 0xF9C0136, 0xFFB0022,
   0x3C0FF0, 0x3770F5B, 0xF96014C, 0xFFB0025, 0x3D0FF0, 0x3690F58, 0xF900161, 0xFFA0027,
   0x3E0FF0, 0x3590F54, 0xF8B0177, 0xFFA0029, 0x3F0FF0, 0x34A0F52, 0xF85018C, 0xFF9002B,
   0x400FF0, 0x3380F50, 0xF8001A2, 0xFF9002D, 0x410FF0, 0x3280F4E, 0xF7A01B8, 0xFF8002F,
   0x410FF0, 0x3150F4E, 0xF7501CE, 0xFF80031, 0x410FF0, 0x3040F4D, 0xF7001E4, 0xFF70033,
   0x410FF1, 0x2F10F4D, 0xF6C01F9, 0xFF60035, 0x410FF1, 0x2DF0F4D, 0xF67020F, 0xFF60036,
   0x400FF1, 0x2CC0F4E, 0xF630225, 0xFF50038, 0x400FF2, 0x2B60F50, 0xF60023A, 0xFF50039,
   0x3F0FF2, 0x2A30F51, 0xF5C0250, 0xFF4003B, 0x3E0FF3, 0x28D0F54, 0xF590265, 0xFF4003C]

/-- Words 128 to 191. -/
def stdCoef2 : List Nat :=
  [0x3D0FF3, 0x27A0F56, 0xF56027A, 0xFF3003D, 0x3C0FF4, 0x2650F59, 0xF54028D, 0xFF3003E,
   0x3B0FF4, 0x2500F5C, 0xF5102A3, 0xFF2003F, 0x390FF5, 0x23A0F60, 0xF5002B6, 0xFF20040,
   0x380FF5, 0x2250F63, 0xF4E02CC, 0xFF10040, 0x360FF6, 0x20F0F67, 0xF4D02DF, 0xFF10041,
   0x350FF6, 0x1F90F6C, 0xF4D02F1, 0xFF10041, 0x330FF7, 0x1E40F70, 0xF4D0304, 0xFF00041,
   0x310FF8, 0x1CE0F75, 0xF4E0315, 0xFF00041, 0x2F0FF8, 0x1B80F7A, 0xF4E0328, 0xFF00041,
   0x2D0FF9, 0x1A20F80, 0xF500338, 0xFF00040, 0x2B0FF9, 0x18C0F85, 0xF52034A, 0xFF0003F,
   0x290FFA, 0x1770F8B, 0xF540359, 0xFF0003E, 0x270FFA, 0x1610F90, 0xF580369, 0xFF0003D,
   0x250FFB, 0x14C0F96, 0xF5B0377, 0xFF0003C, 0x220FFB, 0x1360F9C, 0xF5F0387, 0xFF0003B]

/-- Words 192 to 255. -/
def stdCoef3 : List Nat :=
  [0x200FFC, 0x1210FA2, 0xF640393, 0xFF10039, 0x1E0FFC, 0x10D0FA8, 0xF6903A0, 0xFF10037,
   0x1C0FFD, 0xF80FAE, 0xF6F03AC, 0xFF10035, 0x1A0FFD, 0xE40FB4, 0xF7603B7, 0xFF20032,
   0x170FFE, 0xD00FBB, 0xF7D03C1, 0xFF20030, 0x150FFE, 0xBC0FC1, 0xF8403CC, 0xFF3002D,
   0x130FFE, 0xA90FC7, 0xF8D03D4, 0xFF4002A, 0x110FFF, 0x960FCD, 0xF9603DC, 0xFF50026,
   0xF0FFF, 0x840FD3, 0xF9F03E3, 0xFF60023, 0xD0FFF, 0x710FD9, 0xFA903EB, 0xFF7001F,
   0xB0FFF, 0x600FDF, 0xFB403F0, 0xFF8001B, 0x90000, 0x4F0FE5, 0xFBF03F4, 0xFF90017,
   0x70000, 0x3E0FEA, 0xFCB03F9, 0xFFA0013, 0x50000, 0x2E0FF0, 0xFD703FB, 0xFFC000F,
   0x30000, 0x1E0FF6, 0xFE403FE, 0xFFD000A, 0x20000, 0xF0FFB, 0xFF203FF, 0xFFE0005]

/-- Words 256 to 319. -/
def stdCoef4 : List Nat :=
  [0x0, 0x400, 0x0, 0xFF30003, 0xE03FF, 0xFFD, 0xFE70006, 0x1C03FE,
   0xFF9, 0xFDB0009, 0x2A03FD, 0xFF5, 0xFD0000C, 0x3903FA, 0xFF1, 0xFC5000E,
   0x4903F6, 0x10FED, 0xFBB0011, 0x5903F1, 0x10FE9, 0xFB20013, 0x6A03EB, 0x10FE5,
   0xFA90015, 0x7C03E3, 0x20FE1, 0xFA10017, 0x8D03DD, 0x20FDC, 0xF990018, 0xA003D4,
   0x30FD8, 0xF92001A, 0xB203CB, 0x40FD3, 0xF8C001B, 0xC503C2, 0x40FCE, 0xF86001C,
   0xD903B7, 0x50FC9, 0xF80001D, 0xED03AC, 0x60FC4, 0xF7C001E, 0x101039F, 0x70FBF,
   0xF78001F, 0x1160391, 0x80FBA, 0xF74001F, 0x12A0386, 0x80FB5, 0xF710020, 0x1400376,
   0x90FB0, 0xF6E0020, 0x1550367, 0xB0FAB, 0xF6C0020, 0x16B0357, 0xC0FA6, 0xF6A0020]

/-- Words 320 to 383. -/
def stdCoef5 : List Nat :=
  [0x1800347, 0xD0FA2, 0xF690020, 0x1960336, 0xE0F9D, 0xF690020, 0x1AC0324, 0xF0F98,
   0xF68001F, 0x1C20314, 0x100F93, 0xF69001F, 0x1D902FF, 0x110F8F, 0xF69001E, 0x1EF02ED,
   0x120F8B, 0xF6A001D, 0x20502D9, 0x140F87, 0xF6C001D, 0x21B02C4, 0x150F83, 0xF6E001C,
   0x23102B0, 0x160F7F, 0xF70001B, 0x247029C, 0x170F7B, 0xF72001A, 0x25D0287, 0x180F78,
   0xF750019, 0x2720272, 0x190F75, 0xF780018, 0x287025D, 0x1A0F72, 0xF7B0017, 0x29C0247,
   0x1B0F70, 0xF7F0016, 0x2B00231, 0x1C0F6E, 0xF830015, 0x2C4021B, 0x1D0F6C, 0xF870014,
   0x2D90205, 0x1D0F6A, 0xF8B0012, 0x2ED01EF, 0x1E0F69, 0xF8F0011, 0x2FF01D9, 0x1F0F69,
   0xF930010, 0x31401C2, 0x1F0F68, 0xF98000F, 0x32401AC, 0x200F69, 0xF9D000E, 0x3360196]

/-- Words 384 to 447. -/
def stdCoef6 : List Nat :=
  [0x200F69, 0xFA2000D, 0x3470180, 0x200F6A, 0xFA6000C, 0x357016B, 0x200F6C, 0xFAB000B,
   0x3670155, 0x200F6E, 0xFB00009, 0x3760140, 0x200F71, 0xFB50008, 0x386012A, 0x1F0F74,
   0xFBA0008, 0x3910116, 0x1F0F78, 0xFBF0007, 0x39F0101, 0x1E0F7C, 0xFC40006, 0x3AC00ED,
   0x1D0F80, 0xFC90005, 0x3B700D9, 0x1C0F86, 0xFCE0004, 0x3C200C5, 0x1B0F8C, 0xFD30004,
   0x3CB00B2, 0x1A0F92, 0xFD80003, 0x3D400A0, 0x180F99, 0xFDC0002, 0x3DD008D, 0x170FA1,
   0xFE10002, 0x3E3007C, 0x150FA9, 0xFE50001, 0x3EB006A, 0x130FB2, 0xFE90001, 0x3F10059,
   0x110FBB, 0xFED0001, 0x3F60049, 0xE0FC5, 0xFF10000, 0x3FA0039, 0xC0FD0, 0xFF50000,
   0x3FD002A, 0x90FDB, 0xFF90000, 0x3FE001C, 0x60FE7, 0xFFD0000, 0x3FF000E, 0x30FF3]

/-- Word w of a coefficient bank at reset. -/
def stdCoef (w : Nat) : Nat :=
  (match w / 64 with
   | 0 => stdCoef0 | 1 => stdCoef1 | 2 => stdCoef2 | 3 => stdCoef3 | 4 => stdCoef4 | 5 => stdCoef5 | 6 => stdCoef6 | _ => []).getD (w % 64) 0

end Sys2Proof.Machine
end

