-- ==== Sys2Proof/Machine/Zbc.lean ====
section
/-! DEFINITION. Bit packing (R397) and the block coding ZBC (R398 to R402). -/
namespace Sys2Proof.Machine

/-! ### Bit sequences (R397) -/

/-- The bits of bytes, bit k of the sequence being bit k mod 8 of byte k / 8. -/
def bitsOfBytes (bs : List Byte) : List Bool := bs.flatMap fun b => (List.range 8).map fun i => bitOf b.toNat i

/-- A number from its bits, least significant first. -/
def natOfBits : List Bool → Nat
  | [] => 0
  | b :: t => (if b then 1 else 0) + 2 * natOfBits t

/-- The `w` low bits of a number, least significant first. -/
def bitsOfNat : Nat → Nat → List Bool
  | 0, _ => []
  | w + 1, v => decide (v % 2 = 1) :: bitsOfNat w (v / 2)

/-- Bytes of a bit sequence, the last padded with 0. -/
def bytesOfBits (bs : List Bool) : List Byte :=
  (List.range ((bs.length + 7) / 8)).map fun i => BitVec.ofNat 8 (natOfBits ((bs.drop (8 * i)).take 8))

/-! ### ZBC -/

/-- Form, ratio code 2, 3 or 4 and block size of a ZBC format (R127, R130): Z48, B. -/
structure ZbcForm where
  z48 : Bool
  size : Nat
deriving DecidableEq, Repr

/-- The ZBC formats of R127. -/
def zbcForm (fmt : Nat) : Option ZbcForm :=
  match fmt with
  | 0x08 => some ⟨false, 60⟩ | 0x09 => some ⟨false, 40⟩ | 0x0A => some ⟨false, 30⟩
  | 0x0C => some ⟨true, 96⟩ | 0x0D => some ⟨true, 64⟩ | 0x0E => some ⟨true, 48⟩
  | _ => none

/-- Sample width N. -/
def ZbcForm.n (z : ZbcForm) : Nat := if z.z48 then 16 else 10

/-- Width of WID and SH. -/
def ZbcForm.wb (z : ZbcForm) : Nat := if z.z48 then 5 else 4

/-- Header bits HB. -/
def ZbcForm.hb (z : ZbcForm) : Nat := 3 * (z.n + 2 * z.wb)

/-- Residual budget T = floor((8B − HB) / 32). -/
def ZbcForm.budget (z : ZbcForm) : Nat := (8 * z.size - z.hb) / 32

/-- BASE, WID, SH of the three components of a block. -/
def ZbcForm.header (z : ZbcForm) (v : Nat) (c : Nat) : Nat × Nat × Nat :=
  let h := v / 2 ^ ((z.n + 2 * z.wb) * c)
  (h % 2 ^ z.n, h / 2 ^ z.n % 2 ^ z.wb, h / 2 ^ (z.n + z.wb) % 2 ^ z.wb)

/-- The block is invalid (R401). -/
def ZbcForm.invalid (z : ZbcForm) (v : Nat) : Bool :=
  let h := (List.range 3).map (z.header v)
  z.budget < h.foldl (fun m x => m + x.2.1) 0 || h.any fun x => z.n < x.2.1 + x.2.2

/-- Sample i of component c of a block, the block as a little-endian number (R399 to R401): with no residuals it is BASE (R421). -/
def ZbcForm.sample (z : ZbcForm) (v c i : Nat) : Nat :=
  let (base, wid, sh) := z.header v c
  if z.invalid v then base
  else
    let start := z.hb + 32 * (List.range c).foldl (fun m j => m + (z.header v j).2.1) 0
    let r := v / 2 ^ (start + wid * i) % 2 ^ wid
    min (2 ^ z.n - 1) (base + r * 2 ^ sh + (if sh = 0 || wid = 0 then 0 else 2 ^ (sh - 1)))

/-- A block decoded: 32 triples. -/
def ZbcForm.decode (z : ZbcForm) (bs : List Byte) : List (List Nat) :=
  let v := leNat bs
  (List.range 32).map fun i => (List.range 3).map fun c => z.sample v c i

/-- Bit length. -/
def bitLen (v : Nat) : Nat := if v = 0 then 0 else Nat.log2 v + 1

/-- Decrement the largest width, of equals the lowest, until the sum fits T (R402 step 3). -/
def trimWidths (t : Nat) : Nat → Nat × Nat × Nat → Nat × Nat × Nat
  | 0, w => w
  | k + 1, (a, b, c) =>
    if a + b + c ≤ t then (a, b, c)
    else if b ≤ a ∧ c ≤ a then trimWidths t k (a - 1, b, c)
    else if c ≤ b then trimWidths t k (a, b - 1, c)
    else trimWidths t k (a, b, c - 1)

/-- A block encoded from 32 triples (R402). -/
def ZbcForm.encode (z : ZbcForm) (px : List (List Nat)) : List Byte :=
  let comp (c : Nat) : List Nat := px.map fun p => p.getD c 0
  let base (c : Nat) : Nat := (comp c).foldl min (2 ^ z.n - 1)
  let nb (c : Nat) : Nat := bitLen ((comp c).foldl max 0 - base c)
  let w := trimWidths z.budget 64 (nb 0, nb 1, nb 2)
  let wid (c : Nat) : Nat := if c = 0 then w.1 else if c = 1 then w.2.1 else w.2.2
  let head := (List.range 3).flatMap fun c => bitsOfNat z.n (base c) ++ bitsOfNat z.wb (wid c) ++ bitsOfNat z.wb (nb c - wid c)
  let body := (List.range 3).flatMap fun c => (comp c).flatMap fun v => bitsOfNat (wid c) ((v - base c) / 2 ^ (nb c - wid c))
  leBytes z.size (natOfBits (head ++ body))

end Sys2Proof.Machine
end

