-- ==== Sys2Proof/Machine/Zlc.lean ====
section
/-! DEFINITION. The lossless coding ZLC: streams, codes and decoding (R404 to R410), and the encoder (R411) over a match search and
code lengths that no rule states. -/
namespace Sys2Proof.Machine

/-! ### Codes (R406) -/

/-- Canonical code of symbol s under lengths L, most significant bit first: the codes of shorter lengths, then lower symbols of the
same length. -/
def zlcCode (L : List Nat) (s : Nat) : List Bool :=
  let len := L.getD s 0
  let first := (List.range len).foldl (fun next b =>
    let cnt := if b = 0 then 0 else (L.filter (· = b)).length
    (next + cnt) * 2) 0
  (bitsOfNat len (first + ((L.take s).filter (· = len)).length)).reverse

/-- Σ 2^(15 − L) over the used symbols is at most 2^15. -/
def kraftOk (L : List Nat) : Bool := L.foldl (fun m l => if l = 0 then m else m + 2 ^ (15 - l)) 0 ≤ 2 ^ 15

/-- A literal/length table is valid. -/
def litOk (L : List Nat) : Bool := kraftOk L && L.getD 256 0 != 0

/-- The static literal/length lengths (R407). -/
def staticLit : List Nat := List.replicate 144 8 ++ List.replicate 112 9 ++ List.replicate 21 7

/-- The static distance lengths (R407). -/
def staticDist : List Nat := List.replicate 32 5

/-- Decoding so far: output, faults 1 to 5 of R410, capacity. -/
inductive ZlcRes where
  | ok (out : List Byte) (rest : List Bool)
  | bad (detail : Nat)
  | full
deriving DecidableEq, Repr

/-- Decode one symbol: read bits until they match a used symbol's code. -/
def zlcSymbol (L : List Nat) : Nat → List Bool → List Bool → Option (Nat × List Bool)
  | 0, _, _ => none
  | _ + 1, _, [] => none
  | k + 1, acc, b :: t =>
    let acc := acc ++ [b]
    match (List.range L.length).find? fun s => L.getD s 0 = acc.length && zlcCode L s = acc with
    | some s => some (s, t)
    | none => zlcSymbol L k acc t

/-- The bits that are left are the beginning of a used symbol's code: the input ends before a code does. -/
def zlcMore (L : List Nat) (bs : List Bool) : Bool :=
  (List.range L.length).any fun s => L.getD s 0 != 0 && bs.isPrefixOf (zlcCode L s)

/-- The fault where no symbol can be read (R410): 5 where the input ends inside a code, 3 where no used code begins so. -/
def zlcNoSymbol (L : List Nat) (bs : List Bool) : ZlcRes := .bad (if zlcMore L bs then 5 else 3)

/-- value(k) of R409 with its extra bits: base, number of extra bits. -/
def zlcValue (k : Nat) : Nat × Nat :=
  if k < 4 then (k, 0) else ((2 + k % 2) * 2 ^ (k / 2 - 1), k / 2 - 1)

/-! ### Decoding -/

/-- Copy one byte at a time from `dist` back. -/
def zlcCopy (dist : Nat) : Nat → List Byte → List Byte
  | 0, out => out
  | n + 1, out => zlcCopy dist n (out ++ [out.getD (out.length - dist) 0])

/-- The symbols of a coded block, up to symbol 256 (R409). -/
def zlcSymbols (lit dist : List Nat) (cap : Nat) : Nat → List Byte → List Bool → ZlcRes
  | 0, _, _ => .bad 5
  | fuel + 1, out, bs =>
    match zlcSymbol lit 15 [] bs with
    | none => zlcNoSymbol lit bs
    | some (s, r) =>
      if s = 256 then .ok out r
      else if s < 256 then
        if cap < out.length + 1 then .full else zlcSymbols lit dist cap fuel (out ++ [BitVec.ofNat 8 s]) r
      else if 276 < s then .bad 3
      else
        let lv := zlcValue (s - 257)
        if r.length < lv.2 then .bad 5
        else
          let len := 3 + lv.1 + natOfBits (r.take lv.2)
          let r := r.drop lv.2
          match zlcSymbol dist 15 [] r with
          | none => zlcNoSymbol dist r
          | some (k, r) =>
            let dv := zlcValue k
            if r.length < dv.2 then .bad 5
            else
              let d := 1 + dv.1 + natOfBits (r.take dv.2)
              if out.length < d then .bad 4
              else if cap < out.length + len then .full
              else zlcSymbols lit dist cap fuel (zlcCopy d len out) (r.drop dv.2)

/-- The blocks of a stream; `pos` is the bit position, for the byte boundary of stored blocks. -/
def zlcBlocks (cap total : Nat) : Nat → List Byte → List Bool → ZlcRes
  | 0, _, _ => .bad 5
  | fuel + 1, out, bs =>
    if bs.length < 3 then .bad 5
    else
      let last := bs.headD false
      let ty := natOfBits ((bs.drop 1).take 2)
      let r := bs.drop 3
      let next : ZlcRes :=
        match ty with
        | 0 =>
          let r := r.drop (r.length % 8)
          if r.length < 16 then .bad 5
          else
            let n := natOfBits (r.take 16) + 1
            let r := r.drop 16
            if cap < out.length + min n (r.length / 8) then .full
            else if r.length < 8 * n then .bad 5
            else .ok (out ++ bytesOfBits (r.take (8 * n))) (r.drop (8 * n))
        | 1 => zlcSymbols staticLit staticDist cap total out r
        | 2 =>
          let hlit := natOfBits (r.take 5)
          if r.length < 5 then .bad 5
          else if 20 < hlit then .bad 2
          else if r.length < 10 then .bad 5
          else
            let hdist := natOfBits ((r.drop 5).take 5)
            let r := r.drop 10
            let nll := hlit + 257
            let nd := hdist + 1
            if r.length < 4 * (nll + nd) then .bad 5
            else
              let len (i : Nat) : Nat := natOfBits ((r.drop (4 * i)).take 4)
              let lit := (List.range nll).map len
              let dist := (List.range nd).map fun i => len (nll + i)
              if !litOk lit || !kraftOk dist then .bad 2
              else zlcSymbols lit dist cap total out (r.drop (4 * (nll + nd)))
        | _ => .bad 1
      match next with
      | .ok out rest => if last then .ok out rest else zlcBlocks cap total fuel out rest
      | x => x

/-- Decompress a stream (R404 to R410) into at most `cap` bytes. A coded block that gives more than 65,536 bytes is decoded on, since R410
names no fault for it (DEDUCED: notes/assumptions/12.md). -/
def zlcDecode (cap : Nat) (bs : List Byte) : ZlcRes :=
  zlcBlocks cap (8 * bs.length + 1) (8 * bs.length + 1) [] (bitsOfBytes bs)

/-! ### Encoding (R411) -/

/-- A literal or a match. -/
inductive ZlcTok where
  | lit (b : Byte)
  | copy (len dist : Nat)
deriving DecidableEq, Repr

/-- The match proposed at a position stands: in range, inside the block, and equal to what it copies. -/
def matchOk (inp : List Byte) (pos stop len dist : Nat) : Bool :=
  3 ≤ len && len ≤ 1026 && 1 ≤ dist && dist ≤ 65536 && dist ≤ pos && pos + len ≤ stop &&
    (List.range len).all fun i => inp.getD (pos + i) 0 = inp.getD (pos + i - dist) 0

/-- The flags of a compress job: DYN, block bytes, the positions of FLUSH. -/
structure ZlcFlags where
  dyn : Bool
  blk : Nat
  flush : List Nat
deriving DecidableEq, Repr

/-- The tokens of input bytes [pos, stop): the search proposes, a proposal that does not stand is a literal. -/
def zlcTokens (fl : ZlcFlags) (inp : List Byte) (stop : Nat) : Nat → Nat → List ZlcTok
  | 0, _ => []
  | fuel + 1, pos =>
    if stop ≤ pos then []
    else
      let p := Config.zlcMatch fl.dyn fl.blk fl.flush inp pos
      if matchOk inp pos stop p.1 p.2 then .copy p.1 p.2 :: zlcTokens fl inp stop fuel (pos + p.1)
      else .lit (inp.getD pos 0) :: zlcTokens fl inp stop fuel (pos + 1)

/-- The code index of a value: the largest k whose base does not exceed it. -/
def zlcIndex (n v : Nat) : Nat := (List.range n).foldl (fun m k => if (zlcValue k).1 ≤ v then k else m) 0

/-- The bits of a value after its symbol. -/
def zlcExtra (k v : Nat) : List Bool := bitsOfNat (zlcValue k).2 (v - (zlcValue k).1)

/-- A token under two codes. -/
def tokBits (lit dist : List Nat) : ZlcTok → List Bool
  | .lit b => zlcCode lit b.toNat
  | .copy l d =>
    let k := zlcIndex 20 (l - 3)
    let j := zlcIndex 32 (d - 1)
    zlcCode lit (257 + k) ++ zlcExtra k (l - 3) ++ zlcCode dist j ++ zlcExtra j (d - 1)

/-- The literal/length symbols of a block's tokens, with the end of the block. -/
def litSyms (ts : List ZlcTok) : List Nat :=
  ts.map (fun t => match t with | .lit b => b.toNat | .copy l _ => 257 + zlcIndex 20 (l - 3)) ++ [256]

/-- The distance symbols of a block's tokens. -/
def distSyms (ts : List ZlcTok) : List Nat :=
  ts.filterMap fun t => match t with | .lit _ => none | .copy _ d => some (zlcIndex 32 (d - 1))

/-- Code lengths for the symbols of a block (R411): those proposed when they make a valid table of lengths up to 15 in which every
symbol that occurs is used, else one length for all. -/
def zlcLens (syms : List Nat) (n plain : Nat) : List Nat :=
  let counts := (List.range n).map fun s => (syms.filter (· = s)).length
  let prop := (List.range n).map fun s => if counts.getD s 0 = 0 then 0 else min 15 (Config.zlcLength counts s)
  if kraftOk prop && (List.range n).all (fun s => counts.getD s 0 = 0 || prop.getD s 0 != 0) then prop
  else (List.range n).map fun s => if counts.getD s 0 = 0 then 0 else plain

/-- A table cut after its last used symbol, but at least `low` long. -/
def cutTable (L : List Nat) (low : Nat) : List Nat :=
  L.take (max low ((List.range L.length).foldl (fun m s => if L.getD s 0 = 0 then m else s + 1) 0))

/-- One block of input [pos, stop), appended to the stream's bits. -/
def zlcBlock (fl : ZlcFlags) (last : Bool) (inp : List Byte) (pos stop : Nat) (acc : List Bool) : List Bool :=
  let ts := zlcTokens fl inp stop (stop - pos) pos
  let coded : List Bool :=
    if fl.dyn then
      let lit := cutTable (zlcLens (litSyms ts) 277 9) 257
      let dist := cutTable (zlcLens (distSyms ts) 32 5) 1
      bitsOfNat 2 2 ++ bitsOfNat 5 (lit.length - 257) ++ bitsOfNat 5 (dist.length - 1) ++
        (lit ++ dist).flatMap (bitsOfNat 4) ++ ts.flatMap (tokBits lit dist) ++ zlcCode lit 256
    else bitsOfNat 2 1 ++ ts.flatMap (tokBits staticLit staticDist) ++ zlcCode staticLit 256
  let pad := (8 - (acc.length + 3) % 8) % 8
  let stored := bitsOfNat 2 0 ++ List.replicate pad false ++ bitsOfNat 16 (stop - pos - 1) ++ bitsOfBytes ((inp.drop pos).take (stop - pos))
  acc ++ [last] ++ (if stored.length ≤ coded.length then stored else coded)

/-- Block ends of an input (R411): every `blk` bytes, and at each flush point; the input's end last. -/
def zlcEnds (blk total : Nat) (flush : List Nat) : Nat → Nat → List Nat
  | 0, _ => []
  | fuel + 1, pos =>
    if total ≤ pos then []
    else
      let e := (flush.filter (pos < ·)).foldl min (min total (pos + blk))
      e :: zlcEnds blk total flush fuel e

/-- Compress an input (R411). -/
def zlcEncode (fl : ZlcFlags) (inp : List Byte) : List Byte :=
  let ends := zlcEnds fl.blk inp.length fl.flush inp.length 0
  let r := ends.foldl (fun (a : Nat × List Bool) e => (e, zlcBlock fl (e = inp.length) inp a.1 e a.2)) (0, [])
  bytesOfBits r.2

end Sys2Proof.Machine
end

