-- ==== Sys2Proof/Machine/Layers.lean ====
section
/-! DEFINITION. Layer slots, pixel formats, fetch and scaling (R120 to R144): what a layer shows at a canvas pixel. -/
namespace Sys2Proof.Machine

/-- The value in force for the work of the frame of the register at `a` (R177). -/
def State.wReg (s : State) (a : Nat) : Nat := (s.dev.work.get (resetWord s.dies) a).toNat

/-- The image in force, or one without canvas. -/
def State.img (s : State) : Image :=
  s.dev.image.getD ⟨0, 0, [], 0, [], 0, 0, false, 0, 0, 1, [], [], []⟩

/-- The section of die d (R23). -/
def State.section (s : State) (d : Nat) : Rect := s.img.sect d

/-! ### Layer settings -/

/-- The settings of a layer slot as a set of register values gives them (R120, R123, R127, R147). -/
structure Lyr where
  slot : Nat
  en : Bool
  sel : Nat
  port : Nat
  fmt : Nat
  csc : Nat
  full : Bool
  policy : Nat
  palBank : Nat
  coefBank : Nat
  sx : Nat
  sy : Nat
  sw : Nat
  sh : Nat
  dx : Int
  dy : Int
  dw : Nat
  dh : Nat
  pages : Nat
  bases : List Nat
  stride0 : Nat
  stride1 : Nat
  alpha : Nat
  lutBank : Nat
  linear : Bool
  opaq : Bool
  premult : Bool
deriving DecidableEq, Repr

/-- The 40-bit address of a pair of registers. -/
def addrOf (v : Nat → Nat) (lo hi : Nat) : Nat := v lo + 2 ^ 32 * (v hi % 256)

/-- Slots 0 to 6: the layer of slot n in die d's window. -/
def lyrOf (v : Nat → Nat) (d n : Nat) : Lyr :=
  let c := v (LYR_CTL d n)
  let video := n < 4
  { slot := n, en := LYR_CTL.EN.get c = 1, sel := LYR_CTL.SRC_SEL.get c, port := LYR_CTL.PORT.get c, fmt := LYR_CTL.FMT.get c,
    csc := LYR_CTL.CSC.get c, full := LYR_CTL.RANGE.get c = 1, policy := LYR_CTL.PIN_POLICY.get c,
    palBank := LYR_CTL.PAL_BANK.get c, coefBank := LYR_CTL.COEF_BANK.get c,
    sx := LYR_SRC_POS.SX.get (v (LYR_SRC_POS d n)), sy := LYR_SRC_POS.SY.get (v (LYR_SRC_POS d n)),
    sw := LYR_SRC_SIZE.SW.get (v (LYR_SRC_SIZE d n)), sh := LYR_SRC_SIZE.SH.get (v (LYR_SRC_SIZE d n)),
    dx := sext 16 (LYR_DST_POS.DX.get (v (LYR_DST_POS d n))), dy := sext 16 (LYR_DST_POS.DY.get (v (LYR_DST_POS d n))),
    dw := if video then LYR_DST_SIZE.DW.get (v (LYR_DST_SIZE d n)) else LYR_SRC_SIZE.SW.get (v (LYR_SRC_SIZE d n)),
    dh := if video then LYR_DST_SIZE.DH.get (v (LYR_DST_SIZE d n)) else LYR_SRC_SIZE.SH.get (v (LYR_SRC_SIZE d n)),
    pages := LYR_LMEM.PAGES.get (v (LYR_LMEM d n)),
    bases := (List.range 3).map fun k => addrOf v (LYR_BASE_LO d n k) (LYR_BASE_HI d n k),
    stride0 := LYR_STRIDE0.STRIDE.get (v (LYR_STRIDE0 d n)), stride1 := LYR_STRIDE1.STRIDE.get (v (LYR_STRIDE1 d n)),
    alpha := LYR_BLEND.ALPHA.get (v (LYR_BLEND d n)), lutBank := LYR_BLEND.LUT_BANK.get (v (LYR_BLEND d n)),
    linear := LYR_BLEND.LINEAR.get (v (LYR_BLEND d n)) = 1, opaq := LYR_BLEND.OPAQUE.get (v (LYR_BLEND d n)) = 1,
    premult := LYR_BLEND.PREMULT.get (v (LYR_BLEND d n)) = 1 }

/-- Slot 7: the Lanyard layer with the buffer `buf` (0 A, 1 B). -/
def lanyLyr (v : Nat → Nat) (buf : Nat) : Lyr :=
  let c := v LANY_CTL
  { slot := 7, en := LANY_CTL.EN.get c = 1, sel := 0, port := 0, fmt := LANY_CTL.FMT.get c, csc := 0, full := false, policy := 0,
    palBank := LANY_CTL.PAL_BANK.get c, coefBank := 0, sx := LANY_SRC_POS.SX.get (v LANY_SRC_POS),
    sy := LANY_SRC_POS.SY.get (v LANY_SRC_POS), sw := LANY_SRC_SIZE.SW.get (v LANY_SRC_SIZE),
    sh := LANY_SRC_SIZE.SH.get (v LANY_SRC_SIZE), dx := sext 16 (LANY_DST_POS.DX.get (v LANY_DST_POS)),
    dy := sext 16 (LANY_DST_POS.DY.get (v LANY_DST_POS)), dw := LANY_SRC_SIZE.SW.get (v LANY_SRC_SIZE),
    dh := LANY_SRC_SIZE.SH.get (v LANY_SRC_SIZE), pages := 0,
    bases := [if buf = 1 then addrOf v LANY_BASE_B_LO LANY_BASE_B_HI else addrOf v LANY_BASE_A_LO LANY_BASE_A_HI],
    stride0 := LANY_STRIDE.STRIDE.get (v LANY_STRIDE), stride1 := 0, alpha := LANY_ALPHA.ALPHA.get (v LANY_ALPHA), lutBank := 0,
    linear := false, opaq := LANY_CTL.OPAQUE.get c = 1, premult := LANY_CTL.PREMULT.get c = 1 }

/-- A video slot (R120). -/
def Lyr.video (l : Lyr) : Bool := l.slot < 4

/-- The layer has a size (R144). -/
def Lyr.sized (l : Lyr) : Bool := l.dw != 0 && l.dh != 0

/-- Enabled, with a size. -/
def Lyr.on (l : Lyr) : Bool := l.en && l.sized

/-- The destination rectangle clipped to a rectangle of canvas pixels (R124). -/
def Lyr.dstIn (l : Lyr) (r : Rect) : Rect :=
  let x0 := max l.dx (r.x : Int)
  let y0 := max l.dy (r.y : Int)
  let x1 := min (l.dx + l.dw) (r.x + r.w : Nat)
  let y1 := min (l.dy + l.dh) (r.y + r.h : Nat)
  if x0 < x1 ∧ y0 < y1 then ⟨x0.toNat, y0.toNat, (x1 - x0).toNat, (y1 - y0).toNat⟩ else ⟨0, 0, 0, 0⟩

/-- Canvas pixel (x, y) lies in the destination rectangle. -/
def Lyr.covers (l : Lyr) (x y : Nat) : Bool := l.on && l.dx ≤ x && x < l.dx + l.dw && l.dy ≤ y && y < l.dy + l.dh

/-- A video format code of R127. -/
def fmtVideo (f : Nat) : Bool := f ≤ 0x06 || (0x08 ≤ f && f ≤ 0x0A) || (0x0C ≤ f && f ≤ 0x0E)

/-- A graphic format code of R127. -/
def fmtGraphic (f : Nat) : Bool := f = 0x10 || f = 0x11 || f = 0x12 || (0x14 ≤ f && f ≤ 0x17)

/-- A 4:2:0 format. -/
def fmt420 (f : Nat) : Bool := f = 0x01 || f = 0x02

/-- A 4:2:2 format. -/
def fmt422 (f : Nat) : Bool := f = 0x03 || f = 0x04

/-- A ZBC format. -/
def fmtZbc (f : Nat) : Bool := (zbcForm f).isSome

/-- Planes of a format (R127). -/
def fmtPlanes (f : Nat) : Nat := if fmt420 f || fmt422 f then 2 else if f = 0x05 || f = 0x06 then 3 else 1

/-- Bits of a palette index. -/
def palBits (f : Nat) : Nat := 2 ^ (f - 0x14)

/-- Plane bytes for P pixels (R127). -/
def fmtBytes (f p : Nat) : Nat :=
  match zbcForm f with
  | some z => (p + 7) / 8 * z.size
  | none =>
    if f = 0 || f = 0x10 || f = 0x11 then 4 * p
    else if f = 0x12 then 2 * p
    else if 0x14 ≤ f then (p * palBits f + 7) / 8
    else if f = 0x02 || f = 0x04 || f = 0x06 then 2 * p
    else p

/-- Line-memory bytes per pixel L (R127). -/
def fmtL (f : Nat) : Nat := if fmt420 f then 4 else if fmtGraphic f then 8 else 6

/-- Rows of plane k up to source line `n` (R187). -/
def fmtRows (f k n : Nat) : Nat := if fmtZbc f then (n + 3) / 4 else if fmt420 f && k = 1 then n / 2 else n

/-! ### Buffers -/

/-- What a layer reads: planes in memory in a format, or the lines of the frame that its port receives (R112). `ycc`: its components
are YCbCr samples. `lim`: width and height beyond which taps read the nearest column or line (R362). -/
structure Buf where
  fmt : Nat
  base : List Nat
  stride0 : Nat
  stride1 : Nat
  ycc : Bool
  rows : Option (List (List (Nat × Nat × Nat)))
  lim : Option (Nat × Nat)
deriving DecidableEq, Repr

/-- The column and the line of a buffer that a tap reads for column x, line y (R362). -/
def Buf.col (b : Buf) (x : Nat) : Nat := b.lim.elim x fun l => min x (l.1 - 1)
def Buf.line (b : Buf) (y : Nat) : Nat := b.lim.elim y fun l => min y (l.2 - 1)

/-- The format code of a capture format (R106). -/
def SrcFmt.code (f : SrcFmt) : Nat :=
  match f.enc with
  | 0 => 0x00
  | 1 => if f.eight then 0x05 else 0x06
  | _ => if f.eight then 0x03 else 0x04

/-- A source component as captured (R106): RGB to 10 bits. -/
def captureRgb (bpc v : Nat) : Nat :=
  match bpc with
  | 0 => v * 16 + v / 4
  | 1 => v * 4 + v / 64
  | 2 => v
  | _ => min 1023 (rshift v 2).toNat

/-- The port state of die d. -/
def State.port (s : State) (d : Nat) : SrcSt := s.dev.src.look SrcSt.reset d

/-- The address of plane k of capture buffer b of port d (R107), with the register values `v`. -/
def srcPlane (v : Nat → Nat) (d b k : Nat) : Nat :=
  addrOf v (SRC_BUF_LO d b) (SRC_BUF_HI d b) +
    k * SRC_GEOM.H.get (v (SRC_GEOM d)) * SRC_STRIDE.STRIDE.get (v (SRC_STRIDE d))

/-- Capture buffer b of port d as a layer reads it (R123). -/
def State.srcBuf (s : State) (v : Nat → Nat) (d b : Nat) : Buf :=
  let f := (s.port d).fmts.look ⟨0, false⟩ b
  let st := SRC_STRIDE.STRIDE.get (v (SRC_STRIDE d))
  ⟨f.code, (List.range 3).map (srcPlane v d b), st, st, f.enc != 0, none, none⟩

/-- Repeat a bit pattern of `w` bits from the most significant end to 16 bits (R131). -/
def expand (w v : Nat) : Nat :=
  match w with
  | 10 => v * 64 + v / 16
  | 8 => v * 256 + v
  | 6 => v * 1024 + v * 16 + v / 4
  | 5 => v * 2048 + v * 64 + v * 2 + v / 16
  | 2 => v * 0x5555
  | _ => v

/-- The byte at `a` as die d reads it for a layer, and whether its word cannot be read: from the line that the die has fetched in this
frame, whose value serves every tap (R126). -/
def State.layerByte (s : State) (d a : Nat) : Byte × Bool :=
  match s.dev.comp.fetched.look none (d * 2 ^ 40 + 64 * (a / 64)) with
  | some f => (f.data.getD (a % 64) 0, f.bad.contains (a % 64 / 8))
  | none => ((s.peek a 1).getD 0 0, s.unreadable a)

/-- `n` bytes of a plane as die d reads them; none where a word that holds one of them cannot be read (R126). -/
def State.layerBytes (s : State) (d a n : Nat) : Option (List Byte) :=
  let bs := (List.range n).map fun i => s.layerByte d (a + i)
  if bs.any (·.2) then none else some (bs.map (·.1))

/-- `n` bytes of a plane as a number: 0 where they cannot be read (R126). -/
def State.planeVal (s : State) (d a n : Nat) : Nat := ((s.layerBytes d a n).map leNat).getD 0

/-- Sample i of component c of the ZBC block at `a`: 0 when a word of the block cannot be read (R126). -/
def State.zbcSample (s : State) (d : Nat) (z : ZbcForm) (a c i : Nat) : Nat :=
  ((s.layerBytes d a z.size).map fun bs => z.sample (leNat bs) c i).getD 0

/-- Component c of a video buffer at column x, line y of its plane, expanded to 16 bits, as die d reads it (R128, R131). In a subsampled
format x and y count chroma sites for c = 1, 2. -/
def State.videoSample (s : State) (d : Nat) (b : Buf) (c x y : Nat) : Nat :=
  let x := b.col x
  let y := b.line y
  let wide := b.fmt = 0x02 || b.fmt = 0x04 || b.fmt = 0x06
  let n := if wide then 2 else 1
  let norm (v : Nat) : Nat := if wide then v % 1024 * 64 else v * 256
  match b.rows with
  | some rows =>
    let px := if (fmt422 b.fmt && c != 0) then (rows.getD y []).getD (2 * x) (0, 0, 0) else (rows.getD y []).getD x (0, 0, 0)
    let v := if c = 0 then px.1 else if c = 1 then px.2.1 else px.2.2
    if b.fmt = 0 then expand 10 v else norm v
  | none =>
    match zbcForm b.fmt with
    | some z =>
      let v := s.zbcSample d z (b.base.getD 0 0 + y / 4 * b.stride0 + x / 8 * z.size) c (x % 8 + 8 * (y % 4))
      if z.z48 then v else if b.ycc then v * 64 else expand 10 v
    | none =>
      if b.fmt = 0 then
        expand 10 (s.planeVal d (b.base.getD 0 0 + y * b.stride0 + 4 * x) 4 / 2 ^ (20 - 10 * c) % 1024)
      else if c = 0 then norm (s.planeVal d (b.base.getD 0 0 + y * b.stride0 + n * x) n)
      else if fmtPlanes b.fmt = 2 then norm (s.planeVal d (b.base.getD 1 0 + y * b.stride1 + 2 * n * x + n * (c - 1)) n)
      else norm (s.planeVal d (b.base.getD c 0 + y * b.stride1 + n * x) n)

/-! ### Tables -/

/-- Key of a palette entry. -/
def palKey (d n bank i : Nat) : Nat := ((d * 8 + n) * 2 + bank) * 256 + i

/-- Key of a coefficient word. -/
def coefKey (d n bank w : Nat) : Nat := ((d * 4 + n) * 2 + bank) * 448 + w

/-- Key of a LIN or ENC entry. -/
def lutKey (d n bank i : Nat) : Nat := ((d * 7 + n) * 2 + bank) * 2050 + i

/-- The 64-bit word of the layer tables' memory (MEMID 0x5) that holds an entry: coefficient banks first, then palettes, then LIN
and ENC, four bytes an entry, each bank's entries in order (DESIGN CHOICE: notes/assumptions/31.md). -/
def lutWordOfCoef (n bank w : Nat) : Nat := ((n * 2 + bank) * 448 + w) / 2
def lutWordOfPal (n bank i : Nat) : Nat := (3584 + ((n - 4) * 2 + bank) * 256 + i) / 2
def lutWordOfLut (n bank i : Nat) : Nat := (5632 + (n * 2 + bank) * 2050 + i) / 2

/-- A word of an on-chip table of die d has met an uncorrectable error (R368). (DESIGN CHOICE: notes/assumptions/31.md) -/
def State.tableBad (s : State) (d memid w : Nat) : Bool := s.dev.mem.badTable.contains (d, memid, w)

/-- Word `w` of on-chip memory `memid` of die d has been written: it holds correct check bits again (R368). -/
def State.tableOk (s : State) (d memid w : Nat) : State :=
  { s with dev := { s.dev with mem := { s.dev.mem with badTable := s.dev.mem.badTable.filter (· != (d, memid, w)) } } }

/-- Palette entry i; 0 where its word is unreadable. Slot 7's palette is one for the part. -/
def State.palEntry (s : State) (d n bank i : Nat) : Nat :=
  let d := if n = 7 then 0 else d
  if s.tableBad d 5 (lutWordOfPal n bank i) then 0 else (s.dev.comp.pal.look 0 (palKey d n bank i)).toNat

/-- Coefficient word w of a bank as stored. -/
def State.coefWord (s : State) (d n bank w : Nat) : Nat :=
  (s.dev.comp.coef.get (fun k => BitVec.ofNat 32 (stdCoef (k % 448))) (coefKey d n bank w)).toNat

/-- The first word of a phase in a coefficient bank, and the words of its taps. -/
def phaseWord (vert : Bool) (phase : Nat) : Nat := if vert then 256 + 3 * phase else 4 * phase
def phaseWords (vert : Bool) : Nat := if vert then 3 else 4

/-- A word of the phase's taps is unreadable. -/
def State.phaseBad (s : State) (d n bank : Nat) (vert : Bool) (phase : Nat) : Bool :=
  (List.range (phaseWords vert)).any fun j => s.tableBad d 5 (lutWordOfCoef n bank (phaseWord vert phase + j))

/-- Coefficient word w of a bank as it reads: identity taps in a phase of which a word is unreadable (R368). -/
def State.coefSeen (s : State) (d n bank w : Nat) : Nat :=
  let vert := decide (256 ≤ w)
  let k := (if vert then w - 256 else w) / phaseWords vert
  if s.phaseBad d n bank vert k then (if w = phaseWord vert k + 1 then (if vert then 1024 else 1024 * 2 ^ 16) else 0) else s.coefWord d n bank w

/-- Tap i of a phase: horizontal (8 taps) or vertical (6 taps); identity taps for a phase of which a word is unreadable (R135, R368). -/
def State.tap (s : State) (d n bank : Nat) (vert : Bool) (phase i : Nat) : Int :=
  let w := phaseWord vert phase + i / 2
  if s.phaseBad d n bank vert phase then (if i = (if vert then 2 else 3) then 1024 else 0)
  else sext 12 (s.coefWord d n bank w / (if i % 2 = 1 then 2 ^ 16 else 1))

/-- The identity table of R152. -/
def lutIdentity (k : Nat) : Nat := (let i := k % 2050; if i < 1025 then 64 * i else 64 * (i - 1025))

/-- Entry i of LIN (0 to 1024) or ENC (1025 to 2049). -/
def State.lutEntry (s : State) (d n bank i : Nat) : Nat :=
  if s.tableBad d 5 (lutWordOfLut n bank i) then lutIdentity i
  else s.dev.comp.lut.get lutIdentity (lutKey d n bank i)

/-- A value through LIN or ENC (R152). -/
def State.lutMap (s : State) (d n bank : Nat) (enc : Bool) (v : Nat) : Nat :=
  let i := v / 64
  let o := if enc then 1025 else 0
  let t : Int := s.lutEntry d n bank (o + i)
  let u : Int := s.lutEntry d n bank (o + i + 1)
  (clampI 0 0xFFFF (rshift (t * 64 + (u - t) * (v % 64 : Nat)) 6)).toNat

/-! ### Scaling (R137 to R140) -/

/-- INC of R137. -/
def scaleInc (src dst : Nat) : Nat := (rdiv ((src : Int) * 2 ^ 20) dst).toNat

/-- The source position of R138, s16.20. -/
def scalePos (s0 : Nat) (c : Nat) (d0 : Int) (inc : Nat) : Int :=
  (s0 : Int) * 2 ^ 20 + ((c : Int) - d0) * inc + (inc / 2 : Nat) - 2 ^ 19

/-- Integer part and phase of a position. -/
def posInt (p : Int) : Int := p / 2 ^ 20
def posPhase (p : Int) : Nat := (p / 2 ^ 14 % 64).toNat

/-- The nearest index of [lo, lo + n). -/
def nearest (lo n : Nat) (i : Int) : Nat := (clampI lo (lo + n - 1 : Nat) i).toNat

/-- A filtered sum as a 16-bit sample (R140). -/
def sample16 (x : Int) : Nat := (clampI 0 0xFFFF (rshift x 10)).toNat

/-- Chroma sites of the span of `n` luma sites from `s0`: s0/2 to (s0 + n)/2 − 1, both rounded down where a captured format has an odd span
(R139). (DEDUCED: notes/assumptions/30.md) -/
def halfSpan (s0 n : Nat) : Nat := (s0 + n) / 2 - s0 / 2

/-- Component c of a video layer at canvas (x, y) on die d; `direct`: the vertical pass takes the centre tap alone (R114). -/
def State.scaled (s : State) (d : Nat) (l : Lyr) (b : Buf) (direct : Bool) (x y c : Nat) : Nat :=
  let sub := c != 0 && (fmt420 b.fmt || fmt422 b.fmt)
  let p := scalePos l.sx x l.dx (scaleInc l.sw l.dw)
  let q := scalePos l.sy y l.dy (scaleInc l.sh l.dh)
  let p := if sub then p / 2 else p
  let q := if c != 0 && fmt420 b.fmt then (q - 2 ^ 19) / 2 else q
  let x0 := if sub then l.sx / 2 else l.sx
  let xn := if sub then halfSpan l.sx l.sw else l.sw
  let y0 := if c != 0 && fmt420 b.fmt then l.sy / 2 else l.sy
  let yn := if c != 0 && fmt420 b.fmt then halfSpan l.sy l.sh else l.sh
  let row (line : Nat) : Nat := sample16 ((List.range 8).foldl (fun (a : Int) i =>
    a + s.tap d l.slot l.coefBank false (posPhase p) i * (s.videoSample d b c (nearest x0 xn (posInt p - 3 + i)) line : Nat)) 0)
  if direct then row (nearest y0 yn (posInt q))
  else sample16 ((List.range 6).foldl (fun (a : Int) j =>
    let t := s.tap d l.slot l.coefBank true (posPhase q) j
    if t = 0 then a else a + t * (row (nearest y0 yn (posInt q - 2 + j)) : Nat)) 0)

/-! ### Colour conversion (R132) -/

/-- Kr and Kb in units of 1/10,000. -/
def cscK (csc : Nat) : Int × Int := if csc = 1 then (2990, 1140) else if csc = 2 then (2126, 722) else (2627, 593)

/-- A component of the conversion: exact value × 65,535 as a fraction, one of the whole numbers within 1 of it (R132). `depth` is N;
samples are the filtered 16-bit values. -/
def cscComp (csc : Nat) (full : Bool) (depth : Nat) (px : List Nat) (c : Nat) : Nat :=
  let two := (2 : Int) ^ (16 - depth)
  let sc := (2 : Int) ^ (depth - 8)
  let (kr, kb) := cscK csc
  let kg := 10000 - kr - kb
  let y := (px.getD 0 0 : Int)
  let cb := (px.getD 1 0 : Int)
  let cr := (px.getD 2 0 : Int)
  let yn : Int × Int := if full then (y, (2 ^ depth - 1) * two) else (y - 16 * sc * two, 219 * sc * two)
  let cn (v : Int) : Int × Int :=
    if full then (v - 2 ^ (depth - 1) * two, (2 ^ depth - 1) * two) else (v - 128 * sc * two, 224 * sc * two)
  let lin (k : Int) (v : Int) : Int × Int :=
    let u := cn v
    (yn.1 * u.2 * 10000 + 2 * (10000 - k) * u.1 * yn.2, yn.2 * u.2 * 10000)
  let r := lin kr cr
  let b := lin kb cb
  let g : Int × Int := ((10000 * yn.1 * r.2 * b.2 - kr * r.1 * yn.2 * b.2 - kb * b.1 * yn.2 * r.2), kg * yn.2 * r.2 * b.2)
  let x := if c = 0 then r else if c = 1 then g else b
  let n := clampI 0 x.2 x.1 * 65535
  let lo := max 0 (-((-(n - x.2)) / x.2))
  let hi := min 65535 ((n + x.2) / x.2)
  (lo + ((Config.cscError csc (depth * 2 + if full then 1 else 0) c px : Nat) : Int) % (hi - lo + 1)).toNat

/-- Sample depth N of a YCbCr buffer. -/
def ycDepth (fmt : Nat) : Nat := if fmt = 1 || fmt = 3 || fmt = 5 then 8 else 10

/-! ### What a layer shows -/

/-- The buffer that a layer of die d reads, `none` when the layer contributes no pixels: an unscaled graphic or memory layer its
planes; a port's buffer D (R108, R123); the Coil frame `coil` (its slot and
address). -/
def State.layerBuf (s : State) (v : Nat → Nat) (l : Lyr) (coil : Option (RingSlot × Nat)) : Option Buf :=
  let bad (a : Nat) : Bool := bitOf s.dev.comp.mask (dieOf a)
  match l.sel with
  | 0 =>
    if ((List.range (fmtPlanes l.fmt)).any fun k => bad (l.bases.getD k 0)) then none
    else some ⟨l.fmt, l.bases, l.stride0, l.stride1, (1 ≤ l.fmt && l.fmt ≤ 6) || (0x08 ≤ l.fmt && l.fmt ≤ 0x0A && l.csc != 0), none, none⟩
  | 1 =>
    let dd := s.f (SRC_BUF_STATE l.port) SRC_BUF_STATE.D
    if dd = 3 || bitOf s.dev.comp.mask l.port || bad (srcPlane v l.port dd 0) then none else some (s.srcBuf v l.port dd)
  | 2 => match coil with
    | some c =>
      let k := c.1.clip
      if bad c.2 then none
      else some ⟨k.fmt, [c.2], k.stride, 0, 0x08 ≤ k.fmt && k.fmt ≤ 0x0A && l.csc != 0, none, some (k.w, k.h)⟩
    | none => none
  | _ => none

/-- The three components of a video layer at a canvas pixel after conversion. -/
def State.videoPixel (s : State) (d : Nat) (l : Lyr) (b : Buf) (direct : Bool) (x y : Nat) : List Nat :=
  let px := (List.range 3).map fun c => s.scaled d l b direct x y c
  if b.ycc && l.csc != 0 then (List.range 3).map (cscComp l.csc l.full (ycDepth b.fmt) px) else px

/-- A graphic pixel: expanded components and alpha (R128, R131). -/
def State.graphicPixel (s : State) (d : Nat) (l : Lyr) (b : Buf) (x y : Nat) : List Nat × Nat :=
  let sx := l.sx + ((x : Int) - l.dx).toNat
  let sy := l.sy + ((y : Int) - l.dy).toNat
  let row := b.base.getD 0 0 + sy * b.stride0
  match b.fmt with
  | 0x10 =>
    let w := s.planeVal d (row + 4 * sx) 4
    ([expand 8 (bits w 23 16), expand 8 (bits w 15 8), expand 8 (bits w 7 0)], expand 8 (bits w 31 24))
  | 0x11 =>
    let w := s.planeVal d (row + 4 * sx) 4
    ([expand 10 (bits w 29 20), expand 10 (bits w 19 10), expand 10 (bits w 9 0)], expand 2 (bits w 31 30))
  | 0x12 =>
    let w := s.planeVal d (row + 2 * sx) 2
    ([expand 5 (bits w 15 11), expand 6 (bits w 10 5), expand 5 (bits w 4 0)], if (s.layerBytes d (row + 2 * sx) 2).isNone then 0 else 0xFFFF)
  | f =>
    let k := palBits f
    let a := row + sx * k / 8
    if (s.layerByte d a).2 then ([0, 0, 0], 0)
    else
      let i := (s.planeVal d a 1) / 2 ^ (sx % (8 / k) * k) % 2 ^ k
      let w := s.palEntry d l.slot l.palBank i
      ([expand 8 (bits w 23 16), expand 8 (bits w 15 8), expand 8 (bits w 7 0)], expand 8 (bits w 31 24))

/-- The product of R146. -/
def mul16 (x y : Nat) : Nat := (x * y + 32767) / 65535

/-- Opaque in the sense of R154. -/
def Lyr.isOpaque (l : Lyr) : Bool := l.on && (l.video || l.fmt = 0x12 || l.opaq) && l.alpha = 0xFFFF

/-- Blend a layer's components with alpha `a` over the pixel below (R147 to R150). -/
def State.blend (s : State) (d : Nat) (l : Lyr) (cs : List Nat) (a : Nat) (below : List Nat) : List Nat :=
  let eff := mul16 (if l.isOpaque || l.video then 0xFFFF else a) l.alpha
  (List.range 3).map fun i =>
    let c := cs.getD i 0
    let u := below.getD i 0
    if l.linear then
      let m := s.lutMap d l.slot l.lutBank false
      s.lutMap d l.slot l.lutBank true (mul16 (m c) eff + mul16 (m u) (0xFFFF - eff))
    else if l.premult && !l.video then min 0xFFFF (mul16 c l.alpha + mul16 u (0xFFFF - eff))
    else mul16 c eff + mul16 u (0xFFFF - eff)

end Sys2Proof.Machine
end

