-- ==== Sys2Proof/Machine/Pins.lean ====
section
/-! DEFINITION. The pin tables (R187 to R189): entries, release frames and what is fully sent. -/
namespace Sys2Proof.Machine

/-- Put the knot machine back. -/
def State.setKnot (s : State) (k : KnotSt) : State := { s with dev := { s.dev with knot := k } }

/-- Put die d's pin table back. -/
def State.setPins (s : State) (d : Nat) (p : List Pin) : State := s.setKnot { s.dev.knot with pins := s.dev.knot.pins.put [] d p }

/-- Change every die's pin table. -/
def State.mapPins (s : State) (f : List Pin → List Pin) : State :=
  (List.range s.dies).foldl (fun s d => s.setPins d (f (s.pins d))) s

/-- Add entries, each on the die that holds its range's start; an empty range makes no entry (R187). -/
def State.addPins (s : State) (ps : List Pin) : State :=
  (ps.filter fun p => p.lo < p.hi).foldl (fun s p => s.setPins (dieOf p.lo) (s.pins (dieOf p.lo) ++ [p])) s

/-- The entries that `own` names and that have no release frame get the frame in force as theirs (R188). -/
def State.retirePins (s : State) (own : PinOwner → Bool) : State :=
  s.mapPins fun ps => ps.map fun p => if own p.owner && p.release.isNone then { p with release := some s.dev.tb.place } else p

/-- Take out every entry that `own` names. -/
def State.dropPins (s : State) (own : PinOwner → Bool) : State := s.mapPins fun ps => ps.filter fun p => !own p.owner

/-- An entry of the source port of die d. -/
def PinOwner.ofPort (d : Nat) : PinOwner → Bool
  | .src q _ => q = d
  | _ => false

/-- LYR_n_RELEASE of layer n takes the frame in force as release frame, on every live die; DONE reads 0 until that frame's entries are released
(R188). -/
def State.setRelease (s : State) (n : Nat) : State :=
  let f := s.tbFrame
  (s.setKnot { s.dev.knot with relWait := (n, s.dev.tb.place) :: s.dev.knot.relWait.filter (·.1 != n) }).onDies fun s d =>
    (s.setReg (LYR_RELEASE_LO d n) (f % 2 ^ 32)).setReg (LYR_RELEASE_HI d n) (f / 2 ^ 32 % 2 ^ 16)

/-- Entries of layer n wait for release: its own, and those of the port that it shows. -/
def State.layerWaits (s : State) (n : Nat) : Bool :=
  let l := lyrOf s.reg 0 n
  (List.range s.dies).any fun e => (s.pins e).any fun p =>
    p.release.isSome && match p.owner with
    | .layer m _ => m = n
    | .src q _ => l.sel = 1 && l.port = q
    | _ => false

/-- The place, plus 1, of the newest frame that is fully sent on every live die (R188); 0 when none is. -/
def State.sentAll (s : State) : Nat :=
  match s.liveDies with
  | [] => 0
  | d :: t => t.foldl (fun m e => min m (s.dev.knot.fullySent.look 0 e)) (s.dev.knot.fullySent.look 0 d)

/-- Release the entries whose release frame is fully sent on every live die, once no transfer window is open (R188).
(DEDUCED: notes/assumptions/28.md) -/
def State.releasePins (s : State) : State :=
  let k := s.sentAll
  if s.b KNOT_STATUS KNOT_STATUS.BUSY || k = 0 then s
  else
    let s := s.mapPins fun ps => ps.filter fun p => match p.release with
      | some f => k ≤ f
      | none => true
    let s := s.setPair KNOT_RELEASED_LO KNOT_RELEASED_HI 16 (s.numberOf (k - 1))
    let done := s.dev.knot.relWait.filter fun x => x.2 < k && !s.layerWaits x.1
    let s := s.setKnot { s.dev.knot with relWait := s.dev.knot.relWait.filter fun x => !done.contains x }
    done.foldl (fun s x => s.onDies fun s d => s.setF (LYR_RELEASE_HI d x.1) LYR_RELEASE_HI.DONE 1) s

/-- The frame at place `o` is fully sent on die d (R188). -/
def State.fullySent (s : State) (d o : Nat) : State :=
  s.setKnot { s.dev.knot with fullySent := s.dev.knot.fullySent.put 0 d (max (o + 1) (s.dev.knot.fullySent.look 0 d)) }

/-- The plane ranges of a buffer up to source line `n`, as pin entries (R187). (DEDUCED: notes/assumptions/29.md) -/
def Buf.pins (b : Buf) (n policy : Nat) (own : Nat → PinOwner) : List Pin :=
  (List.range (fmtPlanes b.fmt)).map fun k =>
    let lo := b.base.getD k 0
    ⟨own k, lo, lo + fmtRows b.fmt k n * (if k = 0 then b.stride0 else b.stride1), policy, none⟩

/-- DIE_PIN_STATUS as it reads. -/
def State.pinStatus (s : State) (d : Nat) : Nat :=
  (s.pins d).length + ((s.pins d).filter (·.release.isSome)).length * 256

end Sys2Proof.Machine
end

