-- ==== Sys2Proof/Machine/Power.lean ====
section
/-! DEFINITION. Power states of blocks and regions (R457 to R469): the states that the limits allow, time in a state, what
brings a unit to Run, and the states of Dormant. Units of a die: 0 to 7 its blocks, 8 its region; states 0 Run, 1 Quiet, 2 Nap, 3 Deep, 4 Off. -/
namespace Sys2Proof.Machine

/-! ### What the states depend on -/

/-- The address of ring slot k with the register values `v` (R360). -/
def ringAddr (v : Nat → Nat) (k : Nat) : Nat :=
  addrOf v COIL_RING_BASE_LO COIL_RING_BASE_HI + k * COIL_SLOT_CU.CU.get (v COIL_SLOT_CU) * 4096

/-- The mode of a frame with the register values `v`. -/
def modeOf (v : Nat → Nat) : Mode := (Mode.ofCode (CHIP_MODE.MODE.get (v CHIP_MODE))).getD .reset

/-- The part has entered Dormant by THERM_CRIT: processing has stopped at once (R35, R448). -/
def State.critStop (s : State) : Bool := s.mode = .dormant && s.f CHIP_MODE CHIP_MODE.REASON = 7

/-- The strand of global lane g is in the state of code `c` (R292). -/
def State.strandIn (s : State) (g c : Nat) : Bool := s.f (STR_STATE (g / 16) (g % 16)) STR_STATE.STATE = c

/-- The strand is Active. -/
def State.strandActive (s : State) (g : Nat) : Bool := s.live (g / 16) && s.strandIn g 10

/-- The Coil stream runs: Live or Coil mode, EN in force, READY. -/
def State.coilRuns (s : State) : Bool :=
  (s.mode = .live || s.mode = .coil) && s.b COIL_CTL COIL_CTL.EN && s.b COIL_STATUS COIL_STATUS.READY

/-! ### States of the units -/

/-- The state of unit `u` of die d. -/
def State.pwr (s : State) (d u : Nat) : Nat :=
  if u = 8 then s.f PWR_STATUS ⟨3 * d, 3⟩ else s.f (PWR_DIE_STAT d) ⟨2 * u, 2⟩

/-- Unit `u` of die d takes state `c`; a region in Nap or Deep holds its blocks in Nap (R458). -/
def State.setPwr (s : State) (d u c : Nat) : State :=
  if u = 8 then
    let s := (s.setF PWR_STATUS ⟨3 * d, 3⟩ c).setF (PWR_DIE_STAT d) PWR_DIE_STAT.REGION c
    if c = 2 || c = 3 then s.setF (PWR_DIE_STAT d) PWR_DIE_STAT.BLOCKS 0xAAAA else s
  else s.setF (PWR_DIE_STAT d) ⟨2 * u, 2⟩ c

/-- The Coil stream is scheduled and its ring lies on die d (R462). -/
def State.coilOn (s : State) (d : Nat) : Bool := s.coilRuns && dieOf (ringAddr s.reg 0) = d

/-- A strand of die d has its back direction awake (R462). -/
def State.backAwake (s : State) (d : Nat) : Bool :=
  (List.range 16).any fun n => s.strandActive (16 * d + n) && !s.b (STR_SLEEP_STAT d n) STR_SLEEP_STAT.BACK

/-- The deepest state that R462 allows unit `u` of die d, before the enables of PWR_CTL; `starved`: the scrubber of the die has completed
no lap for 30 s. -/
def State.pwrLimit (s : State) (d u : Nat) (starved : Bool) : Nat :=
  let cap (c : Bool) (n m : Nat) : Nat := if c then min n m else m
  let m := cap (s.mode = .reset || s.mode = .load || s.mode = .test || s.mode = .calibrate || s.mode = .linkTest) 0
    (s.f (PWR_DIE_CTL d) PWR_DIE_CTL.LIMIT)
  let m := cap (!s.b PWR_CTL PWR_CTL.EN) 0 m
  let m := cap (u != 8) 2 m
  let m := cap (u = 8 && (d = 0 || s.backAwake d || s.coilOn d)) 2 m
  let m := cap (u = 8 && s.b (SRC_STATUS d) SRC_STATUS.VIDEO) 1 m
  cap (starved || (if u = 8 then List.range 9 else [u]).any fun i => s.dev.mem.whipBusy.look false (9 * d + i)) 1 m

/-- PWR_CTL lets state `c` be chosen. -/
def State.pwrEnabled (s : State) (c : Nat) : Bool :=
  match c with
  | 0 => true
  | 1 => s.b PWR_CTL PWR_CTL.QUIET_EN
  | 2 => s.b PWR_CTL PWR_CTL.NAP_EN
  | _ => s.b PWR_CTL PWR_CTL.DEEP_EN

/-- State `c` is allowed for unit `u` of die d. -/
def State.pwrAllowed (s : State) (d u : Nat) (starved : Bool) (c : Nat) : Bool := c ≤ s.pwrLimit d u starved && s.pwrEnabled c

/-- Entry and wake of a state and the 2 µs of R461, in ticks of 0.625 ns (R457). -/
def pwrTicks (u c : Nat) : Nat :=
  match c with
  | 0 => 0
  | 1 => 3440
  | 2 => if u = 8 then 9600 else 7200
  | _ => 131200

/-- The deepest allowed state that fits the time to the next known event, in ticks (R461). (DEDUCED: notes/assumptions/19.md) -/
def State.pwrChoice (s : State) (d u next : Nat) (starved : Bool) : Nat :=
  (([3, 2, 1].find? fun c => s.pwrAllowed d u starved c && decide (pwrTicks u c ≤ next))).getD 0

/-- An engine of block b of die d has a group in progress, or a slot that waits for it; a Dormant that THERM_CRIT has brought has stopped both
(R448). -/
def State.blockWorks (s : State) (d b : Nat) : Bool :=
  !s.critStop && (List.range 16).any fun c =>
    let e := s.dev.engines.look Engine.zero (128 * d + 16 * b + c)
    e.run != .none || e.full.look false 0 || e.full.look false 1

/-- Unit `u` of die d has work in progress (R461): a block its groups; the region those of its blocks, packets that wait to be sent, and a
ring slot of its DRAM that is being filled. -/
def State.unitWorks (s : State) (d u : Nat) : Bool :=
  if u = 8 then
    (List.range 8).any (s.blockWorks d) || ((List.range 16).any fun n =>
      !(s.dev.scan.runs.look [] (16 * d + n)).isEmpty || !(s.dev.scan.queue.look [] (16 * d + n)).isEmpty) ||
      (s.coilOn d && s.dev.coil.ring.any fun e => e.2.any fun r => !r.full)
  else s.blockWorks d u

/-- The state of a unit in Dormant (R466): die 0's region and every block Nap, another region Deep where that is allowed; a unit still at work on
the frame that the transition found runs. (DEDUCED: notes/assumptions/19.md) -/
def State.pwrDormant (s : State) (d u : Nat) : Nat :=
  if s.unitWorks d u then 0 else if u = 8 && d != 0 && s.pwrAllowed d 8 false 3 then 3 else 2

/-- The microseconds that a region has spent in its state are counted (R457). -/
def State.residency (s : State) (d us : Nat) : State :=
  match s.pwr d 8 with
  | 1 => s.countN (PWR_RES_QUIET d) us
  | 2 => s.countN (PWR_RES_NAP d) us
  | 3 => s.countN (PWR_RES_DEEP d) us
  | _ => s

/-- The units of a die, its region first. -/
def pwrUnits : List Nat := [8, 0, 1, 2, 3, 4, 5, 6, 7]

/-- Every unit of the live dies takes the states that `f` gives. -/
def State.pwrAll (s : State) (f : State → Nat → Nat → Nat) : State :=
  s.onDies fun s d => pwrUnits.foldl (fun t u => t.setPwr d u (f s d u)) s

/-- A limit has changed: a unit deeper than the limit takes the deepest state that is still allowed, in Dormant the state of R466. -/
def State.pwrClamp (s : State) : State :=
  if s.mode = .dormant then s.pwrAll fun s d u => s.pwrDormant d u
  else s.onDies fun s d => pwrUnits.foldl (fun s u =>
    if s.pwrAllowed d u false (s.pwr d u) || (u != 8 && 2 ≤ s.pwr d 8) then s
    else s.setPwr d u (([2, 1].find? fun c => decide (c ≤ s.pwr d u) && s.pwrAllowed d u false c).getD 0)) s

/-- The region of die d is brought to Run for an event that it has known; the time that it has spent in its state is free. In Dormant it
keeps its state (R461, R466). (DEDUCED: notes/assumptions/19.md) -/
def State.regionRun (s : State) (d : Nat) : State :=
  if !s.live d || s.pwr d 8 = 0 || s.mode = .dormant then s else (s.draw.2.residency d s.draw.1).setPwr d 8 0

/-- Block b of die d is brought to Run, its region before it (R458, R461). -/
def State.blockRun (s : State) (d b : Nat) : State :=
  let s := s.regionRun d
  if !s.live d || s.pwr d b = 0 || s.mode = .dormant then s else s.setPwr d b 0

/-- Every unit of the live dies is in Run at a knot line (R461, R465). -/
def State.unitsRun (s : State) : State := s.onDies fun s d => (List.range 8).foldl (fun s b => s.blockRun d b) s

/-- A DRAM request wakes the region of its die; in Dormant it goes back to its state once it has served the request (R463).
(DEDUCED: notes/assumptions/19.md) -/
def State.demand (s : State) (d : Nat) : State :=
  if !s.live d || s.pwr d 8 = 0 || 4 ≤ s.pwr d 8 then s
  else
    let s := (s.draw.2.residency d s.draw.1).count (PWR_DEMAND_CNT d)
    if s.mode = .dormant then s else s.setPwr d 8 0

end Sys2Proof.Machine
end

