-- ==== Sys2Proof/Machine/Source.lean ====
section
/-! DEFINITION. Source ports (R100 to R119): record and capabilities, AUX, hot plug, capture and the drop/repeat rule, line mode,
sleep and wake. -/
namespace Sys2Proof.Machine

/-- Put port d back. -/
def State.setPort (s : State) (d : Nat) (p : SrcSt) : State := { s with dev := { s.dev with src := s.dev.src.put SrcSt.reset d p } }

/-! ### Record and capabilities -/

/-- The payload is a valid source port record (R102). (DEDUCED: notes/assumptions/30.md) -/
def srcRecordOk (p : List Byte) : Bool :=
  let w := wordAt p 0
  let n := bits w 31 16
  128 ≤ n && n ≤ 1024 && n % 128 = 0 && bits w 15 14 = 0 && [1, 2, 4].contains (bits w 10 8) &&
    [0x06, 0x0A, 0x14, 0x1E].contains (bits w 7 0) && bits (wordAt p 4) 31 24 = 0 && (p.drop 14).take 2 = [0, 0] && p.length = 16 + n

/-- Read the record of port d from the record store (R102). (DEDUCED: notes/assumptions/30.md) -/
def State.srcReadRecord (s : State) (d : Nat) : State :=
  let r := s.nvmGet 0x30 d
  match r.1 with
  | some x =>
    if srcRecordOk x.payload then (r.2.setPort d { r.2.port d with payload := some x.payload }).setF (SRC_STATUS d) SRC_STATUS.NO_RECORD 0
    else (r.2.setPort d { r.2.port d with payload := none }).setF (SRC_STATUS d) SRC_STATUS.NO_RECORD 1
  | none => (r.2.setPort d { r.2.port d with payload := none }).setF (SRC_STATUS d) SRC_STATUS.NO_RECORD 1

/-- HPD of port d is high: enabled, record read, not held low, no pulse in progress. (DEDUCED: notes/assumptions/30.md) -/
def State.hpd (s : State) (d : Nat) : Bool :=
  let p := s.port d
  s.b (SRC_CTL d) SRC_CTL.EN && p.payload.isSome && !s.b (SRC_CTL d) SRC_CTL.HPD_LOW && !p.hpdPulse && !p.irqPulse

/-- The port answers its source: enabled with a record, whatever the level of HPD. (DEDUCED: notes/assumptions/30.md) -/
def State.srcAnswers (s : State) (d : Nat) : Bool := s.live d && s.b (SRC_CTL d) SRC_CTL.EN && (s.port d).payload.isSome

/-- Effective rate, lane count and UHBR set of a record under SRC_CTL value `c` (R103): under a RATE_CAP other than 0xFF, one that is no rate
code among them, no UHBR rate is offered. (DEDUCED: notes/assumptions/30.md) -/
def srcEffective (p : List Byte) (c : Nat) : Nat × Nat × Nat :=
  let w := wordAt p 0
  let cap := SRC_CTL.RATE_CAP.get c
  let lanes := match SRC_CTL.LANE_CAP.get c with
    | 0 => 1
    | 1 => 2
    | _ => 4
  (min (bits w 7 0) cap, min (bits w 10 8) lanes, if cap = 0xFF then bits w 13 11 else 0)

/-- The capability bytes 0x0_0000 to 0x0_000F (R103). -/
def dpcdCap (p : List Byte) (c a : Nat) : Nat :=
  let (rate, lanes, uhbr) := srcEffective p c
  match a with
  | 0 => 0x14
  | 1 => rate
  | 2 => 0xC0 + lanes
  | 3 => 0x81
  | 6 => if uhbr = 0 then 1 else 3
  | 7 => 0x40
  | 0xE => 0x80
  | _ => 0

/-- A DPCD byte that the port presents (R101, R103); SET_POWER reads 1 before the source writes it. (PRESUMED: notes/assumptions/32.md) -/
def State.dpcdRead (s : State) (d a : Nat) : Nat :=
  let p := (s.port d).payload.getD []
  let c := s.reg (SRC_CTL d)
  if a < 0x10 then dpcdCap p c a
  else if (0x100 ≤ a && a ≤ 0x108) || (0x202 ≤ a && a ≤ 0x207) then (s.port d).dpcd.look 0 a
  else if a = 0x200 then 1
  else if 0x400 ≤ a && a ≤ 0x402 then wordAt p 4 / 256 ^ (a - 0x400) % 256
  else if 0x403 ≤ a && a ≤ 0x408 then (p.getD (8 + (a - 0x403)) 0).toNat
  else if a = 0x600 then (s.port d).dpcd.look 1 0x600
  else if 0x2200 ≤ a && a ≤ 0x220F then dpcdCap p c (a - 0x2200)
  else if a = 0x2215 then (srcEffective p c).2.2
  else 0

/-- A DPCD byte that the source writes: the link configuration and SET_POWER are kept, any other is ignored (R101, R103). -/
def State.dpcdWrite (s : State) (d a v : Nat) : State :=
  let p := s.port d
  if 0x100 ≤ a && a ≤ 0x108 then s.setPort d { p with dpcd := p.dpcd.put 0 a v }
  else if a = 0x600 then
    let p := { p with dpcd := p.dpcd.put 1 a v }
    if v = 2 || v = 5 then s.setPort d { p with powerSleep := true, fresh := false }
    else if v = 1 then s.setPort d { p with powerSleep := false }
    else s.setPort d p
  else s

/-- Byte `i` of the EDID content; beyond EDID_LEN no rule states it. (DEDUCED: notes/assumptions/30.md) -/
def State.edidByte (s : State) (d i : Nat) : Byte × State :=
  let p := (s.port d).payload.getD []
  if 16 + i < p.length then (p.getD (16 + i) 0, s) else (let x := s.draw; (BitVec.ofNat 8 x.1, x.2))

/-- An AUX transaction (R101): the reply is ACK (0) with data, I²C NACK (1), or none (2). The I²C offset is one byte and wraps at 256.
(PRESUMED: notes/assumptions/32.md) -/
def State.aux (s : State) (d : Nat) (native wr : Bool) (a : Nat) (data : List Byte) (n : Nat) : State :=
  let reply (s : State) (k : Nat) (bs : List Byte) : State := s.setPort d { s.port d with auxAck := k, auxData := bs }
  if !s.srcAnswers d then reply s 2 []
  else if native then
    if wr then reply ((List.range data.length).foldl (fun s i => s.dpcdWrite d (a + i) (data.getD i 0).toNat) s) 0 []
    else reply s 0 ((List.range n).map fun i => BitVec.ofNat 8 (s.dpcdRead d (a + i)))
  else if a != 0x50 then reply s 1 []
  else if wr then
    match data with
    | [] => reply s 0 []
    | b :: _ => reply (s.setPort d { s.port d with i2c := b.toNat }) 0 []
  else
    let r := (List.range n).foldl (fun (acc : List Byte × State) _ =>
      let p := acc.2.port d
      let x := acc.2.edidByte d p.i2c
      (acc.1 ++ [x.1], x.2.setPort d { x.2.port d with i2c := (p.i2c + 1) % 256 })) ([], s)
    reply r.2 0 r.1

/-! ### Capture (R106 to R111) -/

/-- The buffer numbers D, C, W, REL of port d; 3 is NONE. -/
def State.sd (s : State) (d : Nat) : Nat := s.f (SRC_BUF_STATE d) SRC_BUF_STATE.D
def State.sc (s : State) (d : Nat) : Nat := s.f (SRC_BUF_STATE d) SRC_BUF_STATE.C
def State.sw (s : State) (d : Nat) : Nat := s.f (SRC_BUF_STATE d) SRC_BUF_STATE.W
def State.sr (s : State) (d : Nat) : Nat := s.f (SRC_BUF_STATE d) SRC_BUF_STATE.REL

/-- Source port errors of R111, R110 as leaf bits of SRC_EVT. -/
def State.srcEvt (s : State) (d : Nat) (f : Fd) : State := s.leaf d (SRC_EVT d) f

/-- Line mode or filtered streaming ends (R112). -/
def State.lmExit (s : State) (d : Nat) : State :=
  if s.b (SRC_STATUS d) SRC_STATUS.LM || s.b (SRC_STATUS d) SRC_STATUS.FILT then
    ((((s.setF (SRC_STATUS d) SRC_STATUS.LM 0).setF (SRC_STATUS d) SRC_STATUS.FILT 0).setPort d { s.port d with lmFault := true, lmRun := 0 })).srcEvt d
      SRC_EVT.LM_EXIT
  else s.setPort d { s.port d with lmRun := 0 }

/-- The encoding is not supported: an encoding or a depth beyond those of R100. -/
def SrcFrame.unsupported (fr : SrcFrame) : Bool := 3 ≤ fr.enc || 4 ≤ fr.bpc || (fr.enc != 0 && (fr.bpc = 0 || fr.bpc = 3))

/-- The frame in capture is damaged (R110, R111): FORMAT tells an unsupported encoding, whatever cut the frame; with W or H of its geometry 0
GEOM is set whatever the cause (R119). -/
def State.srcDamaged (s : State) (d : Nat) (geom : Bool) : State :=
  let p := s.port d
  let s := if geom || (p.live.isSome && (p.geo.w = 0 || p.geo.h = 0)) then s.srcEvt d SRC_EVT.GEOM else s
  let s := if p.live.any (·.unsupported) then s.srcEvt d SRC_EVT.FORMAT else s
  let s := (s.srcEvt d SRC_EVT.DAMAGED).lmExit d
  let s := s.setPort d { s.port d with live := none, last := none }
  if s.sw d = 3 then s else (s.count (SRC_DAMAGED_CNT d)).setF (SRC_BUF_STATE d) SRC_BUF_STATE.W 3

/-- The measured start of a source frame keeps condition 4 of R112. -/
def State.genlocked (s : State) (d : Nat) (ofs : Int) : Bool :=
  let e := ofs - sext 24 (s.f (SRC_LM_OFS d) SRC_LM_OFS.OFS)
  decide (e.natAbs ≤ s.f (SRC_LM_CTL d) SRC_LM_CTL.TOL)

/-- Conditions 1 to 3 of R112 hold on port d: `some false` for line mode, `some true` for filtered streaming, which asks condition 3 of the
horizontal direction only (R114). -/
def State.lmCond (s : State) (d : Nat) : Option Bool :=
  let l := lyrOf s.reg d 0
  let w := s.f (SRC_GEOM d) SRC_GEOM.W
  let h := s.f (SRC_GEOM d) SRC_GEOM.H
  let r := s.section d
  if s.b (SRC_LM_CTL d) SRC_LM_CTL.EN && l.on && bitOf s.img.layerEn 0 && l.sel = 1 && l.port = d &&
      (l.dstIn r).w = l.dw && (l.dstIn r).h = l.dh && l.sx = 0 && l.sw = w && l.dw = w then
    if l.sy = 0 && l.sh = h && l.dh = h then some false else if l.dh != l.sh then some true else none
  else none

/-- The geometry of a capture into buffer b that starts now (R106). -/
def State.capGeo (s : State) (d b : Nat) : CapGeo :=
  ⟨s.f (SRC_GEOM d) SRC_GEOM.W, s.f (SRC_GEOM d) SRC_GEOM.H, s.f (SRC_STRIDE d) SRC_STRIDE.STRIDE, if b = 3 then 0 else srcPlane s.reg d b 0⟩

/-- A source frame starts (R110): `ofs` is its start after the part's frame start in ticks. (DEDUCED: notes/assumptions/30.md) -/
def State.srcFrameStart (s : State) (d : Nat) (ofs : Int) (fr : SrcFrame) (col : Nat) : State :=
  if !(s.srcAnswers d && s.hpd d && s.b (SRC_STATUS d) SRC_STATUS.LINK_UP) then s
  else
    let s := (((((s.setF (SRC_STATUS d) SRC_STATUS.VIDEO 1).pwrClamp).setF (SRC_STATUS d) SRC_STATUS.ENC fr.enc).setF (SRC_STATUS d) SRC_STATUS.BPC
      fr.bpc).setF (SRC_STATUS d) SRC_STATUS.COLORIMETRY col)
    let s := if s.sw d = 3 && (s.port d).live.isNone then s else s.srcDamaged d false
    let used := [s.sd d, s.sc d, s.sr d]
    let s := match (List.range 3).find? fun k => !used.contains k with
      | some k => s.setF (SRC_BUF_STATE d) SRC_BUF_STATE.W k
      | none => (s.count (SRC_DROP_CNT d)).srcEvt d SRC_EVT.NO_BUF
    let s := if s.genlocked d ofs then s else s.lmExit d
    s.setPort d { s.port d with live := some fr, lmOfs := ofs, geo := s.capGeo d (s.sw d) }

/-- Bytes of one line of plane k of a frame in its capture format (R106, R128). -/
def captureLine (fr : SrcFrame) (k : Nat) (row : List (Nat × Nat × Nat)) : List Byte :=
  match fr.enc with
  | 0 => row.flatMap fun p => leBytes 4 (captureRgb fr.bpc p.1 * 2 ^ 20 + captureRgb fr.bpc p.2.1 * 2 ^ 10 + captureRgb fr.bpc p.2.2)
  | e =>
    let n := if fr.bpc = 1 then 1 else 2
    if k = 0 then row.flatMap fun p => leBytes n p.1
    else if e = 1 then row.flatMap fun p => leBytes n (if k = 1 then p.2.1 else p.2.2)
    else (List.range ((row.length + 1) / 2)).flatMap fun j =>
      let p := row.getD (2 * j) (0, 0, 0)
      leBytes n p.2.1 ++ leBytes n p.2.2

/-- Planes of a capture format. -/
def capturePlanes (enc : Nat) : Nat := if enc = 0 then 1 else if enc = 1 then 3 else 2

/-- Bytes a line of plane 0 of a frame needs (R111). -/
def SrcFrame.lineBytes (fr : SrcFrame) (w : Nat) : Nat :=
  if fr.enc = 0 then 4 * w else if fr.bpc = 1 then w else 2 * w

/-- Write a complete frame with geometry `g`: source writes, class 3, not subject to the pin table (R106, R107, R110). -/
def State.capture (s : State) (d : Nat) (g : CapGeo) (fr : SrcFrame) : State :=
  (List.range (capturePlanes fr.enc)).foldl (fun s k =>
    (List.range fr.rows.length).foldl (fun s y =>
      (s.write ⟨3, false, false, none, d⟩ (g.base + k * (g.h * g.stride) + y * g.stride) (captureLine fr k (fr.rows.getD y []))).1) s) s

/-- A source frame ends (R109, R110, R111); `ovf`: its receive FIFO discarded words (R31). The lines of a frame that is damaged before its end
do not reach memory. (DESIGN CHOICE: notes/assumptions/30.md) -/
def State.srcFrameEnd (s : State) (d : Nat) (ovf : Bool) : State :=
  match (s.port d).live with
  | none => s
  | some fr =>
    let s := if ovf then s.leaf d (DIE_XFIFO_ERR d) DIE_XFIFO_ERR.DP_OVF else s
    let g := (s.port d).geo
    let geom := g.w = 0 || g.h = 0 || fr.rows.length != g.h || fr.rows.any (fun r => r.length != g.w) ||
      (!fr.unsupported && g.stride < fr.lineBytes g.w)
    if ovf || geom || fr.unsupported then s.srcDamaged d geom
    else
      let p := s.port d
      let run := if (s.lmCond d).isSome && s.genlocked d p.lmOfs then p.lmRun + 1 else 0
      let s := s.setPort d { p with live := none, last := some fr, lmRun := run }
      let b := s.sw d
      if b = 3 then s
      else
        let s := s.capture d g fr
        let p := s.port d
        let s := s.setPort d { p with fmts := p.fmts.put ⟨0, false⟩ b ⟨fr.enc, fr.bpc = 1⟩, fresh := !p.powerSleep }
        let s := if s.sc d = 3 then s else s.count (SRC_DROP_CNT d)
        let s := (s.setF (SRC_BUF_STATE d) SRC_BUF_STATE.C b).setF (SRC_BUF_STATE d) SRC_BUF_STATE.W 3
        s.setF (SRC_BUF_STATE d) SRC_BUF_STATE.CAPTURED (s.f (SRC_BUF_STATE d) SRC_BUF_STATE.CAPTURED + 1)

/-! ### The knot line (R110, R116, R117) -/

/-- Layer n shows the port of die d with the active values. -/
def State.layerOn (s : State) (d n : Nat) : Bool :=
  let l := lyrOf s.reg 0 n
  l.on && bitOf s.img.layerEn n && l.sel = 1 && l.port = d

/-- Step 1 of R178 on port d: count idle frames and fall asleep; `noVideo`: no video was seen since the last knot line.
(DEDUCED: notes/assumptions/30.md) -/
def State.srcSleep (s : State) (d : Nat) (noVideo : Bool) : State :=
  let p := s.port d
  let up := s.b (SRC_STATUS d) SRC_STATUS.LINK_UP
  let absent := noVideo || (!up && !p.upSince)
  let idle := if absent then p.idle + 1 else 0
  let s := s.setPort d { p with idle := idle, upSince := up, fresh := p.fresh && !absent }
  let s := if absent then s.setF (SRC_STATUS d) SRC_STATUS.VIDEO 0 else s
  let lim := s.f (SRC_SLEEP_FRAMES d) SRC_SLEEP_FRAMES.FRAMES
  if !s.b (SRC_STATUS d) SRC_STATUS.ASLEEP && ((lim != 0 && lim ≤ idle) || p.powerSleep) then
    ((s.setF (SRC_STATUS d) SRC_STATUS.ASLEEP 1).setF (SRC_EVT d) SRC_EVT.SLEEP 1).ev .srcSleep
  else s

/-- Buffer b of port d as its pin entry of policy None, over the planes of the frame it holds (R107, R187).
(DEDUCED: notes/assumptions/29.md) -/
def State.srcPins (s : State) (d b : Nat) : List Pin :=
  let z := s.srcBuf s.reg d b
  let lo := z.base.getD 0 0
  [⟨.src d b, lo, lo + fmtPlanes z.fmt * (s.f (SRC_GEOM d) SRC_GEOM.H * z.stride0), 2, none⟩]

/-- Step 2 of R178 on port d: the drop/repeat rule, and the wake of R117. -/
def State.srcKnotLine (s : State) (d : Nat) : State :=
  let p := s.port d
  if p.drop then
    ((s.setPort d { p with drop := false }).setReg (SRC_BUF_STATE d) (s.reg (SRC_BUF_STATE d) / 2 ^ 16 * 2 ^ 16 + 0x3333)).retirePins
      (fun o => o.ofPort d)
  else if s.sc d != 3 && s.sr d = 3 then
    let old := s.sd d
    let new := s.sc d
    let s := ((s.setF (SRC_BUF_STATE d) SRC_BUF_STATE.REL old).setF (SRC_BUF_STATE d) SRC_BUF_STATE.D new).setF (SRC_BUF_STATE d)
      SRC_BUF_STATE.C 3
    let s := if old = 3 then s
      else (List.range 7).foldl (fun s k => if s.layerOn d k then s.setRelease k else s)
        (s.retirePins (fun o => o = .src d old))
    let s := s.addPins (s.srcPins d new)
    if s.b (SRC_STATUS d) SRC_STATUS.ASLEEP && p.fresh then
      ((s.setF (SRC_STATUS d) SRC_STATUS.ASLEEP 0).setF (SRC_EVT d) SRC_EVT.WAKE 1).ev .srcWake
    else s
  else if s.sd d != 3 then s.count (SRC_REPEAT_CNT d) else s

/-- A knot line's effect on line mode (R112), once its knot has applied: the mode ends when conditions 1 to 3 no longer hold for it, and it
begins after 4 frames that kept condition 4 while they held. -/
def State.lmKnotLine (s : State) (d : Nat) : State :=
  match s.lmCond d with
  | none => s.lmExit d
  | some filt =>
    let s := if s.b (SRC_STATUS d) (if filt then SRC_STATUS.LM else SRC_STATUS.FILT) then s.lmExit d else s
    let p := s.port d
    if 4 ≤ p.lmRun then
      ((s.setB (SRC_STATUS d) SRC_STATUS.LM (!filt)).setB (SRC_STATUS d) SRC_STATUS.FILT filt).setPort d { p with lmFault := false }
    else s

/-- FRAME_DONE of the frame that read REL (R110). -/
def State.srcFrameDone (s : State) (d : Nat) : State := s.setF (SRC_BUF_STATE d) SRC_BUF_STATE.REL 3

/-! ### SRC_CTL, HPD, links -/

/-- The source sees the port go: link and video are lost, the frame in capture is damaged (R104, R105). Between two frames no frame is damaged
or misses condition 4, and line mode stays (R112). (DEDUCED: notes/assumptions/30.md) -/
def State.srcGone (s : State) (d : Nat) : State :=
  let s := if (s.port d).live.isSome then s.srcDamaged d false else s
  let s := (s.setF (SRC_STATUS d) SRC_STATUS.LINK_UP 0).setF (SRC_STATUS d) SRC_STATUS.VIDEO 0
  let p := s.port d
  s.setPort d { p with dpcd := p.dpcd.filter fun e => !(0x202 ≤ e.1 && e.1 ≤ 0x207) }

/-- A write of SRC_CTL (R102, R104): EN starts or stops the port; a change of an effective value while HPD is high pulses HPD. -/
def State.srcCtlWrite (s : State) (d v : Nat) : State :=
  let was := s.b (SRC_CTL d) SRC_CTL.EN
  let now := bitOf v 31
  let high := s.hpd d
  let old := s.reg (SRC_CTL d)
  let v := v % 2 ^ 32 / 2 ^ 30 * 2 ^ 30 + SRC_CTL.RATE_CAP.get v * 2 ^ 20 + SRC_CTL.LANE_CAP.get v * 2 ^ 16
  let s' := s.setReg (SRC_CTL d) v
  if !was && now then
    (((s'.setReg (SRC_BUF_STATE d) (s'.reg (SRC_BUF_STATE d) / 2 ^ 16 * 2 ^ 16 + 0x3333)).setPort d { s'.port d with drop := false }).retirePins
      (fun o => o.ofPort d)).srcReadRecord d
  else if was && !now then
    let t := s'.srcGone d
    (t.setF (SRC_BUF_STATE d) SRC_BUF_STATE.W 3).setPort d { t.port d with drop := true, hpdPulse := false, irqPulse := false }
  else
    let p := (s'.port d).payload.getD []
    if high && srcEffective p old != srcEffective p v then (s'.srcGone d).setPort d { (s'.srcGone d).port d with hpdPulse := true }
    else if high && bitOf v 30 then s'.srcGone d
    else s'

/-- 10 ms of HPD low have passed (R104). -/
def State.hpdExpiry (s : State) (d : Nat) : State := s.setPort d { s.port d with hpdPulse := false }

/-- LINK_UP of port d rises: a termination trim that waits comes in force (R443). -/
def State.portTrims (s : State) (d : Nat) : State :=
  let c := s.dev.cal
  if !(s.port d).trimWait || s.b (SRC_STATUS d) SRC_STATUS.LINK_UP then s
  else ((s.trimTake d rowPort (c.portNew.look [] d)).setPort d { s.port d with trimWait := false, trimSet := c.portNew.look [] d }).dropPortNew d

/-- The link of port d becomes trained with `lanes` lanes at RATE code `rate` (R443, R103). (PRESUMED: notes/assumptions/32.md) -/
def State.srcLinkUp (s : State) (d lanes rate : Nat) : State :=
  if !(s.srcAnswers d && s.hpd d) then s
  else
    let s := s.portTrims d
    let p := s.port d
    let one := if lanes = 1 then 0x07 else 0x77
    let st := [(0x202, one), (0x203, if lanes = 4 then 0x77 else 0), (0x204, 0x01), (0x205, 0x01)]
    let s := s.setPort d { p with upSince := true, dpcd := st.foldl (fun m e => m.put 0 e.1 e.2) p.dpcd }
    ((s.setF (SRC_STATUS d) SRC_STATUS.LINK_UP 1).setF (SRC_STATUS d) SRC_STATUS.LANES (if lanes = 1 then 0 else if lanes = 2 then 1 else 2)).setF
      (SRC_STATUS d) SRC_STATUS.RATE rate

/-- The trained link loses clock recovery, symbol lock or equalisation (R105): IRQ_HPD, status bits cleared, the frame damaged. -/
def State.dpLoss (s : State) (d : Nat) : State :=
  if !s.b (SRC_STATUS d) SRC_STATUS.LINK_UP then s
  else (s.srcGone d).setPort d { (s.srcGone d).port d with irqPulse := true }

/-- The IRQ_HPD pulse ends (R105). -/
def State.irqHpdEnd (s : State) (d : Nat) : State := s.setPort d { s.port d with irqPulse := false }

/-- A native or I²C-over-AUX transaction. -/
def execAuxTransaction (d : Nat) (native wr : Bool) (a : Nat) (data : List Byte) (n : Nat) (s : State) : Out :=
  .next (s.runDev (·.aux d native wr a data n))

/-- The start of a source frame, with what it carries. -/
def execSourceFrameStart (d : Nat) (ofs : Int) (enc bpc col : Nat) (rows : List (List (Nat × Nat × Nat))) (s : State) : Out :=
  .next (s.runDev (·.srcFrameStart d ofs ⟨enc, bpc, rows⟩ col))

/-- The end of a source frame: its writes are accepted, or it is damaged. -/
def execSourceFrameEnd (d : Nat) (ovf : Bool) (s : State) : Out := .next (s.run (·.srcFrameEnd d ovf))

/-- Loss of the DisplayPort link. -/
def execDpLinkLoss (d : Nat) (s : State) : Out := .next (s.runDev (·.dpLoss d))

/-- The DisplayPort link of a port becomes trained. -/
def execSrcLinkUp (d lanes rate : Nat) (s : State) : Out := .next (s.runDev (·.srcLinkUp d lanes rate))

/-- HPD goes high again after 10 ms. -/
def execHpdLowExpiry (d : Nat) (s : State) : Out := .next (s.runDev (·.hpdExpiry d))

/-- The IRQ_HPD pulse ends. -/
def execIrqHpdEnd (d : Nat) (s : State) : Out := .next (s.runDev (·.irqHpdEnd d))

end Sys2Proof.Machine
end

