-- ==== Sys2Proof/Machine/Compose.lean ====
section
/-! DEFINITION. Composition of canvas lines, fetch reports and occlusion sets, writeback, and the banks behind the DATA registers (R126, R133,
R134, R145 to R161). -/
namespace Sys2Proof.Machine

/-- Put composition back. -/
def State.setComp (s : State) (c : CompSt) : State := { s with dev := { s.dev with comp := c } }

/-! ### What a layer reads in this frame -/

/-- The Coil frame shown: its ring slot and address (R359). -/
def State.coilShown (s : State) (v : Nat → Nat) : Option (RingSlot × Nat) :=
  match s.dev.coil.shown with
  | some k => (s.dev.coil.ring.look none k).map fun r => (r, ringAddr v k)
  | none => none

/-- The rows that layer 0 takes from its port in line mode or filtered streaming, and the format they have (R112 to R114). -/
def State.liveBuf (s : State) (l : Lyr) : Option Buf :=
  let p := s.port l.port
  let streaming := s.b (SRC_STATUS l.port) SRC_STATUS.LM || s.b (SRC_STATUS l.port) SRC_STATUS.FILT
  if l.slot = 0 && streaming && !p.lmFault && !bitOf s.dev.comp.mask l.port then
    (p.live.or p.last).map fun fr =>
      let f : SrcFmt := ⟨fr.enc, fr.bpc = 1⟩
      let rows := if fr.enc = 0 then
          fr.rows.map fun r => r.map fun x => (captureRgb fr.bpc x.1, captureRgb fr.bpc x.2.1, captureRgb fr.bpc x.2.2)
        else fr.rows
      ⟨f.code, [], 0, 0, fr.enc != 0, some rows, none⟩
  else none

/-- The buffer that layer `l` shows in mode `m`, and whether its vertical pass takes the centre tap alone, as layer 0's does in line mode,
also on a late line (R114, R115); none when it contributes no pixels (R121, R123, R126, R363). -/
def State.layerSrc (s : State) (v : Nat → Nat) (m : Mode) (l : Lyr) : Option (Buf × Bool) :=
  if !l.on || !bitOf s.img.layerEn l.slot then none
  else if l.sel = 1 && m = .coil then none
  else
    let direct := l.slot = 0 && l.sel = 1 && s.b (SRC_STATUS l.port) SRC_STATUS.LM
    match (if l.sel = 1 then s.liveBuf l else none) with
    | some b => some (b, direct)
    | none => (s.layerBuf v l (s.coilShown v)).map fun b => (b, direct)

/-- The Lanyard layer in force with the register values `v`. -/
def lanyOf (v : Nat → Nat) : Lyr := lanyLyr v (LANY_STATUS.BUF.get (v LANY_STATUS))

/-- The layers of a frame in mode `m`, in the order of blending: slots 0 to 6 where they count, then the Lanyard layer (R145, R169, R346). -/
def lyrsLow (v : Nat → Nat) (m : Mode) (d : Nat) : List Lyr :=
  if m = .belay || m = .lanyardOnly then [] else (List.range 7).map (lyrOf v d)

/-! ### Blending a line -/

/-- The pixel that layer `l` gives at (x, y) over the pixel below. (DEDUCED: notes/assumptions/33.md) -/
def State.overPixel (s : State) (d : Nat) (l : Lyr) (b : Buf) (direct : Bool) (x y : Nat) (below : List Nat) : List Nat :=
  if l.video then s.blend d l (s.videoPixel d l b direct x y) 0xFFFF below
  else
    let g := s.graphicPixel d l b x y
    s.blend d l g.1 g.2 below

/-- A line of die d with layer `l` blended over it; `x0` is the canvas column of its first pixel. -/
def State.overLine (s : State) (v : Nat → Nat) (m : Mode) (d x0 y : Nat) (row : List (List Nat)) (l : Lyr) : List (List Nat) :=
  match s.layerSrc v m l with
  | none => row
  | some (b, direct) =>
    row.zipIdx.map fun p => if l.covers (x0 + p.2) y then s.overPixel d l b direct (x0 + p.2) y p.1 else p.1

/-- The background colour (R145). -/
def bgColour (v : Nat → Nat) : List Nat :=
  [CHIP_BG_0.R.get (v CHIP_BG_0), CHIP_BG_0.G.get (v CHIP_BG_0), CHIP_BG_1.B.get (v CHIP_BG_1)]

/-- The base of writeback surface k of die d. -/
def wbBase (v : Nat → Nat) (d k : Nat) : Nat := if k = 0 then addrOf v (DIE_WB_BASE0_LO d) (DIE_WB_BASE0_HI d) else addrOf v (DIE_WB_BASE1_LO d) (DIE_WB_BASE1_HI d)

/-- The ZBC form of a surface: Z48 at 2:1 (R158, R225). -/
def surfaceForm : ZbcForm := ⟨true, 96⟩

/-- The surface of die d is usable in Belay (R346). -/
def State.surfaceOk (s : State) (v : Nat → Nat) (d : Nat) : Bool :=
  DIE_WB_CTL.EN.get (v (DIE_WB_CTL d)) = 1 && s.b (DIE_WB_STATUS d) DIE_WB_STATUS.VALID && DIE_WB_CTL.LANY_EXCL.get (v (DIE_WB_CTL d)) = 1

/-- A pixel of a Z48 surface at section column `x`, line `y`, as die d reads it. (DEDUCED: notes/assumptions/33.md) -/
def State.surfacePixel (s : State) (d base stride x y : Nat) : List Nat :=
  (List.range 3).map fun c => s.zbcSample d surfaceForm (base + y / 4 * stride + x / 8 * 96) c (x % 8 + 8 * (y % 4))

/-- The pixels below the layers on canvas line y of die d (R145, R169, R346). -/
def State.baseLine (s : State) (v : Nat → Nat) (m : Mode) (d y : Nat) : List (List Nat) :=
  let r := s.section d
  match m with
  | .lanyardOnly => (List.range r.w).map fun _ => [0, 0, 0]
  | .belay =>
    if s.surfaceOk v d then
      let base := wbBase v d (s.f (DIE_WB_STATUS d) DIE_WB_STATUS.LAST)
      let stride := DIE_WB_STRIDE.STRIDE.get (v (DIE_WB_STRIDE d))
      (List.range r.w).map fun x => s.surfacePixel d base stride x (y - r.y)
    else (List.range r.w).map fun _ => bgColour v
  | _ => (List.range r.w).map fun _ => bgColour v

/-- Canvas line y of die d after slot 6 and after slot 7. -/
def State.composeLine (s : State) (v : Nat → Nat) (m : Mode) (d y : Nat) : List (List Nat) × List (List Nat) :=
  let x0 := (s.section d).x
  let low := (lyrsLow v m d).foldl (s.overLine v m d x0 y) (s.baseLine v m d y)
  (low, s.overLine v m d x0 y low (lanyOf v))

/-! ### Occlusion (R153 to R156) -/

/-- The layer's buffer lies in the DRAM of a fenced die, or its port is that of one (R154). -/
def State.lyrLost (s : State) (v : Nat → Nat) (l : Lyr) : Bool :=
  let bad (a : Nat) : Bool := s.fenced (dieOf a)
  match l.sel with
  | 0 => (List.range (fmtPlanes l.fmt)).any fun k => bad (l.bases.getD k 0)
  | 1 => s.fenced l.port || bad (srcPlane v l.port (s.f (SRC_BUF_STATE l.port) SRC_BUF_STATE.D) 0)
  | _ => bad (ringAddr v 0)

/-- The layer counts as enabled for occlusion. -/
def State.lyrIn (s : State) (v : Nat → Nat) (l : Lyr) : Bool := l.on && bitOf s.img.layerEn l.slot && !s.lyrLost v l

/-- The whole tile (tx, ty) lies in the layer's destination rectangle on the canvas. -/
def State.holdsTile (s : State) (l : Lyr) (tx ty : Nat) : Bool :=
  let r := l.dstIn ⟨0, 0, s.img.canvasW, s.img.canvasH⟩
  r.x ≤ 64 * tx && 64 * tx + 64 ≤ r.x + r.w && r.y ≤ 16 * ty && 16 * ty + 16 ≤ r.y + r.h

/-- Tiles that a rectangle meets. -/
def tilesOf (r : Rect) : List (Nat × Nat) :=
  if r.w = 0 || r.h = 0 then []
  else (List.range ((r.y + r.h - 1) / 16 + 1 - r.y / 16)).flatMap fun j =>
    (List.range ((r.x + r.w - 1) / 64 + 1 - r.x / 64)).map fun i => (r.x / 64 + i, r.y / 16 + j)

/-- Key of a (layer, tile) pair. -/
def occlKey (n tx ty : Nat) : Nat := n * 2 ^ 32 + ty * 2 ^ 16 + tx

/-- The occlusion set of die d: enabled layers with the tiles of their destination in the section that a higher opaque layer hides
(R155). -/
def State.occlSet (s : State) (d : Nat) : List Nat :=
  let v := s.reg
  let ls := ((List.range 7).map (lyrOf v d)) ++ [lanyOf v]
  (List.range 7).flatMap fun n =>
    let l := lyrOf v d n
    if !s.lyrIn v l then []
    else ((tilesOf (l.dstIn (s.section d))).filter fun t =>
        ls.any fun m => n < m.slot && m.isOpaque && s.lyrIn v m && s.holdsTile m t.1 t.2).map fun t => occlKey n t.1 t.2

/-- Compute the occlusion sets of the live dies, and DIE_OCCL_TILES (R155, R156). (DEDUCED: notes/assumptions/33.md) -/
def State.occlude (s : State) : State :=
  s.onDies fun s d =>
    let o := s.occlSet d
    let s := s.setComp { s.dev.comp with occl := s.dev.comp.occl.put [] d o }
    s.setReg (DIE_OCCL_TILES d) (if s.b CHIP_COMP_CTL CHIP_COMP_CTL.OCCL_EN then o.length else 0)

/-- Layer n's pixel (x, y) lies in a tile whose data is not fetched: the set in force skips it and a layer that hides it shows
pixels. -/
def State.skipped (s : State) (v : Nat → Nat) (m : Mode) (d n x y : Nat) : Bool :=
  CHIP_COMP_CTL.OCCL_EN.get (v CHIP_COMP_CTL) = 1 && (s.dev.comp.occl.look [] d).contains (occlKey n (x / 64) (y / 16)) &&
    (((List.range 7).map (lyrOf v d)) ++ [lanyOf v]).any fun l =>
      n < l.slot && l.isOpaque && s.holdsTile l (x / 64) (y / 16) && (s.layerSrc v m l).isSome

/-! ### Fetch reports (R126, R141) -/

/-- Address and bytes of the datum that holds component c at column x, line y of its plane, or at the nearest that the buffer has (R362). -/
def Buf.span (b : Buf) (c x y : Nat) : Nat × Nat :=
  let x := b.col x
  let y := b.line y
  let n := if b.fmt = 0x02 || b.fmt = 0x04 || b.fmt = 0x06 then 2 else 1
  match zbcForm b.fmt with
  | some z => (b.base.getD 0 0 + y / 4 * b.stride0 + x / 8 * z.size, z.size)
  | none =>
    if b.fmt = 0 then (b.base.getD 0 0 + y * b.stride0 + 4 * x, 4)
    else if c = 0 then (b.base.getD 0 0 + y * b.stride0 + n * x, n)
    else if fmtPlanes b.fmt = 2 then (b.base.getD 1 0 + y * b.stride1 + 2 * n * x, 2 * n)
    else (b.base.getD c 0 + y * b.stride1 + n * x, n)

/-- Address and bytes of a graphic pixel. -/
def Buf.graphicSpan (b : Buf) (sx sy : Nat) : Nat × Nat :=
  let row := b.base.getD 0 0 + sy * b.stride0
  match b.fmt with
  | 0x10 | 0x11 => (row + 4 * sx, 4)
  | 0x12 => (row + 2 * sx, 2)
  | f => (row + sx * palBits f / 8, 1)

/-- The 64-byte lines of a span. -/
def spanLines (p : Nat × Nat) : List Nat :=
  (List.range ((p.1 + p.2 + 63) / 64 - p.1 / 64)).map fun i => 64 * (p.1 / 64 + i)

/-- The data that component c of a video layer needs for the canvas columns `xs` of line y (R138 to R141): the source lines of its taps and,
with `more` lines to come, those before the first tap of the next one. -/
def Lyr.videoSpans (l : Lyr) (b : Buf) (xs : List Nat) (more : Bool) (y c : Nat) : List (Nat × Nat) :=
  let sub := c != 0 && (fmt420 b.fmt || fmt422 b.fmt)
  let half := c != 0 && fmt420 b.fmt
  let pos (y : Nat) : Int :=
    let q := scalePos l.sy y l.dy (scaleInc l.sh l.dh)
    if half then (q - 2 ^ 19) / 2 else q
  let q := pos y
  let lo := posInt q - 2
  let hi := if more then max (posInt q + 3) (posInt (pos (y + 1)) - 3) else posInt q + 3
  let rows := ((List.range (hi + 1 - lo).toNat).map fun (j : Nat) =>
    nearest (if half then l.sy / 2 else l.sy) (if half then halfSpan l.sy l.sh else l.sh) (lo + j)).eraseDups
  let cols := (xs.flatMap fun x =>
    let p := scalePos l.sx x l.dx (scaleInc l.sw l.dw)
    let p := if sub then p / 2 else p
    (List.range 8).map fun (i : Nat) => nearest (if sub then l.sx / 2 else l.sx) (if sub then halfSpan l.sx l.sw else l.sw) (posInt p - 3 + i)).eraseDups
  rows.flatMap fun r => cols.map fun x => b.span c x r

/-- The 64-byte lines that layer l needs for canvas line y on die d. -/
def State.fetchLines (s : State) (v : Nat → Nat) (m : Mode) (d y : Nat) (l : Lyr) : List Nat :=
  match s.layerSrc v m l with
  | none => []
  | some (b, _) =>
    if b.rows.isSome then []
    else
      let r := s.section d
      let xs := ((List.range r.w).map (r.x + ·)).filter fun x => l.covers x y && !s.skipped v m d l.slot x y
      if xs.isEmpty then []
      else if l.video then
        (((List.range 3).flatMap (l.videoSpans b xs (l.covers (xs.getD 0 0) (y + 1) && y + 1 < r.y + r.h) y)).flatMap spanLines).eraseDups
      else (xs.flatMap fun (x : Nat) =>
        spanLines (b.graphicSpan (l.sx + ((x : Int) - l.dx).toNat) (l.sy + ((y : Int) - l.dy).toNat))).eraseDups

/-- The 64-byte lines of the Belay surface that line y of die d needs. -/
def State.surfaceLines (s : State) (v : Nat → Nat) (d y : Nat) : List Nat :=
  let r := s.section d
  if s.surfaceOk v d then
    let row := wbBase v d (s.f (DIE_WB_STATUS d) DIE_WB_STATUS.LAST) + (y - r.y) / 4 * DIE_WB_STRIDE.STRIDE.get (v (DIE_WB_STRIDE d))
    spanLines (row, (r.w + 7) / 8 * 96)
  else []

/-- Die d fetches a 64-byte line unless it has fetched it in this frame: errors are reported and correctable words written back (R126,
R387), and what it has read serves the rest of the frame. -/
def State.fetchLine (s : State) (d a : Nat) : State :=
  let k := d * 2 ^ 40 + a
  if (s.dev.comp.fetched.look none k).isSome then s
  else
    let bad := (List.range 8).filter fun i => s.unreadable (a + 8 * i)
    let r := s.read 1 d a 64
    r.2.2.setComp { r.2.2.dev.comp with fetched := r.2.2.dev.comp.fetched.put none k (some ⟨r.1, bad⟩) }

/-- Everything die d fetches for canvas line y. -/
def State.fetchFor (s : State) (v : Nat → Nat) (m : Mode) (d y : Nat) : State :=
  let ls := (lyrsLow v m d ++ [lanyOf v]).flatMap (s.fetchLines v m d y)
  let ls := if m = .belay then s.surfaceLines v d y ++ ls else ls
  ls.foldl (fun s a => s.fetchLine d a) s

/-! ### Writeback (R158 to R161) -/

/-- Writeback runs on die d in mode `m`: LAST keeps the last frame completed in Live or Coil (R161). (DEDUCED: notes/assumptions/33.md) -/
def State.wbOn (s : State) (v : Nat → Nat) (m : Mode) (d : Nat) : Bool :=
  DIE_WB_CTL.EN.get (v (DIE_WB_CTL d)) = 1 && (m = .live || m = .coil) && (s.section d).w != 0 && (s.section d).h != 0

/-- The surface that die d writes in this frame (R160). -/
def State.wbTarget (s : State) (v : Nat → Nat) (d : Nat) : Nat :=
  if DIE_WB_CTL.BUFS.get (v (DIE_WB_CTL d)) = 1 && s.b (DIE_WB_STATUS d) DIE_WB_STATUS.VALID then
    1 - s.f (DIE_WB_STATUS d) DIE_WB_STATUS.LAST
  else 0

/-- Key of a line of a die. -/
def lineKey (d y : Nat) : Nat := d * 65536 + y

/-- The block of section column 8 bx and line 4 r from lines `rows`, whose last column and line repeat (R159). -/
def surfaceBlock (w : Nat) (rows : List (List (List Nat))) (bx : Nat) : List Byte :=
  surfaceForm.encode ((List.range 32).map fun i =>
    (rows.getD (min (i / 8) (rows.length - 1)) []).getD (min (8 * bx + i % 8) (w - 1)) [0, 0, 0])

/-- Write a block row to a surface. -/
def State.writeBlockRow (s : State) (d base stride w r : Nat) (rows : List (List (List Nat))) : State :=
  (List.range ((w + 7) / 8)).foldl (fun s bx =>
    (s.write ⟨3, false, false, none, d⟩ (base + r * stride + bx * 96) (surfaceBlock w rows bx)).1) s

/-- Line y of die d has been composed: a block row whose last line it is goes to the surface (R160). -/
def State.wbLine (s : State) (v : Nat → Nat) (m : Mode) (d y : Nat) : State :=
  let q := s.section d
  let ry := y - q.y
  if !s.wbOn v m d || (s.dev.comp.wbDue.look none d).isNone || !(ry % 4 = 3 || ry + 1 = q.h) then s
  else
    let excl := DIE_WB_CTL.LANY_EXCL.get (v (DIE_WB_CTL d)) = 1
    let r := ry / 4
    let rows := (List.range (ry + 1 - 4 * r)).map fun i =>
      (if excl then s.dev.comp.low else s.dev.comp.full).look [] (lineKey d (q.y + 4 * r + i))
    if rows.any (·.isEmpty) then s
    else s.writeBlockRow d (wbBase v d (s.wbTarget v d)) (DIE_WB_STRIDE.STRIDE.get (v (DIE_WB_STRIDE d))) q.w r rows

/-- The last writeback write of the frame is accepted (R160): every line of the section has been composed. -/
def State.wbComplete (s : State) (d : Nat) : State :=
  let q := s.section d
  match s.dev.comp.wbDue.look none d with
  | none => s
  | some n =>
    if (List.range q.h).any fun i => (s.dev.comp.full.look [] (lineKey d (q.y + i))).isEmpty then s
    else
      let k := s.wbTarget s.wReg d
      let s := s.setComp { s.dev.comp with wbDue := s.dev.comp.wbDue.put none d none }
      ((s.setF (DIE_WB_STATUS d) DIE_WB_STATUS.LAST k).setF (DIE_WB_STATUS d) DIE_WB_STATUS.VALID 1).setPair (DIE_WB_FRAME_LO d)
        (DIE_WB_FRAME_HI d) 16 n

/-- A frame starts: a surface still due is late; this frame's surface is due where writeback runs (R160, R161). -/
def State.wbFrameStart (s : State) : State :=
  s.onDies fun s d =>
    let s := if (s.dev.comp.wbDue.look none d).isSome then s.setF (DIE_WB_STATUS d) DIE_WB_STATUS.LATE 1 else s
    s.setComp { s.dev.comp with wbDue := s.dev.comp.wbDue.put none d (if s.wbOn s.wReg s.mode d then some s.tbFrame else none) }

/-! ### A line of the frame -/

/-- The mode that the work of the frame in force follows (R177): that of its start, while the part is in an operating mode or in a Dormant that
was requested. -/
def State.frameMode (s : State) : Mode := if s.rasterOn && !s.critStop then modeOf s.wReg else s.mode

/-- Die d composes in mode `m`, with `refresh` the dies that do in Belay (R34, R73, R348). -/
def State.composesWith (s : State) (m : Mode) (refresh d : Nat) : Bool :=
  s.live d && (s.section d).w != 0 && (s.section d).h != 0 &&
    (match m with
     | .idle | .live | .coil | .lanyardOnly => true
     | .belay => bitOf refresh d
     | _ => false)

/-- Die d composes in mode `m` in the frame in force. -/
def State.composes (s : State) (m : Mode) (d : Nat) : Bool := s.composesWith m (s.f BLY_STATUS BLY_STATUS.REFRESH) d

/-- Die d composed in frame `n`, the one in force or the one before: BLY_STATUS of that one is the value with which the next began. -/
def State.composedIn (s : State) (n : Nat) (m : Mode) (d : Nat) : Bool :=
  s.composesWith m (if n = s.tbFrame then s.f BLY_STATUS BLY_STATUS.REFRESH else BLY_STATUS.REFRESH.get (s.wReg BLY_STATUS)) d

/-- Compose canvas line y on die d: fetch, blend, keep the line, write back. -/
def State.composeDie (s : State) (d y : Nat) : State :=
  let v := s.wReg
  let m := s.frameMode
  let q := s.section d
  if !s.composes m d || y < q.y || q.y + q.h ≤ y then s
  else
    let s := (s.regionRun d).fetchFor v m d y
    let r := s.composeLine v m d y
    let c := s.dev.comp
    (s.setComp { c with low := c.low.put [] (lineKey d y) r.1, full := c.full.put [] (lineKey d y) r.2 }).wbLine v m d y

/-- A new frame's composition starts: the lines of the frame before are kept for its picture check. -/
def State.compFrameStart (s : State) : State :=
  let c := s.dev.comp
  s.setComp { c with low := [], full := [], fullOld := c.full, fetched := [], fed := [] }

/-! ### Banks (R133, R134) -/

/-- The bank that a DATA access addresses: the one that the active selection `f` of the register at `a` does not select. -/
def State.idleBank (s : State) (a : Nat) (f : Fd) : Nat := 1 - s.f a f

/-- Step an index field, wrapping from `n` − 1 to 0. -/
def State.stepIdx (s : State) (a : Nat) (f : Fd) (n : Nat) : State := s.setF a f ((s.f a f + 1) % n)

/-- An access of PAL_DATA of layer n (4 to 6) on die d: the value read, and the effect; `wr` is the word written, if one is. -/
def State.palData (s : State) (d n : Nat) (wr : Option Word) : Word × State :=
  let b := s.idleBank (LYR_CTL d n) LYR_CTL.PAL_BANK
  let i := s.f (LYR_PAL_IDX d n) LYR_PAL_IDX.IDX
  let k := palKey d n b i
  let x := BitVec.ofNat 32 (s.palEntry d n b i)
  let s := match wr with
    | some w => (s.setComp { s.dev.comp with pal := s.dev.comp.pal.put 0 k w }).tableOk d 5 (lutWordOfPal n b i)
    | none => s
  (x, s.stepIdx (LYR_PAL_IDX d n) LYR_PAL_IDX.IDX 256)

/-- An access of LANY_PAL_DATA. -/
def State.lanyPalData (s : State) (wr : Option Word) : Word × State :=
  let b := s.idleBank LANY_CTL LANY_CTL.PAL_BANK
  let i := s.f LANY_PAL_IDX LANY_PAL_IDX.IDX
  let x := BitVec.ofNat 32 (s.palEntry 0 7 b i)
  let s := match wr with
    | some w => (s.setComp { s.dev.comp with pal := s.dev.comp.pal.put 0 (palKey 0 7 b i) w }).tableOk 0 5 (lutWordOfPal 7 b i)
    | none => s
  (x, s.stepIdx LANY_PAL_IDX LANY_PAL_IDX.IDX 256)

/-- An access of COEF_DATA of layer n (0 to 3) on die d (R135); above word 447 the value read is free and nothing is written
(notes/assumptions/2.md). (DEDUCED: notes/assumptions/23.md) -/
def State.coefData (s : State) (d n : Nat) (wr : Option Word) : Word × State :=
  let std := fun k => BitVec.ofNat 32 (stdCoef (k % 448))
  let i := s.f (LYR_COEF_IDX d n) LYR_COEF_IDX.IDX
  let k := coefKey d n (s.idleBank (LYR_CTL d n) LYR_CTL.COEF_BANK) i
  let r := if 447 < i then s.draw else (s.coefSeen d n (s.idleBank (LYR_CTL d n) LYR_CTL.COEF_BANK) i, s)
  let s := r.2
  let s := match wr with
    | some w => if 447 < i then s else s.setComp { s.dev.comp with coef := s.dev.comp.coef.set std k (w &&& 0x0FFF0FFF#32) }
      |>.tableOk d 5 (lutWordOfCoef n (s.idleBank (LYR_CTL d n) LYR_CTL.COEF_BANK) i)
    | none => s
  (BitVec.ofNat 32 r.1 &&& 0x0FFF0FFF#32, s.setF (LYR_COEF_IDX d n) LYR_COEF_IDX.IDX (if 447 ≤ i then 0 else i + 1))

/-- An access of LUT_DATA of layer n (0 to 6) on die d (R152): an entry above 1.0 is stored as 1.0. -/
def State.lutData (s : State) (d n : Nat) (wr : Option Word) : Word × State :=
  let i := s.f (LYR_LUT_IDX d n) LYR_LUT_IDX.IDX % 2050
  let k := lutKey d n (s.idleBank (LYR_BLEND d n) LYR_BLEND.LUT_BANK) i
  let x := s.lutEntry d n (s.idleBank (LYR_BLEND d n) LYR_BLEND.LUT_BANK) i
  let s := match wr with
    | some w => s.setComp { s.dev.comp with lut := s.dev.comp.lut.set lutIdentity k (min 0x10000 (w.toNat % 2 ^ 17)) }
      |>.tableOk d 5 (lutWordOfLut n (s.idleBank (LYR_BLEND d n) LYR_BLEND.LUT_BANK) i)
    | none => s
  (BitVec.ofNat 32 x, s.setF (LYR_LUT_IDX d n) LYR_LUT_IDX.IDX ((i + 1) % 2050))

/-- The last writeback write of die d's frame is accepted. -/
def execWbSurfaceComplete (d : Nat) (s : State) : Out := .next (s.runDev (·.wbComplete d))

end Sys2Proof.Machine
end

