-- ==== Sys2Proof/Machine/Lanyard.lean ====
section
/-! DEFINITION. The Lanyard layer (R162 to R169): commit, protected range, lock, and the binding of rectangle 15. -/
namespace Sys2Proof.Machine

/-- The shadowed registers of the LANY_ block (R163). -/
def lanyShadowed : List Nat :=
  [LANY_CTL, LANY_ALPHA, LANY_SRC_POS, LANY_SRC_SIZE, LANY_DST_POS, LANY_BASE_A_LO, LANY_BASE_A_HI, LANY_BASE_B_LO, LANY_BASE_B_HI,
    LANY_STRIDE, LANY_CHK_POS, LANY_CHK_SIZE] ++ (List.range 8).map LANY_EXP

/-- The register at `a` is a shadowed LANY_ register. -/
def lanyReg (a : Nat) : Bool := lanyShadowed.contains a

/-- The shadow of a register as a number. -/
def State.sh (s : State) (a : Nat) : Nat := (s.shW a).toNat

/-- [base, base + len) lies wholly inside the protected range. -/
def State.insideProt (s : State) (base len : Nat) : Bool := s.lanyLo ≤ base && base + len ≤ s.lanyHi

/-- A Lanyard commit with buffer `buf` passes R164; over an empty protected range none with EN = 1 does (R170). -/
def State.lanyOk (s : State) (buf : Nat) : Bool :=
  let l := lanyLyr s.sh buf
  let chk := s.sh LANY_CHK_POS
  let size := s.sh LANY_CHK_SIZE
  !(l.en && (!bitOf s.img.layerEn 7 || s.f LANY_PROT_LEN LANY_PROT_LEN.LEN = 0)) && fmtGraphic l.fmt &&
    addrOf s.sh LANY_BASE_A_LO LANY_BASE_A_HI % 256 = 0 && addrOf s.sh LANY_BASE_B_LO LANY_BASE_B_HI % 256 = 0 &&
    l.stride0 % 256 = 0 && fmtBytes l.fmt (l.sx + l.sw) ≤ l.stride0 &&
    s.insideProt (l.bases.getD 0 0) ((l.sy + l.sh) * l.stride0) &&
    LANY_CHK_POS.X.get chk + LANY_CHK_SIZE.W.get size ≤ s.img.canvasW &&
    LANY_CHK_POS.Y.get chk + LANY_CHK_SIZE.H.get size ≤ s.img.canvasH

/-- The check rectangle. -/
def chkRect (v : Nat → Nat) : Rect :=
  ⟨LANY_CHK_POS.X.get (v LANY_CHK_POS), LANY_CHK_POS.Y.get (v LANY_CHK_POS), LANY_CHK_SIZE.W.get (v LANY_CHK_SIZE),
    LANY_CHK_SIZE.H.get (v LANY_CHK_SIZE)⟩

/-- The Lanyard layer is enabled: EN in force, with a size, in an enabled slot. -/
def State.lanyOn (s : State) (v : Nat → Nat) : Bool := (lanyOf v).on && bitOf s.img.layerEn 7

/-- Rectangle 15 of die d as the Lanyard layer binds it; empty when it does not (R167). -/
def State.boundRect (s : State) (v : Nat → Nat) (d : Nat) : Rect :=
  if s.lanyOn v && s.live d then (chkRect v).clip (s.section d) else ⟨0, 0, 0, 0⟩

/-- Rectangle 15 of die d is bound. -/
def State.bound15 (s : State) (v : Nat → Nat) (d : Nat) : Bool := !(s.boundRect v d).empty

/-- Write both the active value and the shadow of a register. -/
def State.setBoth (s : State) (a v : Nat) : State := (s.setReg a v).setSh a v

/-- Bind or free rectangle 15 of die d after a commit; `was`: it was bound before (R167). -/
def State.bindRect (s : State) (d : Nat) (was : Bool) : State :=
  let r := s.boundRect s.reg d
  if !r.empty then
    (((s.setBoth (PCK_POS d 15) (r.y * 2 ^ 16 + r.x)).setBoth (PCK_SIZE d 15) (r.h * 2 ^ 16 + r.w)).setBoth (PCK_CTL d 15)
      (2 ^ 31)).setBoth (PCK_EXP d 15) (s.reg (LANY_EXP d))
  else if was then s.setBoth (PCK_SIZE d 15) 0
  else s

/-- Rectangle 15 of every live die after a change of the Lanyard layer; `old` are the dies on which it was bound.
(DEDUCED: notes/assumptions/21.md) -/
def State.rebind (s : State) (old : List Nat) : State := s.onDies fun s d => s.bindRect d (old.contains d)

/-- The dies whose rectangle 15 is bound now. -/
def State.boundDies (s : State) : List Nat := s.liveDies.filter fun d => s.bound15 s.reg d

/-- A pending Lanyard commit at the knot line of frame `n` (R163, R164). (DEDUCED: notes/assumptions/29.md) -/
def State.lanyCommit (s : State) (n : Nat) : State :=
  if !s.b LANY_STATUS LANY_STATUS.PEND then s
  else
    let s := s.setF LANY_STATUS LANY_STATUS.PEND 0
    let buf := s.f LANY_COMMIT LANY_COMMIT.BUF
    if !s.lanyOk buf then s.setF LANY_STATUS LANY_STATUS.BAD 1
    else
      let old := s.boundDies
      let s := lanyShadowed.foldl (fun s a => s.setReg a (s.sh a)) s
      let s := (s.setF LANY_STATUS LANY_STATUS.BUF buf).setPair LANY_APPLIED_LO LANY_APPLIED_HI 16 n
      s.rebind old

/-- A write of LANY_COMMIT: REQ = 1 requests a commit with buffer BUF (R163). -/
def State.lanyCommitWrite (s : State) (v : Nat) : State :=
  if LANY_COMMIT.REQ.get v = 1 then (s.setReg LANY_COMMIT (LANY_COMMIT.BUF.get v * 2)).setF LANY_STATUS LANY_STATUS.PEND 1 else s

/-- The buffer in force would stay inside the range [lo, hi) (R165); with EN = 0 in force no buffer is (R28). (DEDUCED:
notes/assumptions/29.md) -/
def State.lanyFits (s : State) (lo hi : Nat) : Bool :=
  let l := lanyOf s.reg
  !l.en || (lo ≤ l.bases.getD 0 0 && l.bases.getD 0 0 + (l.sy + l.sh) * l.stride0 ≤ hi)

/-- A write of LANY_PROT_BASE or LANY_PROT_LEN at `a` (R165). -/
def State.lanyProtWrite (s : State) (a v : Nat) : State :=
  let lo := (if a = LANY_PROT_BASE then LANY_PROT_BASE.ADDR.get v else s.f LANY_PROT_BASE LANY_PROT_BASE.ADDR) * 2 ^ 16
  let len := (if a = LANY_PROT_BASE then s.f LANY_PROT_LEN LANY_PROT_LEN.LEN else LANY_PROT_LEN.LEN.get v) * 2 ^ 16
  if s.lanyFits lo (lo + len) then
    if a = LANY_PROT_BASE then s.setF LANY_PROT_BASE LANY_PROT_BASE.ADDR v else s.setF LANY_PROT_LEN LANY_PROT_LEN.LEN v
  else s.setF LANY_STATUS LANY_STATUS.BAD 1

/-- A write of LANY_LOCK: 1 locks until reset, 0 does nothing (R166). -/
def State.lanyLockWrite (s : State) (v : Nat) : State :=
  if v % 2 = 1 then (s.setReg LANY_LOCK 1).setF LANY_STATUS LANY_STATUS.LOCKED 1 else s

/-- Under the lock the management port may write `a` (R166). -/
def lanyOpen (a : Nat) : Bool := a = LANY_COMMIT || a = LANY_STATUS || (LANY_EXP 0 ≤ a && a ≤ LANY_EXP 7)

/-- A frame's result of rectangle 15 that differs from the expected value, on die d (R168). -/
def State.lanyMismatch (s : State) (d : Nat) : State := (s.setBitF LANY_STATUS LANY_STATUS.MISMATCH d).count LANY_MISM_CNT

end Sys2Proof.Machine
end

