-- ==== Sys2Proof/Machine/Lamp.lean ====
section
/-! DEFINITION. The lamp pipeline's data (R194 to R236): tables and their loads, tile and pixel records, dead lamps, overdrive history,
temperature bands, and the data of a group for its feed slot (R240 to R243). -/
namespace Sys2Proof.Machine

/-- Put the lamp pipeline back. -/
def State.setLamp (s : State) (l : LampSt) : State := { s with dev := { s.dev with lamp := l } }

/-- Key of a lamp of die d: pixel (x, y), lamp r. -/
def lampKey (d x y r : Nat) : Nat := ((d * 2 ^ 16 + y) * 2 ^ 16 + x) * 4 + r

/-- A field of a register in force for the frame's work. -/
def State.wf (s : State) (a : Nat) (f : Fd) : Nat := f.get (s.wReg a)

/-- A one-bit field in force for the frame's work. -/
def State.wb (s : State) (a : Nat) (f : Fd) : Bool := s.wf a f != 0

/-! ### Tables -/

/-- The linear EOTF table (R200). -/
def eotfLinear (k : Nat) : Nat := 256 * (k % 12291 % 4097)

/-- Key of EOTF entry T[i] of table t. -/
def eotfKey (d bank t i : Nat) : Nat := (d * 2 + bank) * 12291 + 4097 * t + i

/-- The identity overdrive set (R228). -/
def odIdentity (k : Nat) : Nat := 1024 * (k % 2048 % 33)

/-- Key of overdrive entry T_q[i][j] of set n. -/
def odKey (d bank n q i j : Nat) : Nat := ((d * 2 + bank) * 16 + n) * 8192 + 2048 * q + 33 * i + j

/-- The identity low-grey curve (R229). -/
def lgIdentity (k : Nat) : Nat := 1024 * (k % 128)

/-- Key of low-grey entry L_q[i] of set g. -/
def lgKey (d bank g q i : Nat) : Nat := ((d * 2 + bank) * 4 + g) * 512 + 128 * q + i

/-- EOTF entry T[i] of table t of die d. -/
def State.eotf (s : State) (d bank t i : Nat) : Nat := s.dev.lamp.eotf.get eotfLinear (eotfKey d bank t i)

/-- A byte of the EOTF banks at a scratchpad address below 0x1_2200 (R238). -/
def State.eotfByte (s : State) (d a : Nat) : Byte :=
  let bank := a / 0x9100
  let o := a % 0x9100
  let t := o / 12312
  let i := o % 12312 / 3
  if t < 3 && i ≤ 4096 then BitVec.ofNat 8 (s.eotf d bank t i / 256 ^ (o % 12312 % 3)) else 0

/-- The word of a block's copy of the output table set (MEMID 0x4) that holds byte `o` of bank `bank`; block b's copy follows. -/
def outWord (b bank o : Nat) : Nat := b * 2 ^ 20 + (bank * 110592 + o) / 8

/-- Byte offset in an output table set of an overdrive entry (R233). -/
def odOfs (n q i j : Nat) : Nat := 6656 * n + 2 * (1089 * q + 33 * i + j)

/-- Byte offset in an output table set of a low-grey entry (R233). -/
def lgOfs (g q i : Nat) : Nat := 106496 + 1024 * g + 4 * (65 * q + i)

/-- What an engine of block b of die d reads besides its own state. -/
def State.tabs (s : State) (d b : Nat) : Tabs :=
  let bank := s.wf (LAMP_OUT_CTL d) LAMP_OUT_CTL.OUT_BANK
  { eotf := s.eotfByte d
    od := fun n q i j =>
      if q < 3 && i ≤ 32 && j ≤ 32 then s.dev.lamp.od.get odIdentity (odKey d bank n q i j) else Config.beyondTable n q i j
    lg := fun g q i => if q < 3 then s.dev.lamp.lg.get lgIdentity (lgKey d bank g q i) else Config.beyondTable g q i 0
    odBad := fun n q i j => s.tableBad d 4 (outWord b bank (odOfs n q i j))
    lgBad := fun g q i => s.tableBad d 4 (outWord b bank (lgOfs g q i)) }

/-! ### Loads (R201, R233) -/

/-- The registers and bank of a load: EOTF or output table set. -/
structure LoadRegs where
  src : Nat
  srcHi : Nat
  status : Nat
  bank : Nat
  len : Nat
deriving DecidableEq, Repr

/-- The EOTF load of die d. -/
def State.eotfRegs (s : State) (d : Nat) : LoadRegs :=
  ⟨LAMP_EOTF_SRC_LO d, LAMP_EOTF_SRC_HI d, LAMP_STATUS d, 1 - s.f (LAMP_CTL d) LAMP_CTL.EOTF_BANK, 49164⟩

/-- The output table load of die d. -/
def State.outRegs (s : State) (d : Nat) : LoadRegs :=
  ⟨LAMP_OUT_SRC_LO d, LAMP_OUT_SRC_HI d, LAMP_OUT_STATUS d, 1 - s.f (LAMP_OUT_CTL d) LAMP_OUT_CTL.OUT_BANK, 110592⟩

/-- Set or clear the OK bit of a bank. -/
def State.setOk (s : State) (a bank : Nat) (ok : Bool) : State :=
  if bank = 0 then s.setB a LAMP_STATUS.BANK0_OK ok else s.setB a LAMP_STATUS.BANK1_OK ok

/-- A load starts on die d: its target is the bank that its own selection leaves free (R201). (DEDUCED: notes/assumptions/28.md) -/
def State.loadStart (s : State) (l : LoadRegs) : State :=
  ((s.setF l.status LAMP_STATUS.LOAD_BUSY 1).setF l.status LAMP_STATUS.LOAD_BANK l.bank).setOk l.status l.bank false

/-- Read a table set for a load: `none` when a word of it cannot be read or lies on a fenced die. -/
def State.loadRead (s : State) (d src len : Nat) : Option (List Byte) × State :=
  let r := s.read 2 d src len
  (if r.2.1 then none else some r.1, r.2.2)

/-- The load of die d ends. -/
def State.loadEnd (s : State) (d status bank : Nat) (ok : Bool) : State :=
  let s := s.setF status LAMP_STATUS.LOAD_BUSY 0
  if ok then s.setOk status bank true else s.leaf d status LAMP_STATUS.LOAD_ERR

/-- A load ends on every live die: each holds the set, or a read of it has failed (R201). -/
def State.loadsEnd (s : State) (status : Nat → Nat) (ok : Bool) : State :=
  s.onDies fun s d =>
    if s.b (status d) LAMP_STATUS.LOAD_BUSY then s.loadEnd d (status d) (s.f (status d) LAMP_STATUS.LOAD_BANK) ok else s

/-- No live die waits for the set any more: the load is complete (R201). -/
def State.loadsDone (s : State) (waits : AMap (Option Nat)) (status : Nat → Nat) : State :=
  if s.liveDies.any fun d => (waits.look none d).isSome then s else s.loadsEnd status true

/-- Each live die waits for the set at `a`. -/
def State.loadsWait (s : State) (a : Nat) : AMap (Option Nat) := s.liveDies.foldl (fun (m : AMap (Option Nat)) d => m.put none d (some a)) []

/-- GO = 1 written to the windows of the dies `ds` by one access: every populated die that is not fenced loads the set at the source register of
the first; a write while a load is in progress is refused (R201). (DEDUCED: notes/assumptions/50.md) -/
def State.loadGo (s : State) (ds : List Nat) (regs : State → Nat → LoadRegs) : Option Nat × State :=
  match ds with
  | [] => (none, s)
  | d :: _ =>
    let l := regs s d
    if s.b l.status LAMP_STATUS.LOAD_BUSY then (none, ds.foldl (fun s e => s.leaf e (regs s e).status LAMP_STATUS.LOAD_REFUSED) s)
    else (some (addrOf s.reg l.src l.srcHi), s.onDies fun s e => s.loadStart (regs s e))

/-- A write of LAMP_EOTF_LOAD in the windows of the dies `ds` (R201). (DEDUCED: notes/assumptions/50.md) -/
def State.eotfGo (s : State) (ds : List Nat) (v : Nat) : State :=
  if v % 2 = 0 then s
  else match s.loadGo ds State.eotfRegs with
    | (some a, s) => s.setLamp { s.dev.lamp with eotfLoad := s.loadsWait a }
    | (none, s) => s

/-- A write of LAMP_OUT_LOAD in the windows of the dies `ds` (R233). (DEDUCED: notes/assumptions/50.md) -/
def State.outGo (s : State) (ds : List Nat) (v : Nat) : State :=
  if v % 2 = 0 then s
  else match s.loadGo ds State.outRegs with
    | (some a, s) => s.setLamp { s.dev.lamp with outLoad := s.loadsWait a }
    | (none, s) => s

/-- The cells of die d have loaded the EOTF set, or a read of it fails (R199, R201): not while the bank serves the work of the frame. The load
ends when every die's cells hold it. -/
def State.eotfDone (s : State) (d : Nat) : State :=
  let bank := s.f (LAMP_STATUS d) LAMP_STATUS.LOAD_BANK
  match s.dev.lamp.eotfLoad.look none d with
  | none => s
  | some a =>
    if s.rasterOn && s.wf (LAMP_CTL d) LAMP_CTL.EOTF_BANK = bank then s
    else
      match s.loadRead d a 49164 with
      | (none, s) => (s.setLamp { s.dev.lamp with eotfLoad := [] }).loadsEnd LAMP_STATUS false
      | (some bs, s) =>
        let l := s.dev.lamp
        let s := s.setLamp { l with
          eotfLoad := l.eotfLoad.put none d none
          eotf := (List.range 12291).foldl (fun m k => m.set eotfLinear ((d * 2 + bank) * 12291 + k) (bits (wordAt bs (4 * k)) 23 0)) l.eotf }
        s.loadsDone s.dev.lamp.eotfLoad LAMP_STATUS

/-- A halfword of a table set. -/
def halfAt (bs : List Byte) (o : Nat) : Nat := leNat ((bs.drop o).take 2)

/-- The output table set in bytes `bs` as entries of bank `bank` of die d (R233): overdrive and low-grey tables. -/
def State.putOutSet (s : State) (d bank : Nat) (bs : List Byte) : State :=
  let l := s.dev.lamp
  let od := (List.range 16).foldl (fun m n => (List.range 3267).foldl (fun m h =>
    m.set odIdentity (odKey d bank n (h / 1089) (h % 1089 / 33) (h % 33)) (halfAt bs (6656 * n + 2 * h))) m) l.od
  let lg := (List.range 4).foldl (fun m g => (List.range 195).foldl (fun m h =>
    m.set lgIdentity (lgKey d bank g (h / 65) (h % 65)) (min 0x10000 (bits (wordAt bs (106496 + 1024 * g + 4 * h)) 16 0))) m) l.lg
  let bad := s.dev.mem.badTable.filter fun e => !(e.1 = d && e.2.1 = 4 && e.2.2 % 2 ^ 20 / 13824 = bank)
  let s := s.setLamp { l with od := od, lg := lg }
  { s with dev := { s.dev with mem := { s.dev.mem with badTable := bad } } }

/-- The blocks of die d have loaded the output table set, or a read of it fails (R233). -/
def State.outDone (s : State) (d : Nat) : State :=
  let bank := s.f (LAMP_OUT_STATUS d) LAMP_OUT_STATUS.LOAD_BANK
  match s.dev.lamp.outLoad.look none d with
  | none => s
  | some a =>
    if s.rasterOn && s.wf (LAMP_OUT_CTL d) LAMP_OUT_CTL.OUT_BANK = bank then s
    else
      match s.loadRead d a 110592 with
      | (none, s) => (s.setLamp { s.dev.lamp with outLoad := [] }).loadsEnd LAMP_OUT_STATUS false
      | (some bs, s) =>
        let s := s.setLamp { s.dev.lamp with outLoad := s.dev.lamp.outLoad.put none d none }
        (s.putOutSet d bank bs).loadsDone s.dev.lamp.outLoad LAMP_OUT_STATUS

/-- A die has been fenced: a load for which it alone was waited is complete (R201). -/
def State.loadsFence (s : State) : State :=
  (s.loadsDone s.dev.lamp.eotfLoad LAMP_STATUS).loadsDone s.dev.lamp.outLoad LAMP_OUT_STATUS

/-! ### Reads of lamp tables -/

/-- The 64-bit words of [a, a + n) are read by die d's feeder, each once in a frame: errors are reported, correctable words written
back (R213, R387). -/
def State.tableRead (s : State) (d a n : Nat) : State :=
  (List.range ((a + n + 7) / 8 - a / 8)).foldl (fun s i =>
    let w := 8 * (a / 8 + i)
    let k := d * 2 ^ 40 + w
    if s.dev.comp.fed.contains k then s
    else ((s.setComp { s.dev.comp with fed := k :: s.dev.comp.fed }).read 2 d w 8).2.2) s

/-- An event of R213: table address and cause. -/
abbrev Neutral := Nat × Nat

/-- Why `n` bytes at `a` cannot be used, and where (R213): on a fenced die their start with cause 2, else the first 64-bit word that cannot
be read with cause 0. (DEDUCED: notes/assumptions/34.md) -/
def State.badRead (s : State) (a n : Nat) : Option Neutral :=
  if s.fenced (dieOf a) then some (a, 2)
  else ((List.range n).find? fun i => s.unreadable (a + i)).map fun i => (8 * ((a + i) / 8), 0)

/-- Count pixels processed with neutral values, and latch the first event since the count was read. -/
def State.neutral (s : State) (d n : Nat) (e : Neutral) : State :=
  if n = 0 then s
  else
    let s := s.latchOnce (LAMP_NEUTRAL_ADDR_LO d) fun s =>
      (s.setReg (LAMP_NEUTRAL_ADDR_LO d) (e.1 % 2 ^ 32)).setReg (LAMP_NEUTRAL_ADDR_HI d) (e.2 * 2 ^ 30 + e.1 / 2 ^ 32 % 256)
    s.countN (LAMP_NEUTRAL_CNT d) n

/-! ### Tiles (R203 to R207, R219) -/

/-- The tile size of die d in force. -/
def State.tileW (s : State) (d : Nat) : Nat := s.wf (LAMP_TILE_GEOM d) LAMP_TILE_GEOM.TW
def State.tileH (s : State) (d : Nat) : Nat := s.wf (LAMP_TILE_GEOM d) LAMP_TILE_GEOM.TH

/-- The tile geometry is in the range of R216. -/
def State.tileOk (s : State) (d : Nat) : Bool :=
  8 ≤ s.tileW d && s.tileW d ≤ 1024 && 8 ≤ s.tileH d && s.tileH d ≤ 1024

/-- The address of the tile base record of pixel (x, y) (R204). -/
def State.tileAddr (s : State) (d x y : Nat) : Nat :=
  let q := s.section d
  let tw := s.tileW d
  let th := s.tileH d
  addrOf s.wReg (LAMP_TILE_BASE_LO d) (LAMP_TILE_BASE_HI d) +
    ((y / th - q.y / th) * s.wf (LAMP_TILE_PITCH d) LAMP_TILE_PITCH.PITCH + (x / tw - q.x / tw)) * 64

/-- The address of the pixel record of (x, y) (R204). -/
def State.pixAddr (s : State) (d x y : Nat) : Nat :=
  let q := s.section d
  addrOf s.wReg (LAMP_PIX_BASE_LO d) (LAMP_PIX_BASE_HI d) + (y - q.y) * s.wf (LAMP_PIX_STRIDE d) LAMP_PIX_STRIDE.STRIDE + (x - q.x) * 12

/-- The address of seam profile p (R204). -/
def State.seamAddr (s : State) (d p : Nat) : Nat := addrOf s.wReg (LAMP_SEAM_BASE_LO d) (LAMP_SEAM_BASE_HI d) + p * 128

/-- The stage enables of die d in force: LAMP_CTL bits [31:25]. -/
def State.stageOn (s : State) (d : Nat) (f : Fd) : Bool := s.wb (LAMP_CTL d) f

/-- An item of R234 is shed on die d in this frame. -/
def State.shed (s : State) (d i : Nat) : Bool := bitOf (s.f (LAMP_SHED d) LAMP_SHED.ITEMS) i

/-- Some stage needs the tile base record. -/
def State.tileUsed (s : State) (d : Nat) : Bool :=
  s.stageOn d LAMP_CTL.EN_CC || s.stageOn d LAMP_CTL.EN_SEAM || s.stageOn d LAMP_CTL.EN_CONCEAL || s.stageOn d LAMP_CTL.EN_OD ||
    s.stageOn d LAMP_CTL.EN_LOWGREY

/-- The tile base record of pixel (x, y): its bytes when usable. -/
def State.tileRec (s : State) (d x y : Nat) : Option (List Byte) :=
  if s.tileOk d && (s.badRead (s.tileAddr d x y) 64).isNone then some (s.peek (s.tileAddr d x y) 64) else none

/-- Fields of a tile base record. -/
def recDexp (t : List Byte) : Nat := bits (wordAt t 16) 19 16
def recOexp (t : List Byte) : Nat := bits (wordAt t 16) 27 24
def recBase (t : List Byte) (f : Nat) : Nat := halfAt t (if f < 9 then 2 * f else 2 * (f + 1))
def recProf (t : List Byte) (e : Nat) : Nat := bits (wordAt t (32 + 4 * e)) 31 16
def recDepth (t : List Byte) (e : Nat) : Nat := bits (wordAt t (32 + 4 * e)) 4 0
def recOdOff (t : List Byte) : Bool := bits (wordAt t 48) 31 31 = 1
def recSetOfs (t : List Byte) : Nat := bits (wordAt t 48) 19 16
def recStrand (t : List Byte) : Nat := bits (wordAt t 48) 15 9
def recPartner (t : List Byte) : Nat := bits (wordAt t 48) 8 0
def recLgSet (t : List Byte) : Nat := bits (wordAt t 52) 1 0
def recDeadIdx (t : List Byte) : Nat := bits (wordAt t 56) 23 0
def recDeadN (t : List Byte) : Nat := bits (wordAt t 60) 7 0

/-- An edge of the tile breaks the rule of R213. -/
def State.edgeBad (s : State) (d : Nat) (t : List Byte) : Bool :=
  (List.range 4).any fun e => 16 < recDepth t e || (0 < recDepth t e && s.wf (LAMP_SEAM_COUNT d) LAMP_SEAM_COUNT.COUNT ≤ recProf t e)

/-- The distance of pixel (x, y) to edge e of its tile: left, right, top, bottom (R212). -/
def State.edgeDist (s : State) (d x y e : Nat) : Nat :=
  let tw := s.tileW d
  let th := s.tileH d
  match e with
  | 0 => x % tw
  | 1 => tw - 1 - x % tw
  | 2 => y % th
  | _ => th - 1 - y % th

/-- The edges from which the pixel takes seam gain. -/
def State.edgesOf (s : State) (d x y : Nat) (t : List Byte) : List Nat := (List.range 4).filter fun e => s.edgeDist d x y e < recDepth t e

/-- How many entries of profile p the tile with record `t` uses: its edges that name p, each up to its DEPTH and the tile's size. -/
def State.profLen (s : State) (d : Nat) (t : List Byte) (p : Nat) : Nat :=
  ((List.range 4).map fun e => if recProf t e = p then min (recDepth t e) (if e < 2 then s.tileW d else s.tileH d) else 0).foldl max 0

/-- The first seam profile from which the pixel takes gain and which its tile cannot read (R213). (DEDUCED: notes/assumptions/34.md) -/
def State.profBad (s : State) (d x y : Nat) (t : List Byte) : Option Neutral :=
  (s.edgesOf d x y t).findSome? fun e => s.badRead (s.seamAddr d (recProf t e)) (8 * s.profLen d t (recProf t e))

/-- The base value and delta that field f (R242) takes at a pixel, and its exponents: those of the records, or neutral. -/
def State.coefOf (s : State) (d x y f : Nat) : Nat × Nat :=
  let neutral := (if f = 0 || f = 4 || f = 8 then 4096 else 0, 0)
  if !s.stageOn d LAMP_CTL.EN_CC then neutral
  else match s.tileRec d x y with
    | none => neutral
    | some t =>
      if 12 < recDexp t || 12 < recOexp t || (s.badRead (s.pixAddr d x y) 12).isSome then neutral
      else (recBase t f, (s.peek (s.pixAddr d x y + f) 1).headD 0 |>.toNat)

/-- The exponents (DEXP, OEXP) of a pixel; 12 where it is neutral. -/
def State.expOf (s : State) (d x y : Nat) : Nat × Nat :=
  if !s.stageOn d LAMP_CTL.EN_CC then (12, 12)
  else match s.tileRec d x y with
    | none => (12, 12)
    | some t => if 12 < recDexp t || 12 < recOexp t || (s.badRead (s.pixAddr d x y) 12).isSome then (12, 12) else (recDexp t, recOexp t)

/-- The seam gain of lamp r at edge e (R211, R243). -/
def State.gainOf (s : State) (d x y r e : Nat) : Nat :=
  if !s.stageOn d LAMP_CTL.EN_SEAM then 0x4000
  else match s.tileRec d x y with
    | none => 0x4000
    | some t =>
      if s.edgeBad d t || (s.profBad d x y t).isSome then 0x4000
      else
        let k := s.edgeDist d x y e
        if k < recDepth t e then leNat (s.peek (s.seamAddr d (recProf t e) + 8 * k + 2 * r) 2) else 0x4000

/-! ### Overdrive history (R225, R226) -/

/-- The base of history surface k of die d. -/
def histBase (v : Nat → Nat) (d k : Nat) : Nat :=
  if k = 0 then addrOf v (LAMP_OD_HIST_BASE0_LO d) (LAMP_OD_HIST_BASE0_HI d) else addrOf v (LAMP_OD_HIST_BASE1_LO d) (LAMP_OD_HIST_BASE1_HI d)

/-- The address of the history block of pixel (x, y) in surface k. -/
def State.histAddr (s : State) (d k x y : Nat) : Nat :=
  let q := s.section d
  histBase s.wReg d k + (y - q.y) / 4 * s.wf (LAMP_OD_HIST_STRIDE d) LAMP_OD_HIST_STRIDE.STRIDE + (x - q.x) / 8 * 96

/-- Overdrive passes every target of die d in this frame (R226). -/
def State.odBypass (s : State) (d : Nat) : Bool := (s.dev.lamp.histLast.look none d).isNone

/-- Why the pixel's history cannot be used. -/
def State.histBad (s : State) (d x y : Nat) : Option Neutral :=
  match s.dev.lamp.histLast.look none d with
  | none => none
  | some k => s.badRead (s.histAddr d k x y) 96

/-- h of lamp r at a pixel from the last completed history. -/
def State.histOf (s : State) (d x y r : Nat) : Nat :=
  match s.dev.lamp.histLast.look none d with
  | none => 0
  | some k =>
    let q := s.section d
    let a := s.histAddr d k x y
    if (List.range surfaceForm.size).any fun j => s.unreadable (a + j) then 0
    else surfaceForm.sample (leNat (s.peek a surfaceForm.size)) r ((x - q.x) % 8 + 8 * ((y - q.y) % 4))

/-! ### Temperature bands (R227) -/

/-- BAND[i] in force. -/
def State.bandT (s : State) (i : Nat) : Int := sext 8 (s.wReg (LAMP_OD_BAND 0 (i / 4)) / 256 ^ (i % 4))

/-- Climb while the temperature has reached the next threshold. -/
def bandUp (t : Nat → Int) (θ : Int) : Nat → Nat → Nat
  | 0, b => b
  | n + 1, b => if b < 15 ∧ t b ≤ θ then bandUp t θ n (b + 1) else b

/-- Fall while the temperature lies below the threshold of the band less the hysteresis. -/
def bandDown (t : Nat → Int) (hyst : Nat) (θ : Int) : Nat → Nat → Nat
  | 0, b => b
  | n + 1, b => if 0 < b ∧ θ < t (b - 1) - hyst then bandDown t hyst θ n (b - 1) else b

/-- The band after an update from temperature θ (R227). -/
def bandNext (t : Nat → Int) (hyst : Nat) (θ : Int) (b : Nat) : Nat := bandDown t hyst θ 16 (bandUp t θ 16 b)

/-- At a frame start the band of the partner of key `k` follows its most recent temperature (R227). -/
def State.bandStep (s : State) (k : Nat) : State :=
  match (s.dev.lamp.temp.look none k).bind (·.theta) with
  | none => s
  | some θ =>
    let hyst := s.wf (LAMP_OUT_CTL 0) LAMP_OUT_CTL.HYST
    s.setLamp { s.dev.lamp with band := s.dev.lamp.band.put 0 k (bandNext s.bandT hyst θ (s.dev.lamp.band.look 0 k)) }

/-- Partner p of strand g, which is Active, at the start of frame `n`: silent for 64 frames, it is stale. -/
def State.bandPartner (s : State) (n g p : Nat) : State :=
  let k := g * 512 + p
  let l := s.dev.lamp
  let t := (l.temp.look none k).getD ⟨none, n, false⟩
  let stale := decide (t.frame + 64 ≤ n)
  let s := s.setLamp { l with temp := l.temp.put none k (some { t with stale := stale }) }
  if stale && !t.stale then s.leaf (g / 16) (STR_PERR (g / 16) (g % 16)) STR_PERR.TEMP_STALE else s

/-- The partners on Active strands, as strand and address. -/
def State.activePartners (s : State) : List (Nat × Nat) :=
  ((List.range (16 * s.dies)).filter s.strandActive).flatMap fun g =>
    (List.range (s.f (STR_LINK (g / 16) (g % 16)) STR_LINK.PARTNERS)).map fun p => (g, p)

/-- The bands at the start of frame `n`, and those that the frame's tiles use: of each partner on an Active strand that is not stale (R227).
-/
def State.bands (s : State) (n : Nat) : State :=
  let ps := s.activePartners
  let s := ps.foldl (fun s e => s.bandPartner n e.1 e.2) s
  let s := s.dev.lamp.temp.foldl (fun s e => s.bandStep e.1) s
  let l := s.dev.lamp
  s.setLamp { l with bandUse := ps.foldl (fun (m : AMap (Option Nat)) e =>
    let k := e.1 * 512 + e.2
    if (l.temp.look none k).any (·.stale) then m else m.put none k (some (l.band.look 0 k))) [] }

/-- The overdrive set of a tile in this frame (R227). -/
def State.odSet (s : State) (d : Nat) (t : List Byte) : Nat :=
  match s.dev.lamp.bandUse.look none (recStrand t * 512 + recPartner t) with
  | some b => min (b + recSetOfs t) (s.wf (LAMP_OUT_CTL d) LAMP_OUT_CTL.OD_SETS - 1)
  | none => s.wf (LAMP_OUT_CTL d) LAMP_OUT_CTL.DEF_SET

/-! ### Dead lamps (R220 to R224) -/

/-- The neighbours of a table entry: offsets and weights; a weight of 0 leaves one unused. -/
def entryNear (w2 w3 : Nat) : List (Int × Int × Nat) :=
  ((List.range 4).map fun k =>
    let n := w3 / 256 ^ k % 256
    (sext 4 n, sext 4 (n / 16), w2 / 256 ^ k % 256)).filter fun e => e.2.2 != 0

/-- The tiles that meet die d's section, by the pixel of each at its top left inside the section. -/
def State.tilesIn (s : State) (d : Nat) : List (Nat × Nat) :=
  let q := s.section d
  let tw := s.tileW d
  let th := s.tileH d
  if q.empty || !s.tileOk d then []
  else (List.range ((q.y + q.h - 1) / th + 1 - q.y / th)).flatMap fun j =>
    (List.range ((q.x + q.w - 1) / tw + 1 - q.x / tw)).map fun i => (max q.x ((q.x / tw + i) * tw), max q.y ((q.y / th + j) * th))

/-- Start and length of the dead-lamp records that the tile with record `t` names (R219). -/
def State.deadRecs (s : State) (d : Nat) (t : List Byte) : Nat × Nat :=
  (addrOf s.wReg (LAMP_DEAD_BASE_LO d) (LAMP_DEAD_BASE_HI d) + recDeadIdx t * 16, 16 * recDeadN t)

/-- The table entries of the tile at (x, y): dead lamps, and how many entries break R220. (DEDUCED: notes/assumptions/34.md) -/
def State.tileDead (s : State) (d x y : Nat) : List DeadLamp × Nat :=
  match s.tileRec d x y with
  | none => ([], 0)
  | some t =>
    (List.range (recDeadN t)).foldl (fun (acc : List DeadLamp × Nat) e =>
      let a := (s.deadRecs d t).1 + 16 * e
      if (s.badRead a 16).isSome then acc
      else
        let bs := s.peek a 16
        let px := bits (wordAt bs 0) 15 0
        let py := bits (wordAt bs 0) 31 16
        let r := bits (wordAt bs 4) 1 0
        if r = 3 then acc
        else if !(s.section d).has px py || px / s.tileW d != x / s.tileW d || py / s.tileH d != y / s.tileH d then (acc.1, acc.2 + 1)
        else if acc.1.any fun q => q.x = px && q.y = py && q.r = r then acc
        else (acc.1 ++ [⟨px, py, r, entryNear (wordAt bs 8) (wordAt bs 12), true⟩], acc.2)) ([], 0)

/-- The neighbours of a dynamic entry (R222). -/
def State.dynNear (s : State) (d : Nat) : List (Int × Int × Nat) :=
  let w := s.wReg (LAMP_CONC_DEFW d)
  [(-1, 0, w % 256), (1, 0, w / 256 % 256), (0, -1, w / 65536 % 256), (0, 1, w / 16777216 % 256)].filter fun e => e.2.2 != 0

/-- Order of dead lamps: line, column, lamp. (DEDUCED: notes/assumptions/34.md) -/
def DeadLamp.before (a b : DeadLamp) : Bool := (a.y, a.x, a.r) = (b.y, b.x, b.r) || lampKey 0 a.x a.y a.r < lampKey 0 b.x b.y b.r

/-- The dead lamps of die d in this frame, in raster order, and how many table entries break R220. (DEDUCED: notes/assumptions/34.md) -/
def State.deadOf (s : State) (d : Nat) : List DeadLamp × Nat :=
  if !s.stageOn d LAMP_CTL.EN_CONCEAL then ([], 0)
  else
    let t := (s.tilesIn d).foldl (fun (acc : List DeadLamp × Nat) p =>
      let r := s.tileDead d p.1 p.2
      (acc.1 ++ r.1, acc.2 + r.2)) ([], 0)
    let dyn := if s.wb (LAMP_CONC_CTL d) LAMP_CONC_CTL.DYN_EN then (s.dev.lamp.dyn.look [] d).map fun e => (⟨e.1, e.2.1, e.2.2, s.dynNear d, true⟩ : DeadLamp)
      else []
    let all := t.1 ++ dyn.filter fun q => !t.1.any fun p => p.x = q.x && p.y = q.y && p.r = q.r
    let all := all.mergeSort DeadLamp.before
    (all.zipIdx.map fun p => { p.1 with lends := decide (p.2 < 4096) }, t.2)

/-- The neighbour pixel of a dead lamp, when it lies in the section and that lamp is not dead itself. -/
def State.lendTo (s : State) (d : Nat) (ds : List DeadLamp) (q : DeadLamp) (n : Int × Int × Nat) : Option (Nat × Nat) :=
  let x : Int := q.x + n.1
  let y : Int := q.y + n.2.1
  if x < 0 || y < 0 || !(s.section d).has x.toNat y.toNat || ds.any (fun p => p.x = x.toNat && p.y = y.toNat && p.r = q.r) then none
  else some (x.toNat, y.toNat)

/-- The additions that R224 does not make in a frame of die d. -/
def State.lendDrops (s : State) (d : Nat) (ds : List DeadLamp) : Nat :=
  ds.foldl (fun n q => n + (if q.lends then (q.near.filter fun e => (s.lendTo d ds q e).isNone).length else q.near.length)) 0

/-- The light lent to lamp r of pixel (x, y) (R223). -/
def State.lendOf (s : State) (d x y r : Nat) : Nat :=
  let ds := s.dev.lamp.dead.look [] d
  if !s.stageOn d LAMP_CTL.EN_CONCEAL || s.shed d 1 then 0
  else min 0xFFFFFF (ds.foldl (fun n q =>
    if q.r = r && q.lends then
      match s.dev.lamp.carry.look none (lampKey d q.x q.y r) with
      | none => n
      | some c => q.near.foldl (fun n e => if s.lendTo d ds q e = some (x, y) then n + (rshift ((e.2.2 * c : Nat) : Int) 7).toNat else n) n
    else n) 0)

/-- The dead lamps of a pixel, bit r for lamp r. -/
def State.deadBits (s : State) (d x y : Nat) : Nat :=
  ((s.dev.lamp.dead.look [] d).filter fun q => q.x = x && q.y = y).foldl (fun n q => setBit n q.r) 0

/-- Report an open or short lamp of a partner that maps to (x, y, r) of die d's section (R222). -/
def State.reportDead (s : State) (d x y r : Nat) : State :=
  let l := s.dev.lamp
  let old := l.dyn.look [] d
  let new := l.dynNew.look [] d
  if !(s.section d).has x y || old.contains (x, y, r) || new.contains (x, y, r) then s
  else if 1024 ≤ old.length + new.length then s.leaf d (LAMP_CONC_STATUS d) LAMP_CONC_STATUS.DYN_FULL
  else
    (s.setLamp { l with dynNew := l.dynNew.put [] d (new ++ [(x, y, r)]) }).setF (LAMP_CONC_STATUS d) LAMP_CONC_STATUS.DYN_USED
      (old.length + new.length + 1)

/-- A write of LAMP_DYN_CLR: the next frame start clears the whole list (R222). (DEDUCED: notes/assumptions/34.md) -/
def State.dynClr (s : State) (d v : Nat) : State :=
  if v % 2 = 0 then s else s.setLamp { s.dev.lamp with dynClr := d :: s.dev.lamp.dynClr }

/-- A read of LAMP_DYN_DATA: the entry that IDX names; IDX steps (R222). -/
def State.dynData (s : State) (d : Nat) : Word × State :=
  let i := s.f (LAMP_DYN_IDX d) LAMP_DYN_IDX.IDX
  let es := s.dev.lamp.dyn.look [] d ++ s.dev.lamp.dynNew.look [] d
  let w := match es[i]? with
    | some (x, y, r) => 2 ^ 31 + r % 4 * 2 ^ 29 + x % 2 ^ 15 * 2 ^ 14 + y % 2 ^ 14
    | none => 0
  (BitVec.ofNat 32 w, s.setF (LAMP_DYN_IDX d) LAMP_DYN_IDX.IDX (i + 1))

/-- The frame start on die d (R222 to R226): dynamic list, carry, dead lamps with their counts, bypass count. `ran`: the die computed
its section in the frame before. -/
def State.lampFrameStart (s : State) (ran : List Nat) (d : Nat) : State :=
  let l := s.dev.lamp
  let dyn := if l.dynClr.contains d then [] else l.dyn.look [] d ++ l.dynNew.look [] d
  let mine (k : Nat) : Bool := k / 2 ^ 34 = d
  let carry := if ran.contains d then l.carry.filter (fun e => !mine e.1) else l.carry
  let carry := if ran.contains d then (l.carryNew.filter fun e => mine e.1).foldl (fun (m : AMap (Option Nat)) e => m.put none e.1 e.2) carry else carry
  let s := s.setLamp { l with
    dyn := l.dyn.put [] d dyn, dynNew := l.dynNew.put [] d [], dynClr := l.dynClr.filter (· != d), carry := carry
    carryNew := l.carryNew.filter fun e => !mine e.1 }
  let s := s.setF (LAMP_CONC_STATUS d) LAMP_CONC_STATUS.DYN_USED dyn.length
  if !s.composes s.mode d then s
  else
    let ds := s.deadOf d
    let s := s.setLamp { s.dev.lamp with dead := s.dev.lamp.dead.put [] d ds.1, deadOld := s.dev.lamp.deadOld.put [] d (s.dev.lamp.dead.look [] d) }
    let s := s.countN (LAMP_CONC_CNT d) (ds.1.filter fun q => (s.dev.lamp.carry.look none (lampKey d q.x q.y q.r)).isSome).length
    let s := s.countN (LAMP_CONC_DROP d) (ds.2 + (if s.shed d 1 then 0 else s.lendDrops d ds.1))
    if s.stageOn d LAMP_CTL.EN_OD && s.odBypass d then s.count (LAMP_OD_BYPASS_CNT d) else s

/-! ### A group's data (R240 to R243) -/

/-- The code width of canvas pixel (x, y): of its segment's partner, else of the nearest segment on the line, the left one on a tie, else
16 (R230, R341). -/
def State.codeW (s : State) (x y : Nat) : Nat :=
  let im := s.img
  let wcOf (g : Seg) : Nat := match im.partner g.strand g.addr with
    | some p => p.wc + 10
    | none => 16
  match im.segAt x y with
  | some jg => wcOf jg.2
  | none =>
    let dist (g : Seg) : Nat := if x < g.x then g.x - x else x - (g.x + g.w - 1)
    let line := im.segs.filter fun g => g.on && g.y ≤ y && y < g.y + g.h
    match line.foldl (fun (b : Option Seg) g => match b with
        | none => some g
        | some h => if dist g < dist h || (dist g = dist h && g.x < h.x) then some g else some h) none with
    | some g => wcOf g
    | none => 16

/-- The dither threshold of lamp r at (x, y) on die d (R231). -/
def State.ditherTh (s : State) (d x y r : Nat) : Nat :=
  let F := s.tbFrame
  let p2 := s.wb (LAMP_OUT_CTL d) LAMP_OUT_CTL.DITHER_P2 && !s.shed d 4
  let ox := if p2 then F / 4 % 4 else 0
  let oy := if p2 then F / 16 % 4 else 0
  let e := 16 * (F % 4) + 4 * ((y + oy) % 4) + (x + r + ox) % 4
  s.wReg (LAMP_DITHER_CUBE d (e / 4)) / 256 ^ (e % 4) % 256

/-- A canvas component of a composed line. -/
def State.canvasAt (s : State) (d x y m : Nat) : Nat :=
  ((s.dev.comp.full.look [] (lineKey d y)).getD (x - (s.section d).x) []).getD m 0

/-- Lane k of group g of line y is valid on die d (R240). -/
def State.laneOk (s : State) (d g y k : Nat) : Bool := (s.section d).has (4 * g + k) y

/-- ODSET of a pixel: PASS and set (R243). -/
def State.odByte (s : State) (d x y : Nat) : Nat :=
  match s.tileRec d x y with
  | none => 16
  | some t =>
    let pass := !s.stageOn d LAMP_CTL.EN_OD || s.shed d 2 || s.odBypass d || recOdOff t || (s.histBad d x y).isSome
    (if pass then 16 else 0) + s.odSet d t % 16

/-- LGSET of a pixel (R243). -/
def State.lgByte (s : State) (d x y : Nat) : Nat :=
  (if !s.stageOn d LAMP_CTL.EN_LOWGREY || s.shed d 3 then 128 else 0) +
    (match s.tileRec d x y with
     | some t => recLgSet t
     | none => 0)

/-- The FLAGS word (R242). -/
def State.slotFlags (s : State) (d g y : Nat) : Nat :=
  let ctl := s.wReg (LAMP_CTL d)
  LAMP_CTL.EOTF_BANK.get ctl * 2 ^ 24 + s.f (LAMP_SHED d) LAMP_SHED.ITEMS * 2 ^ 16 + ctl / 2 ^ 25 % 2 ^ 7 * 2 ^ 8 +
    (List.range 4).foldl (fun n k => if s.laneOk d g y k then setBit n k else n) 0

/-- One element of each lane, `n` bytes each. -/
def lane4 (n : Nat) (f : Nat → Nat) : List Byte := (List.range 4).flatMap fun k => leBytes n (f k)

/-- The 512 bytes of the feed slot for group g of line y on die d (R242, R243). Invalid lanes hold neutral values. -/
def State.slotBytes (s : State) (d g y : Nat) : List Byte :=
  let ok := s.laneOk d g y
  let at' (k : Nat) (dflt : Nat) (f : Nat → Nat) : Nat := if ok k then f (4 * g + k) else dflt
  let neutral (f : Nat) : Nat × Nat := (if f = 0 || f = 4 || f = 8 then 4096 else 0, 0)
  let bank := s.wf (LAMP_CTL d) LAMP_CTL.EOTF_BANK
  leBytes 4 (y * 2 ^ 16 + 4 * g) ++ leBytes 4 s.tbFrame ++ leBytes 4 (s.slotFlags d g y) ++ leBytes 4 (bank * 0x9100)
  ++ lane4 1 (fun k => at' k 12 fun x => (s.expOf d x y).1) ++ lane4 1 (fun k => at' k 12 fun x => (s.expOf d x y).2)
  ++ lane4 1 (fun k => at' k 16 fun x => s.odByte d x y) ++ lane4 1 (fun k => at' k 128 fun x => s.lgByte d x y)
  ++ (List.range 3).flatMap (fun m => lane4 2 fun k => at' k 0 fun x => s.canvasAt d x y m)
  ++ List.replicate 8 0
  ++ (List.range 12).flatMap (fun f => lane4 2 (fun k => at' k (neutral f).1 fun x => (s.coefOf d x y f).1)
      ++ lane4 1 (fun k => at' k 0 fun x => (s.coefOf d x y f).2))
  ++ (List.range 12).flatMap (fun i => lane4 2 fun k => at' k 0x4000 fun x => s.gainOf d x y (i / 4) (i % 4))
  ++ (List.range 3).flatMap (fun r => lane4 4 fun k => at' k 0 fun x => s.lendOf d x y r)
  ++ lane4 1 (fun k => at' k 0 fun x => s.deadBits d x y)
  ++ List.replicate 4 0
  ++ lane4 2 (fun k => at' k 0xFFFF fun x => 2 ^ s.codeW x y - 1)
  ++ (List.range 3).flatMap (fun r => lane4 2 fun k => at' k 0 fun x => if bitOf (s.odByte d x y) 4 then 0 else s.histOf d x y r)
  ++ (List.range 3).flatMap (fun r => lane4 1 fun k => at' k 0 fun x => s.ditherTh d x y r)
  ++ List.replicate 108 0

/-- The events of R213 at a pixel of die d, in the order tile record, its fields, seam profile, pixel record, history. -/
def State.neutralAt (s : State) (d x y : Nat) : List Neutral :=
  let cc := s.stageOn d LAMP_CTL.EN_CC
  let seam := s.stageOn d LAMP_CTL.EN_SEAM
  let od := s.stageOn d LAMP_CTL.EN_OD && !s.shed d 2
  let tile := if s.tileUsed d && s.tileOk d then s.badRead (s.tileAddr d x y) 64 else none
  let hist := if od then s.histBad d x y else none
  let pix := if cc then s.badRead (s.pixAddr d x y) 12 else none
  match s.tileRec d x y with
  | none => tile.toList ++ pix.toList ++ hist.toList
  | some t =>
    (if (cc && (12 < recDexp t || 12 < recOexp t)) || (seam && s.edgeBad d t) then [(s.tileAddr d x y, 1)] else []) ++
      (if seam && !s.edgeBad d t then (s.profBad d x y t).toList else []) ++ pix.toList ++ hist.toList

/-- The feeder reads the records of a pixel, the dead-lamp records of its tile among them (R374, R387): reports only. -/
def State.feedReads (s : State) (d x y : Nat) : State :=
  let s := if s.tileUsed d && s.tileOk d then s.tableRead d (s.tileAddr d x y) 64 else s
  let s := if s.stageOn d LAMP_CTL.EN_CC then s.tableRead d (s.pixAddr d x y) 12 else s
  let s := if s.stageOn d LAMP_CTL.EN_SEAM then
      match s.tileRec d x y with
      | some t => if s.edgeBad d t then s
        else (s.edgesOf d x y t).foldl (fun s e => s.tableRead d (s.seamAddr d (recProf t e)) (8 * s.profLen d t (recProf t e))) s
      | none => s
    else s
  let s := if s.stageOn d LAMP_CTL.EN_CONCEAL then
      match s.tileRec d x y with
      | some t => s.tableRead d (s.deadRecs d t).1 (s.deadRecs d t).2
      | none => s
    else s
  if s.stageOn d LAMP_CTL.EN_OD && !s.shed d 2 then
    match s.dev.lamp.histLast.look none d with
    | some k => s.tableRead d (s.histAddr d k x y) 96
    | none => s
  else s

/-! ### The arithmetic of stages 1 to 3 (R198, R209 to R212) -/

/-- Stage 1: linearise component v through table t (R198); bypassed, v × 16 (R194). -/
def linearise (on : Bool) (T : Nat → Nat) (v : Nat) : Int :=
  if on then clampI 0 0xFFFFFF ((T (v / 16) : Int) + rshift (((T (v / 16 + 1) : Int) - T (v / 16)) * (v % 16 : Nat)) 4) else (v * 16 : Nat)

/-- The effective coefficient or offset of R209, s3.20. -/
def effCoef (base delta e : Nat) : Int := clampI (-0x800000) 0x7FFFFF (sext 16 base * 256 + sext 8 delta * 2 ^ (12 - e))

/-- Stage 2 for one lamp: rounded once, clamped (R210). -/
def colourCorrect (c : List Int) (o : Int) (inp : List Int) : Int :=
  clampI 0 0xFFFFFF (rshift ((List.range 3).foldl (fun a i => a + c.getD i 0 * inp.getD i 0) 0 + o * 2 ^ 20) 20)

/-- Stage 3 for one lamp: the edge gains multiplied in order, then the target (R212). -/
def seamGain (gs : List Nat) (x : Int) : Int :=
  let g := gs.foldl (fun (g : Int) (e : Nat) => min 0xFFFF (rshift (g * e) 14)) 0x4000
  min 0xFFFFFF (rshift (x * g) 14)

/-- The target of lamp r of pixel (x, y) after stage 3, from the table data in force. -/
def State.stage3 (s : State) (d x y r : Nat) : Int :=
  let bank := s.wf (LAMP_CTL d) LAMP_CTL.EOTF_BANK
  let lin (m : Nat) : Int := linearise (s.stageOn d LAMP_CTL.EN_LIN) (s.eotf d bank m) (s.canvasAt d x y m)
  let e := s.expOf d x y
  let c (k : Nat) : Int := let b := s.coefOf d x y (3 * r + k); effCoef b.1 b.2 e.1
  let o : Int := let b := s.coefOf d x y (9 + r); effCoef b.1 b.2 e.2
  let gains := match s.tileRec d x y with
    | some t => if s.stageOn d LAMP_CTL.EN_SEAM then (s.edgesOf d x y t).map fun k => s.gainOf d x y r k else []
    | none => []
  seamGain gains (colourCorrect ((List.range 3).map c) o ((List.range 3).map lin))

/-! ### Dealing groups to cells (R255, R256) -/

/-- Cell c of block b of die d is fenced, with the fence words `m`. -/
def cellFenced (m : Nat → Nat) (e : Nat) : Bool := bitOf (m (e / 32)) (e % 32)

/-- The cells of block b that the fence words `m` leave live. -/
def liveCells (m : Nat → Nat) (b : Nat) : List Nat := (List.range 16).filter fun c => !cellFenced m (b * 16 + c)

/-- The live blocks (a block whose 16 cells are all fenced is fenced). -/
def liveBlocks (m : Nat → Nat) : List Nat := (List.range 8).filter fun b => !(liveCells m b).isEmpty

/-- The fence words of die d as of the last knot line, and now. -/
def State.cellsAt (s : State) (d m : Nat) : Nat := s.dev.lamp.cells.look 0 (d * 4 + m)
def State.cellsNow (s : State) (d m : Nat) : Nat := s.reg (PE_FENCE d m)

/-- The next entry of a list after `x`, in increasing order, wrapping. -/
def nextUp (l : List Nat) (x : Nat) : Option Nat := (l.find? (x < ·)).or l.head?

/-- The local engine that runs group j (from the left) of a section line of die d. -/
def State.engineFor (s : State) (d j : Nat) : Option Nat :=
  let old := s.cellsAt d
  let now := s.cellsNow d
  let bs := liveBlocks old
  let chunk := max 1 s.img.chunk
  match bs[j / chunk % bs.length]? with
  | none => none
  | some b =>
    let i := ((List.range j).filter fun k => k / chunk % bs.length = j / chunk % bs.length).length
    let cs := liveCells old b
    let c := cs.getD (i % cs.length) 0
    if !cellFenced now (b * 16 + c) then some (b * 16 + c)
    else if !(liveCells now b).isEmpty then (nextUp (liveCells now b) c).map fun c => b * 16 + c
    else
      (nextUp (liveBlocks now) b).bind fun b' => (nextUp (liveCells now b') c).map fun c => b' * 16 + c

/-! ### Commands -/

/-- The EOTF load of die d reaches its end. -/
def execEotfLoadDone (d : Nat) (s : State) : Out := .next (s.run (·.eotfDone d))

/-- The output table load of die d reaches its end. -/
def execOutLoadDone (d : Nat) (s : State) : Out := .next (s.run (·.outDone d))

end Sys2Proof.Machine
end

