-- ==== Sys2Proof/Machine/Check.lean ====
section
/-! DEFINITION. The rules that reject a knot with BAD_SHADOW (R179): each over the values `v` that the knot would make active. A fault is
the BAR0 offset of the register at fault with its cause. Which register a rule over several registers names follows R179; where that
leaves a choice, notes/assumptions/13.md. -/
namespace Sys2Proof.Machine

/-- A fault: offset, cause. -/
abbrev Fault' := Nat × Nat

/-- A fault of `a` when `c` holds. -/
def faultIf (c : Bool) (a cause : Nat) : List Fault' := if c then [(a, cause)] else []

/-- The raster rules (R79, R82) over the raster `r` for a canvas of `ch` lines; R334 and R254 for the image; the knot line (R173). -/
def tbFaults (im : Image) (v : Nat → Nat) : List Fault' :=
  let r := rasterOf v
  let ch := im.canvasH
  let total := r.vtotal * r.lineTicks + r.frameAdj
  let line := KNOT_CTL.LINE.get (v KNOT_CTL)
  faultIf (r.lineTicks < 128 || r.hsyncW < 1 || ((r.vtotal : Int) - ch) * r.lineTicks < 16000 || total < 3333333 || 66733333 < total ||
      !im.budgetOk r.lineTicks) TB_HTIMING0 1 ++
  faultIf (r.hactStart < r.hsyncW || r.hactEnd ≤ r.hactStart) TB_HTIMING1 1 ++
  faultIf (r.hactEnd ≤ r.hactStart || r.lineTicks < r.hactEnd) TB_HTIMING2 1 ++
  faultIf (r.vtotal < 64 || !im.rowTimingOk r.lineTicks r.hactStart (TB_LAUNCH.LAUNCH_OFS.get (v TB_LAUNCH)) r.vtotal) TB_VTIMING0 1 ++
  faultIf (r.vsyncStart < ch || r.vtotal ≤ r.vsyncStart || r.vsyncLines < 1 || r.vtotal < r.vsyncStart + r.vsyncLines) TB_VTIMING1 1 ++
  faultIf (r.lineTicks ≤ r.frameAdj) TB_FRAME_ADJ 1 ++
  faultIf (r.fracDen ≤ r.fracNum) TB_FRAC 1 ++
  faultIf (1 < TB_CTL.ROLE.get (v TB_CTL)) TB_CTL 1 ++
  faultIf (line != 0 && (line < ch || r.vtotal ≤ line || (r.vtotal - line) * r.lineTicks < 9600)) KNOT_CTL 7

/-- The Coil rules (R365). -/
def coilFaults (v : Nat → Nat) : List Fault' :=
  if COIL_CTL.EN.get (v COIL_CTL) = 0 then []
  else
    let lead := COIL_CTL.LEAD.get (v COIL_CTL)
    faultIf (lead = 0) COIL_CTL 1 ++ faultIf (addrOf v COIL_RING_BASE_LO COIL_RING_BASE_HI % 4096 != 0) COIL_RING_BASE_LO 1 ++
    faultIf (COIL_RING_SLOTS.SLOTS.get (v COIL_RING_SLOTS) < lead + 2) COIL_RING_SLOTS 1 ++
    faultIf (COIL_SLOT_CU.CU.get (v COIL_SLOT_CU) = 0) COIL_SLOT_CU 1

/-- The registers at `a d` of the dies hold different values (R122, R216, R235): the first die that differs from the lowest. -/
def differ (v : Nat → Nat) (dies : List Nat) (a : Nat → Nat) : List Fault' :=
  match dies with
  | [] => []
  | d :: t => match t.find? fun e => v (a e) != v (a d) with
    | some e => [(a e, 2)]
    | none => []

/-- The registers of layer n that are equal on all dies (R122). -/
def lyrSame (n : Nat) : List (Nat → Nat) :=
  [fun d => LYR_CTL d n, fun d => LYR_SRC_POS d n, fun d => LYR_SRC_SIZE d n, fun d => LYR_DST_POS d n, fun d => LYR_DST_SIZE d n,
    fun d => LYR_BASE_LO d n 0, fun d => LYR_BASE_HI d n 0, fun d => LYR_BASE_LO d n 1, fun d => LYR_BASE_HI d n 1,
    fun d => LYR_BASE_LO d n 2, fun d => LYR_BASE_HI d n 2, fun d => LYR_STRIDE0 d n, fun d => LYR_STRIDE1 d n, fun d => LYR_BLEND d n]

/-- The shadowed registers of layer n on die d. -/
def lyrRegs (d n : Nat) : List Nat := LYR_LMEM d n :: (lyrSame n).map (· d)

/-- A format code that the slot of `l` accepts (R127). -/
def Lyr.fmtOk (l : Lyr) : Bool := if l.video then fmtVideo l.fmt else fmtGraphic l.fmt

/-- The rules on layer n's values on die d (R123, R127, R129, R137, R144, R151), `pop` dies being populated; a format of one plane needs no
STRIDE1 (R144), and none is checked.
(DEDUCED: notes/assumptions/13.md) -/
def lyrFaults (v : Nat → Nat) (pop d n : Nat) : List Fault' :=
  let l := lyrOf v d n
  let plane (k : Nat) : Nat := if fmtPlanes l.fmt ≤ k then 0 else fmtBytes l.fmt (l.sx + l.sw)
  let geom := v (SRC_GEOM l.port)
  faultIf (1 < l.policy || l.sel = 3 || (l.sel != 0 && !l.video) || (l.sel != 1 && !l.fmtOk) || (l.sel = 1 && pop ≤ l.port))
    (LYR_CTL d n) 1 ++
  faultIf (l.linear && l.premult) (LYR_BLEND d n) 1 ++
  if !l.on then []
  else
    faultIf (l.video && (l.sw = 0 || l.sh = 0 || 8 * l.dw < l.sw || 16 * l.sw < l.dw || 16 * l.dh < l.sh || 16 * l.sh < l.dh))
      (LYR_SRC_SIZE d n) 1 ++
    (if l.sel = 0 && l.fmtOk then
      faultIf ((fmt420 l.fmt && (l.sx % 2 != 0 || l.sy % 2 != 0 || l.sw % 2 != 0 || l.sh % 2 != 0)) ||
        (fmt422 l.fmt && (l.sx % 2 != 0 || l.sw % 2 != 0))) (LYR_SRC_POS d n) 1 ++
      faultIf (l.stride0 % 256 != 0 || l.stride0 < plane 0) (LYR_STRIDE0 d n) 1 ++
      faultIf (2 ≤ fmtPlanes l.fmt && (l.stride1 % 256 != 0 || l.stride1 < plane 1)) (LYR_STRIDE1 d n) 1 ++
      ((List.range (fmtPlanes l.fmt)).flatMap fun k => faultIf (l.bases.getD k 0 % 256 != 0) (LYR_BASE_LO d n k) 1)
     else []) ++
    (if l.sel = 1 && l.port < pop then
      faultIf (SRC_GEOM.W.get geom < l.sx + l.sw || SRC_GEOM.H.get geom < l.sy + l.sh) (LYR_SRC_POS d n) 1
     else [])

/-- need_n of R142 for layer `l` whose destination meets a die's section over `w` columns. -/
def Lyr.need (l : Lyr) (w : Nat) : Nat :=
  let lb := if l.sel = 0 then fmtL l.fmt else 6
  if l.video then 6 * ((l.sh + l.dh - 1) / l.dh) * w * lb else 2 * w * lb

/-- The slots whose pages count on die d, with their need: enabled by the image, on, meeting the section (R143); a format that its slot does not
accept has no need. -/
def lmemSlots (im : Image) (v : Nat → Nat) (d0 d : Nat) : List (Nat × Nat) :=
  (List.range 7).filterMap fun n =>
    let l := lyrOf v d0 n
    let m := l.dstIn (im.sect d)
    if bitOf im.layerEn n && l.on && !m.empty then some (n, if l.sel != 0 || l.fmtOk then l.need m.w else 0) else none

/-- The line memory rules (R142, R143) on die d. (DEDUCED: notes/assumptions/13.md) -/
def lmemFaults (im : Image) (v : Nat → Nat) (d0 d : Nat) : List Fault' :=
  let slots := lmemSlots im v d0 d
  let pages (n : Nat) : Nat := LYR_LMEM.PAGES.get (v (LYR_LMEM d n))
  let slot7 := if bitOf im.layerEn 7 then (16 * (im.sect d).w + 65535) / 65536 else 0
  (slots.flatMap fun e => faultIf (pages e.1 * 65536 < e.2) (LYR_LMEM d e.1) 3) ++
  match slots with
  | [] => []
  | e :: _ => faultIf (96 < (slots.map fun x => pages x.1).sum + slot7) (LYR_LMEM d e.1) 3

/-- The source port rules (SRC_STRIDE, SRC_GEOM, R118) on die d. -/
def State.srcFaults (s : State) (v : Nat → Nat) (knot : Bool) (d : Nat) : List Fault' :=
  let w := SRC_GEOM.W.get (v (SRC_GEOM d))
  let st := SRC_STRIDE.STRIDE.get (v (SRC_STRIDE d))
  faultIf (16384 < w || 16384 < SRC_GEOM.H.get (v (SRC_GEOM d))) (SRC_GEOM d) 1 ++
  faultIf (st % 256 != 0 || st < w) (SRC_STRIDE d) 1 ++
  if knot then
    [s.sd d, s.sr d].flatMap fun k =>
      if k = 3 then []
      else faultIf (v (SRC_BUF_LO d k) != s.reg (SRC_BUF_LO d k)) (SRC_BUF_LO d k) 5 ++
        faultIf (v (SRC_BUF_HI d k) != s.reg (SRC_BUF_HI d k)) (SRC_BUF_HI d k) 5
  else []

/-- A ZBC 2:1 surface of `w` columns breaks R159 with this stride. -/
def strideBad (st w : Nat) : Bool := st % 256 != 0 || st < (w + 7) / 8 * 96

/-- The writeback and picture check rules (R159, R341) on die d. -/
def wbFaults (im : Image) (v : Nat → Nat) (d : Nat) : List Fault' :=
  let c := v (DIE_WB_CTL d)
  faultIf (1 < DIE_WB_CTL.PIN_POLICY.get c) (DIE_WB_CTL d) 1 ++
  faultIf (DIE_WB_CTL.EN.get c = 1 && strideBad (DIE_WB_STRIDE.STRIDE.get (v (DIE_WB_STRIDE d))) (im.sect d).w) (DIE_WB_STRIDE d) 1 ++
  ((List.range 16).flatMap fun k => faultIf (2 ≤ PCK_CTL.STAGE.get (v (PCK_CTL d k))) (PCK_CTL d k) 1)

/-- A bank is selected that is not OK and into which no load runs (R202, R233). -/
def State.bankBad (s : State) (status bank : Nat) : Bool :=
  !(s.b status LAMP_STATUS.LOAD_BUSY && s.f status LAMP_STATUS.LOAD_BANK = bank) &&
    !(if bank = 0 then s.b status LAMP_STATUS.BANK0_OK else s.b status LAMP_STATUS.BANK1_OK)

/-- The 15 thresholds of die d in order (R226). -/
def bandList (v : Nat → Nat) (d : Nat) : List Int :=
  (List.range 15).map fun m => sext 8 (v (LAMP_OD_BAND d (m / 4)) / 2 ^ (8 * (m % 4)))

/-- The first threshold that lies below the one before it. -/
def bandFall (v : Nat → Nat) (d : Nat) : Option Nat :=
  (List.range 15).find? fun m => m != 0 && (bandList v d).getD m 0 < (bandList v d).getD (m - 1) 0

/-- The lamp rules (R216, R235) on die d. -/
def State.lampFaults (s : State) (im : Image) (v : Nat → Nat) (d : Nat) : List Fault' :=
  let r := im.sect d
  let c := v (LAMP_CTL d)
  let o := v (LAMP_OUT_CTL d)
  let tw := LAMP_TILE_GEOM.TW.get (v (LAMP_TILE_GEOM d))
  let th := LAMP_TILE_GEOM.TH.get (v (LAMP_TILE_GEOM d))
  let tiled := LAMP_CTL.EN_CC.get c = 1 || LAMP_CTL.EN_SEAM.get c = 1
  let geomBad := tw < 8 || 1024 < tw || th < 8 || 1024 < th
  let ps := LAMP_PIX_STRIDE.STRIDE.get (v (LAMP_PIX_STRIDE d))
  let od := LAMP_CTL.EN_OD.get c = 1
  (if r.empty then []
   else
    faultIf (tiled && geomBad) (LAMP_TILE_GEOM d) 1 ++
    faultIf (tiled && !geomBad && LAMP_TILE_PITCH.PITCH.get (v (LAMP_TILE_PITCH d)) < (r.x + r.w - 1) / tw - r.x / tw + 1)
      (LAMP_TILE_PITCH d) 1 ++
    faultIf (LAMP_CTL.EN_CC.get c = 1 && (ps % 256 != 0 || ps < 12 * r.w)) (LAMP_PIX_STRIDE d) 1 ++
    faultIf (s.bankBad (LAMP_STATUS d) (LAMP_CTL.EOTF_BANK.get c)) (LAMP_CTL d) 1) ++
  faultIf (od && (LAMP_OUT_CTL.OD_SETS.get o = 0 || LAMP_OUT_CTL.OD_SETS.get o ≤ LAMP_OUT_CTL.DEF_SET.get o)) (LAMP_OUT_CTL d) 1 ++
  faultIf (od && strideBad (LAMP_OD_HIST_STRIDE.STRIDE.get (v (LAMP_OD_HIST_STRIDE d))) r.w) (LAMP_OD_HIST_STRIDE d) 1 ++
  faultIf (LAMP_CTL.EN_LOWGREY.get c = 1 && [LAMP_LG_KNEE.K0, LAMP_LG_KNEE.K1, LAMP_LG_KNEE.K2].any fun f =>
    f.get (v (LAMP_LG_KNEE d)) < 6 || 20 < f.get (v (LAMP_LG_KNEE d))) (LAMP_LG_KNEE d) 1 ++
  (match bandFall v d with
    | some m => [(LAMP_OD_BAND d (m / 4), 1)]
    | none => []) ++
  faultIf (s.bankBad (LAMP_OUT_STATUS d) (LAMP_OUT_CTL.OUT_BANK.get o)) (LAMP_OUT_CTL d) 1

/-- The registers that R216 and R235 hold equal on all dies. -/
def lampSame : List (Nat → Nat) :=
  [LAMP_OUT_CTL, LAMP_LG_KNEE, LAMP_CONC_DEFW] ++ ((List.range 4).map fun m d => LAMP_OD_BAND d m) ++
    ((List.range 16).map fun m d => LAMP_DITHER_CUBE d m)

/-- Every fault of the values `v` with image `im` (R179, R83); `knot`: R118 applies. (DEDUCED: notes/assumptions/13.md) -/
def State.shadowFaults (s : State) (im : Image) (v : Nat → Nat) (knot : Bool) : List Fault' :=
  let dies := s.liveDies
  let busy := dies.filter fun d => !(im.sect d).empty
  tbFaults im v ++ coilFaults v ++
  (match dies with
    | [] => []
    | d0 :: _ =>
      ((List.range 7).flatMap fun n =>
        if bitOf im.layerEn n then (lyrSame n).flatMap (differ v dies) ++ lyrFaults v s.dies d0 n else []) ++
      dies.flatMap fun d => lmemFaults im v d0 d) ++
  (dies.flatMap fun d => s.srcFaults v knot d ++ wbFaults im v d ++ s.lampFaults im v d) ++
  differ v busy LAMP_CTL ++ differ v busy LAMP_TILE_GEOM ++ lampSame.flatMap (differ v dies)

/-- The fault of a list with the lowest offset, and there the lowest cause. (DEDUCED: notes/assumptions/13.md) -/
def firstFault : List Fault' → Option Fault'
  | [] => none
  | f :: t => match firstFault t with
    | none => some f
    | some g => if f.1 < g.1 ∨ (f.1 = g.1 ∧ f.2 ≤ g.2) then some f else some g

end Sys2Proof.Machine
end

