-- ==== Sys2Proof/Machine/Coil.lean ====
section
/-! DEFINITION. The content store and the Coil stream (R351 to R364): drives and superblocks, clip table and playlists, the schedule, the
selection at the knot line, the ring. -/
namespace Sys2Proof.Machine

/-- Put the content store back. -/
def State.setCoil (s : State) (c : CoilSt) : State := { s with dev := { s.dev with coil := c } }

/-- Set a bit of COIL_EVT and raise COIL_EVENT. -/
def State.coilEvt (s : State) (f : Fd) : State := (s.setF COIL_EVT f 1).ev .coilEvent

/-! ### Drives (R352 to R354) -/

/-- Drive byte `a` of the drive on die d. -/
def State.diskByte (s : State) (d a : Nat) : Byte := s.dev.coil.disk.look 0 (d * 2 ^ 56 + a)

/-- `n` drive bytes from `a`. -/
def State.diskRead (s : State) (d a n : Nat) : List Byte := (List.range n).map fun i => s.diskByte d (a + i)

/-- Write drive bytes from `a` on. -/
def State.diskWrite (s : State) (d a : Nat) (bs : List Byte) : State :=
  s.setCoil { s.dev.coil with disk := bs.zipIdx.foldl (fun m b => m.put 0 (d * 2 ^ 56 + a + b.2) b.1) s.dev.coil.disk }

/-- The drive on die d's root port. -/
def State.drive (s : State) (d : Nat) : DriveSt := s.dev.coil.drives.look DriveSt.none' d

/-- Put the drive on die d's root port back. -/
def State.setDrive (s : State) (d : Nat) (x : DriveSt) : State := s.setCoil { s.dev.coil with drives := s.dev.coil.drives.put DriveSt.none' d x }

/-- The superblock copy in `bs`, if it is valid (R353). -/
def parseSuper (bs : List Byte) : Option Superblock :=
  let w (i : Nat) := wordAt bs (4 * i)
  if w 0 = 0x454F485A && bits (w 1) 31 24 = 1 && (crc32c (bs.take 60)).toNat = w 15 then
    some ⟨bits (w 1) 15 8, bits (w 1) 7 0, w 2, w 3, w 4, w 5, bits (w 6) 15 0, w 7, bits (w 8) 15 0, w 9, w 10⟩
  else none

/-- The superblock that the drive on die d shows: the valid copy with the larger GEN, that of CU 0 when they are equal. -/
def State.findSuper (s : State) (d : Nat) : Option Superblock :=
  match parseSuper (s.diskRead d 0 64), parseSuper (s.diskRead d 4096 64) with
  | some a, some b => if a.gen < b.gen then some b else some a
  | some a, none => some a
  | none, b => b

/-- The drive on die d is ready. -/
def State.driveReady (s : State) (d : Nat) : Bool := s.b (COIL_DRV_STAT d) COIL_DRV_STAT.READY && s.live d

/-- The drive on die d holds a superblock and is ready. -/
def State.hasSuper (s : State) (d : Nat) : Bool := s.driveReady d && (s.drive d).sb.isSome

/-- The drive on die d is a member of the store (R353, R354). -/
def State.member (s : State) (d : Nat) : Bool :=
  s.hasSuper d &&
    match (s.drive d).sb, (s.drive (1 - d)).sb with
    | some a, some b => a.drives != 2 || !s.hasSuper (1 - d) || a.setId = b.setId
    | _, _ => true

/-- The die whose port has drive x. -/
def State.dieOfDrive (s : State) (x : Nat) : Option Nat :=
  [0, 1].find? fun d => s.member d && match (s.drive d).sb with
    | some b => b.idx = x
    | none => false

/-- The member from which the tables are read: die 0's, or the other where it is none or its reads have failed (R354). -/
def State.tableDie (s : State) : Option Nat := [0, 1].find? fun d => s.member d && !(s.drive d).tabBad

/-- READY falls to 0 (R354). -/
def State.storeLost (s : State) : State :=
  if s.b COIL_STATUS COIL_STATUS.READY then (s.setF COIL_STATUS COIL_STATUS.READY 0).coilEvt COIL_EVT.NO_STORE else s

/-- COIL_DRV_STAT.MEMBER, COIL_DRV_CAP and the DRV_UP bits follow the members; READY falls with the last member whose
tables are readable (R354). -/
def State.membersUpdate (s : State) : State :=
  let s := [0, 1].foldl (fun s d =>
    (s.setB (COIL_DRV_STAT d) COIL_DRV_STAT.MEMBER (s.member d)).setReg (COIL_DRV_CAP d) (match (s.drive d).sb with
      | some b => b.cap
      | none => 0)) s
  let s := (s.setB COIL_STATUS COIL_STATUS.DRV0_UP (s.dieOfDrive 0).isSome).setB COIL_STATUS COIL_STATUS.DRV1_UP (s.dieOfDrive 1).isSome
  if s.tableDie.isNone then s.storeLost else s

/-- A drive of this kind is ready: any other format of namespace 1 makes it not ready (R351). -/
def driveUsable (id : NvmeId) : Bool := id.ready && (id.lba = 512 || id.lba = 4096) && id.md = 0

/-- The most bytes of one command: the smaller of MDTS and 256 KiB (R351). -/
def nvmeMax (id : NvmeId) : Nat := if id.mdts = 0 then 2 ^ 18 else min (2 ^ (12 + id.mdts)) (2 ^ 18)

/-- The commands that carry `n` bytes from drive byte `a` on, each as first LBA and number of LBAs. -/
def nvmeCmds (id : NvmeId) (a n : Nat) : List (Nat × Nat) :=
  (List.range ((n + nvmeMax id - 1) / nvmeMax id)).map fun i =>
    let o := i * nvmeMax id
    ((a + o) / id.lba, (min (nvmeMax id) (n - o) + id.lba - 1) / id.lba)

/-- The I/O queue pair of the drive on die d: entries of each queue, and commands that may be outstanding (R351). -/
def nvmeQueue : Nat × Nat := (256, 64)

/-- A count of queue entries goes on by `n`; bit 8 is the phase of the round. -/
def queueAdd (q n : Nat) : Nat := (q + n) % (2 * nvmeQueue.1)

/-- The Read commands of `n` bytes from drive byte `a` on start on the drive on die d; at most 64 of them are submitted (R351, R360). -/
def State.nvmeRead (s : State) (d a n : Nat) : State :=
  let x := s.drive d
  let cs := nvmeCmds x.id a n
  s.setDrive d { x with io := cs, sq := queueAdd x.sq (min nvmeQueue.2 cs.length) }

/-- The oldest Read command of the drive on die d that is out completes; the next one of the frame is submitted. -/
def DriveSt.complete (x : DriveSt) : DriveSt :=
  match x.io with
  | [] => x
  | _ :: t => { x with io := t, cq := queueAdd x.cq 1, sq := if nvmeQueue.2 < x.io.length then queueAdd x.sq 1 else x.sq }

/-- Every command of the frame has completed. -/
def DriveSt.completeAll (x : DriveSt) : DriveSt := Nat.repeat DriveSt.complete x.io.length x

/-- `n` commands of a store job run on the drive on die d, through the same queue pair (R352). -/
def State.nvmeRun (s : State) (d n : Nat) : State :=
  let x := s.drive d
  s.setDrive d { x with sq := queueAdd x.sq n, cq := queueAdd x.cq n }

/-- The drive on die d goes down (R352). -/
def State.driveDown (s : State) (d : Nat) : State :=
  let s := (s.setF (COIL_DRV_STAT d) COIL_DRV_STAT.READY 0).setDrive d { s.drive d with down := true, resetting := false, io := [] }
  (s.coilEvt COIL_EVT.DRIVE_DOWN).membersUpdate

/-- An I/O error of the drive on die d; the third in a row takes it down. -/
def State.ioErr (s : State) (d : Nat) : State :=
  let n := (s.drive d).errs + 1
  let s := ((s.count COIL_IO_ERR_CNT).coilEvt COIL_EVT.IO_ERR).setDrive d { s.drive d with errs := n }
  if 3 ≤ n && !(s.drive d).down then s.driveDown d else s

/-- The result of a command of the drive on die d (R352). -/
def State.nvmeResult (s : State) (d status : Nat) : State :=
  if 2 ≤ d || !s.driveReady d then s
  else if status = 0 then s.setDrive d { s.drive d with errs := 0 }
  else (s.setF (COIL_DRV_STAT d) COIL_DRV_STAT.STATUS status).ioErr d

/-- A command of the drive on die d fails: while a playlist is being read from it and no frame is, the table read has failed, and the tables are
read from the other member (R354). (DEDUCED: notes/assumptions/35.md) -/
def State.tableFail (s : State) (d : Nat) : State :=
  if s.dev.coil.loading.isSome && s.tableDie = some d && (s.drive d).io.isEmpty then
    (s.setDrive d { s.drive d with tabBad := true }).membersUpdate
  else s

/-- An NVMe command of the drive on die d completes with `status`. -/
def State.nvmeDone (s : State) (d status : Nat) : State :=
  if 2 ≤ d || !s.driveReady d then s
  else
    let s := if status = 0 then s else s.tableFail d
    (s.setDrive d (s.drive d).complete).nvmeResult d status

/-- A command of the drive on die d is not complete within 500 ms. -/
def State.nvmeLate (s : State) (d : Nat) : State := if 2 ≤ d || !s.driveReady d then s else s.ioErr d

/-- An NVMe command of the drive on die d is not complete within 500 ms. -/
def State.nvmeTimeout (s : State) (d : Nat) : State :=
  if 2 ≤ d || !s.driveReady d then s else ((s.tableFail d).setDrive d (s.drive d).complete).nvmeLate d

/-! ### Clip table and playlists (R355 to R357) -/

/-- Clip entry in `bs` under superblock `b` (R355). -/
def parseClip (b : Superblock) (bs : List Byte) : Clip :=
  let w (i : Nat) := wordAt bs (4 * i)
  let h := bits (w 0) 31 16
  let x := bits (w 0) 15 0
  let drv := bits (w 1) 9 8
  let fmt := bits (w 1) 4 0
  let stride := bits (w 4) 23 0
  let blk := match zbcForm fmt with
    | some z => z.size
    | none => 0
  let frames := if drv = 2 then (w 3 + 1) / 2 else w 3
  ⟨x, h, drv, fmt, w 2, w 3, stride, w 5,
    1 ≤ h && h ≤ 16384 && 1 ≤ x && x ≤ 32768 && bits (w 1) 31 10 = 0 && bits (w 1) 7 5 = 0 && drv != 3 && !(drv = 2 && b.drives = 1) && blk != 0 &&
      1 ≤ w 3 && bits (w 4) 31 24 = 0 && stride % 256 = 0 && (x + 7) / 8 * blk ≤ stride && (stride * ((h + 3) / 4) + 4095) / 4096 ≤ w 5 &&
      w 2 + frames * w 5 ≤ b.cap && (crc32c (bs.take 28)).toNat = w 7⟩

/-- The clip table of the member on die d. -/
def State.readClips (s : State) (d : Nat) : List Clip :=
  match (s.drive d).sb with
  | some b => (List.range (min 4096 b.clipN)).map fun i => parseClip b (s.diskRead d (b.clipCu * 4096 + 32 * i) 32)
  | none => []

/-- A playlist of the member on die d (R356); a playlist beyond the table or whose header fails has no entries. -/
def State.readPlaylist (s : State) (d p : Nat) : Playlist :=
  match (s.drive d).sb with
  | none => ⟨p, false, [], false⟩
  | some b =>
    let h := s.diskRead d (b.plCu * 4096 + 16 * p) 16
    if b.plN ≤ p || (crc32c (h.take 12)).toNat != wordAt h 12 then ⟨p, false, [], false⟩
    else ⟨p, bits (wordAt h 0) 16 16 = 1, (List.range (min 4096 (bits (wordAt h 0) 15 0))).map fun e =>
      let r := s.diskRead d (wordAt h 4 * 4096 + 16 * e) 16
      ⟨bits (wordAt r 0) 23 16, bits (wordAt r 0) 11 0, wordAt r 4, wordAt r 8, (crc32c (r.take 12)).toNat = wordAt r 12⟩, false⟩

/-- The playlist in playlist buffer k. -/
def State.plBuf (s : State) (k : Nat) : Option Playlist := s.dev.coil.pls.look none k

/-- Put playlist buffer k. -/
def State.setPlBuf (s : State) (k : Nat) (p : Option Playlist) : State := s.setCoil { s.dev.coil with pls := s.dev.coil.pls.put none k p }

/-- A playlist buffer holds playlist p. -/
def State.plHeld (s : State) (k p : Nat) : Bool := match s.plBuf k with
  | some x => x.idx = p
  | none => false

/-- The shadow COIL_CTL.PL differs from the playlist that the active buffer holds: it is loaded into the other one, while the store is
READY (R357). (DEDUCED: notes/assumptions/35.md) -/
def State.plCheck (s : State) : State :=
  let p := COIL_CTL.PL.get (s.shW COIL_CTL).toNat
  let c := s.dev.coil
  if !s.b COIL_STATUS COIL_STATUS.READY || s.plHeld c.act p || s.plHeld (1 - c.act) p || c.loading.isSome then s
  else (s.setCoil { c with loading := some p }).setF COIL_STATUS COIL_STATUS.PL_LOADING 1

/-- The shadow COIL_CTL selects a playlist that is still loading (R357). -/
def State.plWaits (s : State) : Bool :=
  let p := COIL_CTL.PL.get (s.shW COIL_CTL).toNat
  s.b COIL_STATUS COIL_STATUS.PL_LOADING && !s.plHeld s.dev.coil.act p && !s.plHeld (1 - s.dev.coil.act) p

/-- The playlist load ends, read from the member whose tables are readable. A playlist that the active COIL_CTL selects already (its knot came
before READY) is in the active buffer from now on. (DEDUCED: notes/assumptions/35.md) -/
def State.plLoaded (s : State) : State :=
  match s.dev.coil.loading, s.tableDie with
  | some p, some d =>
    let k := s.dev.coil.act
    let s := (s.setPlBuf (1 - k) (some (s.readPlaylist d p))).setF COIL_STATUS COIL_STATUS.PL_LOADING 0
    let now := s.f COIL_CTL COIL_CTL.PL = p && !s.plHeld k p
    (s.setCoil { s.dev.coil with loading := none, act := if now then 1 - k else k }).plCheck
  | _, _ => s

/-- The drive on die d has a link, and shows `id` when its controller is initialised; it is ready when R351 allows it, and holds `content`
where given, else what it held (R352, R357); table reads of the members in `bad` fail. DRIVE_UP is for a drive that is ready again. -/
def State.driveUp (s : State) (d : Nat) (id : NvmeId) (content : List (Nat × List Byte)) (bad : List Nat) : State :=
  if 2 ≤ d || !s.live d || ((s.drive d).down && !(s.drive d).resetting) then s
  else
    let s := content.foldl (fun s e => s.diskWrite d e.1 e.2) s
    let s := (s.setF (COIL_DRV_STAT d) COIL_DRV_STAT.PRESENT 1).setB (COIL_DRV_STAT d) COIL_DRV_STAT.READY (driveUsable id)
    let again := (s.drive d).seen
    let s := s.setDrive (1 - d) { s.drive (1 - d) with tabBad := bad.contains (1 - d) }
    let s := (s.setDrive d
      ⟨if driveUsable id then s.findSuper d else none, 0, false, false, id, again || driveUsable id, bad.contains d, [], 0, 0⟩).membersUpdate
    if !s.hasSuper d then s
    else
      let s := if again then s.coilEvt COIL_EVT.DRIVE_UP else s
      match s.tableDie with
      | some t => ((s.setCoil { s.dev.coil with clips := s.readClips t }).setF COIL_STATUS COIL_STATUS.READY 1).pwrClamp.plCheck
      | none => s.storeLost

/-- A reset of a down drive by CC.EN starts (R352). -/
def State.driveReset (s : State) (d : Nat) : State :=
  if (s.drive d).down then s.setDrive d { s.drive d with resetting := true, io := [], sq := 0, cq := 0 } else s

/-! ### Schedule (R358) -/

/-- The clip of an entry. -/
def State.clip (s : State) (i : Nat) : Option Clip := s.dev.coil.clips[i]?

/-- The entry is valid (R356). -/
def State.entryOk (s : State) (e : PlEntry) : Bool :=
  match s.clip e.clip with
  | some c => e.ok && c.ok && 1 ≤ e.rep && 1 ≤ e.count && e.first + e.count ≤ c.frames && c.frameCu ≤ s.f COIL_SLOT_CU COIL_SLOT_CU.CU
  | none => false

/-- The playlist in force. -/
def State.playlist (s : State) : Playlist := (s.plBuf s.dev.coil.act).getD ⟨0, false, [], false⟩

/-- The valid entries of the playlist in force, with their place. -/
def State.validEntries (s : State) : List (Nat × PlEntry) :=
  (s.playlist.entries.zipIdx.map fun e => (e.2, e.1)).filter fun e => s.entryOk e.2

/-- The ORIGIN in force. (DEDUCED: notes/assumptions/35.md) -/
def State.origin (s : State) : Nat := s.pair COIL_ORIGIN_LO COIL_ORIGIN_HI 16

/-- Frames that the valid entries play. -/
def State.plTotal (s : State) : Nat := s.validEntries.foldl (fun n e => n + e.2.count * e.2.rep) 0

/-- The place in the list of entries after `t` frames: entry, clip, clip frame. -/
def entryAt (t : Nat) : List (Nat × PlEntry) → Option (Nat × Nat × Nat)
  | [] => none
  | (k, e) :: r => if t < e.count * e.rep then some (k, e.clip, e.first + t / e.rep) else entryAt (t - e.count * e.rep) r

/-- sched(F): entry, clip and clip frame, and whether the playlist has ended (R358). -/
def State.sched (s : State) (f : Nat) : Option (Nat × Nat × Nat) × Bool :=
  let t : Int := sext 48 ((f + 2 ^ 48 - s.origin) % 2 ^ 48)
  let total := s.plTotal
  if t < 0 || total = 0 then (none, false)
  else if t.toNat < total then (entryAt t.toNat s.validEntries, false)
  else if s.playlist.loop then (entryAt (t.toNat % total) s.validEntries, false)
  else (entryAt (total - 1) s.validEntries, true)

/-! ### Ring (R360, R361) -/

/-- Ring slot k. -/
def State.slot (s : State) (k : Nat) : Option RingSlot := s.dev.coil.ring.look none k

/-- Put ring slot k; COIL_STATUS.FILLED counts the full slots. -/
def State.setSlot (s : State) (k : Nat) (r : Option RingSlot) : State :=
  let s := s.setCoil { s.dev.coil with ring := s.dev.coil.ring.put none k r }
  s.setF COIL_STATUS COIL_STATUS.FILLED (s.dev.coil.ring.filter fun e => match e.2 with
    | some r => r.full
    | none => false).length

/-- The number of slots in the ring. -/
def State.slots (s : State) : Nat := s.f COIL_RING_SLOTS COIL_RING_SLOTS.SLOTS

/-- The slot that holds or takes frame `fr` of clip `c`. -/
def State.slotWith (s : State) (c fr : Nat) (full : Bool) : Option Nat :=
  (List.range s.slots).find? fun k => match s.slot k with
    | some r => r.idx = c && r.frame = fr && (r.full || !full)
    | none => false

/-- The clip frames that the next LEAD frames after frame `f` schedule. -/
def State.ahead (s : State) (f : Nat) : List (Nat × Nat) :=
  (List.range (s.f COIL_CTL COIL_CTL.LEAD)).filterMap fun i => (s.sched ((f + 1 + i) % 2 ^ 48)).1.map fun e => e.2

/-- Slot k is free in frame `f` (R360). -/
def State.slotFree (s : State) (f k : Nat) : Bool :=
  match s.slot k with
  | none => true
  | some r => r.full && s.dev.coil.shown != some k && (s.dev.coil.released.map (·.1)) != some k && !(s.ahead f).contains (r.idx, r.frame)

/-- The die whose drive holds frame `fr` of a clip, and the drive byte where it starts (R355). -/
def State.frameAt (s : State) (c : Clip) (fr : Nat) : Option (Nat × Nat) :=
  let x := if c.drv = 2 then fr % 2 else c.drv
  let cu := c.start + (if c.drv = 2 then fr / 2 else fr) * c.frameCu
  (s.dieOfDrive x).map fun d => (d, cu * 4096)

/-- Start filling the next clip frame that the ring lacks, in a free slot; one at a time. Its Read commands go to the drive. -/
def State.coilFetch (s : State) : State :=
  let f := s.tbFrame
  let busy := (List.range s.slots).any fun k => match s.slot k with
    | some r => !r.full
    | none => false
  if !s.coilRuns || busy then s
  else match (s.ahead f).find? fun e => (s.slotWith e.1 e.2 false).isNone && match s.clip e.1 with
      | some c => (s.frameAt c e.2).isSome
      | none => false with
    | none => s
    | some e =>
      match s.clip e.1, (List.range s.slots).find? (s.slotFree f) with
      | some c, some k =>
        let s := s.setSlot k (some ⟨c, e.1, e.2, false⟩)
        match s.frameAt c e.2 with
        | some (d, o) => s.nvmeRead d o (c.frameCu * 4096)
        | none => s
      | _, _ => s

/-- The frame that the drive on die d holds at drive byte `o` lies in the ring at `a`, one write for each Read command (R351, R360). -/
def State.ringWrite (s : State) (d o a n : Nat) : State :=
  let x := s.drive d
  (nvmeCmds x.id o n).foldl (fun s c =>
    (s.write ⟨4, false, false, none, dieOf a⟩ (a + (c.1 * x.id.lba - o)) (s.diskRead d (c.1 * x.id.lba) (c.2 * x.id.lba))).1)
    (s.setDrive d x.completeAll)

/-- The Read commands of a frame that is discarded are no longer awaited. -/
def State.readsEnd (s : State) : State := [0, 1].foldl (fun s d => s.setDrive d { s.drive d with io := [] }) s

/-- The slot being filled is full, or its read ended in an I/O error and the slot is freed (R360). -/
def State.ringFilled (s : State) (err : Bool) : State :=
  match (List.range s.slots).find? fun k => match s.slot k with
    | some r => !r.full
    | none => false with
  | none => s
  | some k =>
    match s.slot k with
    | none => s
    | some r =>
      match (if err then none else s.frameAt r.clip r.frame) with
      | none => ((s.setSlot k none).readsEnd).coilFetch
      | some (d, o) =>
        let a := ringAddr s.reg k
        let s := s.ringWrite d o a (r.clip.frameCu * 4096)
        (s.setSlot k (some { r with full := true })).coilFetch

/-- Show ring slot k from the next frame on. (DEDUCED: notes/assumptions/35.md) -/
def State.coilShow (s : State) (k : Option Nat) (entry : Nat) : State :=
  let c := s.dev.coil
  let rel := if c.shown = k then c.released else match c.shown with
    | some o => some (o, s.dev.tb.place)
    | none => c.released
  let s := (s.setCoil { c with shown := k, released := rel, entry := entry }).setF COIL_STATUS COIL_STATUS.ENTRY entry
  s.setReg COIL_POS (match k.bind s.slot with
    | some r => r.frame
    | none => 0xFFFFFFFF)

/-- The selection at the knot line of frame F − 1 (R359). (DEDUCED: notes/assumptions/35.md) -/
def State.coilSelect (s : State) : State :=
  let f := s.nextNumber
  if !s.coilRuns then (s.setCoil { s.dev.coil with last := none }).setF COIL_STATUS COIL_STATUS.RUN 0
  else
    let s := s.setF COIL_STATUS COIL_STATUS.RUN 1
    let p := s.playlist
    let s := if !p.told && p.entries.any fun e => !s.entryOk e then
        (s.setPlBuf s.dev.coil.act (some { p with told := true })).coilEvt COIL_EVT.ENTRY_BAD
      else s
    let s := match s.dev.coil.last with
      | some l => if f = (l + 1) % 2 ^ 48 then s else s.coilEvt COIL_EVT.STEP
      | none => s
    let s := s.setCoil { s.dev.coil with last := some f }
    let r := s.sched f
    let s := if r.2 && !s.b COIL_STATUS COIL_STATUS.ENDED then (s.setF COIL_STATUS COIL_STATUS.ENDED 1).coilEvt COIL_EVT.END else s
    let s := match r.1 with
      | none => (s.setF COIL_STATUS COIL_STATUS.LATE 0).coilShow none 0
      | some e =>
        match s.slotWith e.2.1 e.2.2 true with
        | some k => (s.setF COIL_STATUS COIL_STATUS.LATE 0).coilShow (some k) e.1
        | none => ((s.setF COIL_STATUS COIL_STATUS.LATE 1).count COIL_LATE_CNT).coilEvt COIL_EVT.LATE
    s.coilFetch

/-! ### The knot and the modes -/

/-- The ring's pin entry with the active values (R361). -/
def State.coilPin (s : State) : Pin :=
  let a := ringAddr s.reg 0
  ⟨.coil 0, a, a + s.slots * s.f COIL_SLOT_CU COIL_SLOT_CU.CU * 4096, 1, none⟩

/-- COIL_ORIGIN takes the value in force (R358). (DEDUCED: notes/assumptions/35.md) -/
def State.setOrigin (s : State) : State :=
  let o := if s.b COIL_CTL COIL_CTL.ORIGIN_MODE then s.dev.coil.epoch else s.pair COIL_START_LO COIL_START_HI 16
  if o = s.origin then s else (s.setPair COIL_ORIGIN_LO COIL_ORIGIN_HI 16 o).setF COIL_STATUS COIL_STATUS.ENDED 0

/-- An event from which ORIGIN_MODE = 1 counts, at the knot line of frame `n`. -/
def State.coilEpoch (s : State) (n : Nat) : State :=
  (s.setCoil { s.dev.coil with epoch := (n + 1 + s.f COIL_CTL COIL_CTL.LEAD) % 2 ^ 48 }).setOrigin

/-- The part enters Coil mode at the knot line of frame `n`. -/
def State.coilEnter (s : State) (n : Nat) : State := s.coilEpoch n

/-- A knot of frame `n` was applied; `old` are the active values before it (R357, R358, R361). -/
def State.coilKnot (s : State) (n : Nat) (old : Nat → Nat) : State :=
  let was := COIL_CTL.EN.get (old COIL_CTL) = 1
  let now := s.b COIL_CTL COIL_CTL.EN
  let pl := s.f COIL_CTL COIL_CTL.PL
  let plNew := pl != COIL_CTL.PL.get (old COIL_CTL)
  let moved := [COIL_RING_BASE_LO, COIL_RING_BASE_HI, COIL_RING_SLOTS, COIL_SLOT_CU].any fun a => s.reg a != old a
  let s := if !was && now && !s.b COIL_STATUS COIL_STATUS.READY then s.coilEvt COIL_EVT.NO_STORE else s
  let s := if s.plHeld (1 - s.dev.coil.act) pl && !s.plHeld s.dev.coil.act pl then s.setCoil { s.dev.coil with act := 1 - s.dev.coil.act } else s
  let s := if plNew then s.setF COIL_STATUS COIL_STATUS.ENDED 0 else s
  let s := if (!was && now) || plNew then s.coilEpoch n else s.setOrigin
  let s := if moved then
      ((s.setCoil { s.dev.coil with ring := [], shown := none, released := none }).setF COIL_STATUS COIL_STATUS.FILLED 0).setReg COIL_POS 0xFFFFFFFF
    else s
  let s := if was && (!now || moved) then s.retirePins (fun o => o = .coil 0) else s
  let s := if now && (!was || moved) then s.addPins [s.coilPin] else s
  let s := if now then s else s.coilShow none 0
  s.plCheck

/-- An NVMe command completes. -/
def execNvmeCompletion (d status : Nat) (s : State) : Out := .next (s.runDev (·.nvmeDone d status))

/-- An NVMe command is not complete within 500 ms. -/
def execNvmeCmdTimeout (d : Nat) (s : State) : Out := .next (s.runDev (·.nvmeTimeout d))

/-- A down drive is reset. -/
def execDriveReset (d : Nat) (s : State) : Out := .next (s.runDev (·.driveReset d))

/-- A drive becomes ready. -/
def execDriveUp (d : Nat) (x : NvmeDrive) (bad : List Nat) (s : State) : Out := .next (s.runDev (·.driveUp d x.id x.content bad))

/-- A ring slot finishes filling. -/
def execRingFillDone (err : Bool) (s : State) : Out := .next (s.run (·.ringFilled err))

/-- The playlist load completes. -/
def execPlaylistLoaded (s : State) : Out := .next (s.runDev (·.plLoaded))

/-- A drive sets CSTS.CFS. -/
def execCstsCfs (d : Nat) (s : State) : Out :=
  .next (s.runDev fun s => if d < 2 && s.driveReady d then s.driveDown d else s)

end Sys2Proof.Machine
end

