-- ==== Sys2Proof/Machine/Ins.lean ====
section
/-! DEFINITION. The engine instructions as 32-bit words (R244 to R246): which command of the opcode table a word of the program RAM stands for, on
the engine that executes it, and the word of each such command. -/
namespace Sys2Proof.Machine

/-- A bit of a word. -/
def insBit (w i : Nat) : Bool := bits w i i = 1

/-- The command of an opcode with the fields of word `w` (R245, R246); an opcode that is not listed is undefined. -/
def insFields (eng w : Nat) : Instr :=
  let vd := bits w 25 22
  let va := bits w 21 18
  let vb := bits w 17 14
  let q := bits w 13 12
  let sx := insBit w 11
  let ua := insBit w 13
  let ub := insBit w 12
  let n := bits w 11 6
  let sc := bits w 5 3
  let off := bits w 8 0
  let disp := bits w 10 0
  match bits w 31 26 with
  | 0x00 => .nop eng
  | 0x01 => .feed eng vd q sx (bits w 10 9) off
  | 0x02 => .feedc eng vd (insBit w 9) off
  | 0x03 => .feeds eng vd off
  | 0x08 => .tld eng vd va q sx disp
  | 0x09 => .tst eng va vb q disp
  | 0x0A => .tlds eng vd va disp
  | 0x10 => .lut1 eng vd va (bits w 13 10) (bits w 9 5) (bits w 4 3)
  | 0x11 => .odi eng vd va vb q
  | 0x12 => .lgi eng vd va q
  | 0x18 => .mula eng va vb ua ub
  | 0x19 => .maca eng va vb ua ub
  | 0x1A => .adda eng va ua n
  | 0x1B => .rda eng vd n sc
  | 0x1C => .mulr eng vd va vb ua ub n sc
  | 0x20 => .add eng vd va vb ua sc
  | 0x21 => .sub eng vd va vb ua sc
  | 0x22 => .shl eng vd va vb (insBit w 2) n sc
  | 0x23 => .shr eng vd va vb (insBit w 2) n ua ub sc
  | 0x24 => .min eng vd va vb ua
  | 0x25 => .max eng vd va vb ua
  | 0x26 => .clmp eng vd va sc ub
  | 0x27 => .and eng vd va vb
  | 0x28 => .or eng vd va vb
  | 0x29 => .xor eng vd va vb
  | 0x2A => .cmp eng va vb ua (bits w 2 0)
  | 0x2B => .sel eng vd va vb
  | 0x2C => .vbc eng vd va
  | 0x2D => .vldi eng vd (insBit w 16) (bits w 15 0)
  | 0x2E => .sldi eng vd (insBit w 16) (bits w 15 0)
  | 0x2F => .sadd eng vd va vb
  | 0x30 => .dith eng vd va vb q
  | 0x38 => .emit eng va q (bits w 11 10) (insBit w 9)
  | 0x3E => .skip eng vd (bits w 21 17) (insBit w 16) (bits w 11 0)
  | 0x3F => .end_ eng
  | _ => .undefinedOpcode eng

/-- An opcode of R245. -/
def opcodeListed (op : Nat) : Bool :=
  [0x00, 0x01, 0x02, 0x03, 0x08, 0x09, 0x0A, 0x10, 0x11, 0x12, 0x18, 0x19, 0x1A, 0x1B, 0x1C, 0x20, 0x21, 0x22, 0x23, 0x24, 0x25, 0x26, 0x27,
    0x28, 0x29, 0x2A, 0x2B, 0x2C, 0x2D, 0x2E, 0x2F, 0x30, 0x38, 0x3E, 0x3F].contains op

/-- An opcode with a SAT field (R246, R247). -/
def opcodeSat (op : Nat) : Bool := [0x1B, 0x1C, 0x20, 0x21, 0x22, 0x23, 0x26].contains op

/-- The command that the word `w` of its program RAM has engine `eng` execute: none where a listed opcode stands with a reserved field or
code other than the SAT code 7, which no installed program holds (R258) and for which no rule gives an effect. -/
def insCommand (eng w : Nat) : Option Instr :=
  if !opcodeListed (bits w 31 26) then some (.undefinedOpcode eng)
  else if insOk w || (opcodeSat (bits w 31 26) && insOk (w - 8 * bits w 5 3) && bits w 5 3 = 7) then some (insFields eng w)
  else none

/-- A word of the formats V and F: opcode, register fields, MOD. -/
def wordV (op vd va vb mod : Nat) : Nat := op * 2 ^ 26 + vd * 2 ^ 22 + va * 2 ^ 18 + vb * 2 ^ 14 + mod

/-- A word of the format I. -/
def wordI (op vd : Nat) (hi : Bool) (imm : Nat) : Nat := op * 2 ^ 26 + vd * 2 ^ 22 + hi.toNat * 2 ^ 16 + imm

/-- The word of an engine command (R244 to R246); none for every other command. -/
def insWord : Instr → Option Nat
  | .nop _ => some 0
  | .feed _ vd size sx shl off => some (wordV 0x01 vd 0 0 (size * 2 ^ 12 + sx.toNat * 2 ^ 11 + shl * 2 ^ 9 + off))
  | .feedc _ vd esel off => some (wordV 0x02 vd 0 0 (esel.toNat * 2 ^ 9 + off))
  | .feeds _ sd off => some (wordV 0x03 sd 0 0 off)
  | .tld _ vd va size sx disp => some (wordV 0x08 vd va 0 (size * 2 ^ 12 + sx.toNat * 2 ^ 11 + disp))
  | .tst _ va vb size disp => some (wordV 0x09 0 va vb (size * 2 ^ 12 + disp))
  | .tlds _ sd sa disp => some (wordV 0x0A sd sa 0 (2 * 2 ^ 12 + disp))
  | .lut1 _ vd va sb sh ef => some (wordV 0x10 vd va 0 (sb * 2 ^ 10 + sh * 2 ^ 5 + ef * 2 ^ 3))
  | .odi _ vd va vb q => some (wordV 0x11 vd va vb (q * 2 ^ 12))
  | .lgi _ vd va q => some (wordV 0x12 vd va 0 (q * 2 ^ 12))
  | .mula _ va vb ua ub => some (wordV 0x18 0 va vb (ua.toNat * 2 ^ 13 + ub.toNat * 2 ^ 12))
  | .maca _ va vb ua ub => some (wordV 0x19 0 va vb (ua.toNat * 2 ^ 13 + ub.toNat * 2 ^ 12))
  | .adda _ va ua sh => some (wordV 0x1A 0 va 0 (ua.toNat * 2 ^ 13 + sh * 2 ^ 6))
  | .rda _ vd n sc => some (wordV 0x1B vd 0 0 (n * 2 ^ 6 + sc * 2 ^ 3))
  | .mulr _ vd va vb ua ub n sc => some (wordV 0x1C vd va vb (ua.toNat * 2 ^ 13 + ub.toNat * 2 ^ 12 + n * 2 ^ 6 + sc * 2 ^ 3))
  | .add _ vd va vb ua sc => some (wordV 0x20 vd va vb (ua.toNat * 2 ^ 13 + sc * 2 ^ 3))
  | .sub _ vd va vb ua sc => some (wordV 0x21 vd va vb (ua.toNat * 2 ^ 13 + sc * 2 ^ 3))
  | .shl _ vd va vb byreg amt sc => some (wordV 0x22 vd va vb (amt * 2 ^ 6 + sc * 2 ^ 3 + byreg.toNat * 2 ^ 2))
  | .shr _ vd va vb byreg amt arith rnd sc =>
    some (wordV 0x23 vd va vb (arith.toNat * 2 ^ 13 + rnd.toNat * 2 ^ 12 + amt * 2 ^ 6 + sc * 2 ^ 3 + byreg.toNat * 2 ^ 2))
  | .min _ vd va vb ua => some (wordV 0x24 vd va vb (ua.toNat * 2 ^ 13))
  | .max _ vd va vb ua => some (wordV 0x25 vd va vb (ua.toNat * 2 ^ 13))
  | .clmp _ vd va sc cnt => some (wordV 0x26 vd va 0 (cnt.toNat * 2 ^ 12 + sc * 2 ^ 3))
  | .and _ vd va vb => some (wordV 0x27 vd va vb 0)
  | .or _ vd va vb => some (wordV 0x28 vd va vb 0)
  | .xor _ vd va vb => some (wordV 0x29 vd va vb 0)
  | .cmp _ va vb ua cond => some (wordV 0x2A 0 va vb (ua.toNat * 2 ^ 13 + cond))
  | .sel _ vd va vb => some (wordV 0x2B vd va vb 0)
  | .vbc _ vd sa => some (wordV 0x2C vd sa 0 0)
  | .vldi _ vd hi imm => some (wordI 0x2D vd hi imm)
  | .sldi _ sd hi imm => some (wordI 0x2E sd hi imm)
  | .sadd _ sd sa sb => some (wordV 0x2F sd sa sb 0)
  | .dith _ vd va vb mode => some (wordV 0x30 vd va vb (mode * 2 ^ 12))
  | .emit _ va stream lamp deadz => some (wordV 0x38 0 va 0 (stream * 2 ^ 12 + lamp * 2 ^ 10 + deadz.toNat * 2 ^ 9))
  | .skip _ sa bit sense n => some (0x3E * 2 ^ 26 + sa * 2 ^ 22 + bit * 2 ^ 17 + sense.toNat * 2 ^ 16 + n)
  | .end_ _ => some (0x3F * 2 ^ 26)
  | _ => none

end Sys2Proof.Machine
end

