-- ==== Sys2Proof/Machine/Wire.lean ====
section
/-! DEFINITION. The wire format of a strand (R261 to R275, R278, R294, R295, R318, R320): blocks and their bits, the scrambler, control blocks and
packets as bytes, slots and their MARKs, what a receiver makes of them, which command of the opcode table a received block is, and the
PRBS patterns with their checker. The model has no slot clock: the number of the slot at which something starts is an argument here
(notes/assumptions/51.md). -/
namespace Sys2Proof.Machine

/-! ### Blocks (R264) -/

/-- A block: control or data, and its 16 payload bytes. -/
structure Block where
  ctl : Bool
  payload : List Byte
deriving DecidableEq, Repr

/-- A block as it is sent: header 01 for data and 10 for control, then the payload, each byte least significant bit first. -/
def Block.bits (b : Block) : List Bool := (if b.ctl then [true, false] else [false, true]) ++ bitsOfBytes b.payload

/-- The block of 130 received bits; none for the headers 00 and 11. -/
def Block.ofBits : List Bool → Option Block
  | false :: true :: p => some ⟨false, bytesOfBits p⟩
  | true :: false :: p => some ⟨true, bytesOfBits p⟩
  | _ => none

/-- The type code of a control block (R268). -/
def Block.type (b : Block) : Nat := (b.payload.getD 0 0).toNat

/-- The payload is not scrambled: MARK, TRAIN and EQ (R265). -/
def Block.clear (b : Block) : Bool := b.ctl && [0x55, 0x66, 0xB4].contains b.type

/-! ### The scrambler (R265) -/

/-- One step: the output bit and the next 31-bit state. -/
def scrStep (st : Nat) : Bool × Nat :=
  let out := (st / 2 ^ 30 + st / 2 ^ 27) % 2
  (out = 1, (2 * st + out) % 2 ^ 31)

/-- The state at the end of a MARK block on bond lane `b`. -/
def scrSeed (b : Nat) : Nat := Nat.xor 0x7FFFFFFF (b * 2 ^ 24)

/-- The scrambler's bits over a payload, and the state after it; the descrambler is the same function. -/
def scramble : Nat → List Bool → List Bool × Nat
  | st, [] => ([], st)
  | st, x :: t =>
    let r := scrStep st
    let u := scramble r.2 t
    ((x ^^ r.1) :: u.1, u.2)

/-- The bits of a block on bond lane `b` with the scrambler in state `st`, and the state after it: a MARK loads the seed. -/
def Block.line (b st : Nat) (x : Block) : List Bool × Nat :=
  if x.clear then (x.bits, if x.type = 0x55 then scrSeed b else st)
  else
    let r := scramble st (x.bits.drop 2)
    (x.bits.take 2 ++ r.1, r.2)

/-! ### Control blocks as bytes (R268 to R273, R278, R294, R295) -/

/-- Words 0 to 2 and the low half of word 3, and the CRC-16 over these 14 bytes (R269). -/
def ctlBytes (w0 w1 w2 h3 : Nat) : List Byte :=
  let bs := leBytes 4 w0 ++ leBytes 4 w1 ++ leBytes 4 w2 ++ leBytes 2 h3
  bs ++ leBytes 2 (crc16 bs).toNat

/-- Word 0 of a TRAIN block. -/
def TrainBlk.word0 (t : TrainBlk) : Nat :=
  0x66 + t.phase * 2 ^ 8 + t.bidx * 2 ^ 16 + t.rate * 2 ^ 20 + t.done.toNat * 2 ^ 24 + t.chainEnd.toNat * 2 ^ 25 + t.inv.toNat * 2 ^ 26 +
    t.rev.toNat * 2 ^ 27 + t.set.toNat * 2 ^ 28

/-- The payload of a control block. -/
def Ctl.bytes : Ctl → List Byte
  | .idle => List.replicate 16 0
  | .sync mode line n => ctlBytes (0x33 + mode * 2 ^ 8 + line * 2 ^ 16) (n % 2 ^ 32) (n / 2 ^ 32) 0
  | .mark lane w b r q =>
    let w0 := 0x55 + lane * 2 ^ 8 + w * 2 ^ 16 + b * 2 ^ 18 + r * 2 ^ 20
    ctlBytes w0 (q % 2 ^ 32) (2 ^ 32 - 1 - w0) 0
  | .train t => ctlBytes t.word0 t.w1 (t.cnt + t.skew * 2 ^ 8) 0
  | .cmd op a tag x y z => ctlBytes (0x99 + op * 2 ^ 8 + a * 2 ^ 16 + tag * 2 ^ 26) x y z
  | .keep lead n adj a launch => ctlBytes (0xAA + lead * 2 ^ 8) (n % 2 ^ 32) (n / 2 ^ 32 + adj * 2 ^ 16) (a + launch.toNat * 2 ^ 15)
  | .echo a tag q wait => ctlBytes (0x17 + a * 2 ^ 16 + tag * 2 ^ 26) (q + wait * 2 ^ 16) 0 0
  | .ack a tag op res reg v => ctlBytes (0x2B + op * 2 ^ 8 + a * 2 ^ 16 + tag * 2 ^ 26) (res + reg * 2 ^ 8) v 0
  | .decl a part ovr d =>
    let w0 := 0x4D + part * 2 ^ 8 + a * 2 ^ 16
    if part = 0 then
      ctlBytes (w0 + d.last.toNat * 2 ^ 9 + d.classL.toNat * 2 ^ 10 + ovr.toNat * 2 ^ 11) (d.fwdRelay + d.backRelay * 2 ^ 12 + d.tol * 2 ^ 24)
        (d.turn + d.lamps * 2 ^ 16) d.keepMax
    else ctlBytes w0 d.pid d.widths d.rows
  | .status a f8 body own => ctlBytes (0x8E + f8 * 2 ^ 8 + a * 2 ^ 16) body own 0
  | .fault a ls =>
    let i (k : Nat) : Nat := (ls.getD k (0, false)).1
    ctlBytes (0x71 + ls.length * 2 ^ 8 + a * 2 ^ 16) (i 0 + i 1 * 2 ^ 16) (i 2 + i 3 * 2 ^ 16)
      ((List.range 4).foldl (fun m k => m + (ls.getD k (0, false)).2.toNat * 2 ^ k) 0)
  | .eq b pre post done fom q =>
    ctlBytes (0xB4 + b * 2 ^ 8 + pre * 2 ^ 10 + post * 2 ^ 12 + done.toNat * 2 ^ 14 + fom * 2 ^ 16 + q * 2 ^ 24) 0 0 0
  | .wake a why => ctlBytes (0xD2 + why * 2 ^ 8 + a * 2 ^ 16) 0 0 0

/-- The block goes in this direction and each of its fields fits in its bits (R268 to R273, R278, R294, R295). -/
def Ctl.wf (fwd : Bool) : Ctl → Bool
  | .idle => true
  | .sync mode line n => fwd && mode < 16 && line < 2 ^ 16 && n < 2 ^ 48
  | .mark lane w b r q => lane < 128 && w < 4 && b < 4 && r < 16 && q < 2 ^ 32
  | .train t => t.phase < 256 && t.bidx < 4 && t.rate < 16 && t.w1 < 2 ^ 32 && t.cnt < 256 && t.skew < 64
  | .cmd op a tag x y z => fwd && op < 256 && a < 1024 && tag < 64 && x < 2 ^ 32 && y < 2 ^ 32 && z < 2 ^ 16
  | .keep lead n adj a _ => fwd && lead < 2 ^ 24 && n < 2 ^ 48 && adj < 2 ^ 16 && a < 1024
  | .echo a tag q wait => !fwd && a < 1024 && tag < 64 && q < 2 ^ 16 && wait < 2 ^ 16
  | .ack a tag op res reg v => !fwd && a < 1024 && tag < 64 && op < 256 && res < 256 && reg < 256 && v < 2 ^ 32
  | .decl a part ovr d => !fwd && a < 1024 && part < 2 && d.fwdRelay < 2 ^ 12 && d.backRelay < 2 ^ 12 && d.tol < 2 ^ 8 && d.turn < 2 ^ 16 &&
      d.lamps < 2 ^ 16 && d.keepMax < 2 ^ 16 && d.pid < 2 ^ 32 && d.widths < 2 ^ 7 && d.rows < 2 ^ 16 &&
      (if part = 0 then d = { d with pid := noDecl.pid, widths := noDecl.widths, rows := noDecl.rows }
        else !ovr && d = { noDecl with pid := d.pid, widths := d.widths, rows := d.rows })
  | .status a f8 body own => !fwd && a < 1024 && f8 < 256 && body < 2 ^ 32 && own < 2 ^ 32
  | .fault a ls => !fwd && a < 1024 && ls.length ≤ 4 && ls.all (·.1 < 2 ^ 16)
  | .eq b pre post _ fom q => !fwd && b < 4 && pre < 4 && post < 4 && fom < 256 && q < 256
  | .wake a why => !fwd && a < 1024 && why < 256

/-- The type codes that a receiver of the direction knows (R268). -/
def ctlKnown (fwd : Bool) (ty : Nat) : Bool :=
  [0x00, 0x55, 0x66].contains ty ||
    (if fwd then [0x33, 0x99, 0xAA].contains ty else [0x17, 0x2B, 0x4D, 0x8E, 0x71, 0xB4, 0xD2].contains ty)

/-- Why a receiver ignores a control block and counts a receive error (R269). -/
inductive CtlBad where
  | crc
  | type
  | idle
deriving DecidableEq, Repr

/-- What R269 rejects of a control block of the direction. -/
def ctlCheck (fwd : Bool) (bs : List Byte) : Option CtlBad :=
  let ty := (bs.getD 0 0).toNat
  if !ctlKnown fwd ty then some .type
  else if ty = 0 then (if bs.all (· = 0) then none else some .idle)
  else if leNat (bs.drop 14) = (crc16 (bs.take 14)).toNat then none else some .crc

/-- The fields of a control block that has passed the check. -/
def ctlFields (bs : List Byte) : Ctl :=
  let w0 := wordAt bs 0
  let w1 := wordAt bs 4
  let w2 := wordAt bs 8
  let h3 := leNat ((bs.drop 12).take 2)
  let b (i : Nat) : Bool := bitOf w0 i
  let a := bits w0 25 16
  let tag := bits w0 31 26
  let op := bits w0 15 8
  let n := w1 + bits w2 15 0 * 2 ^ 32
  match bits w0 7 0 with
  | 0x33 => .sync (bits w0 11 8) (bits w0 31 16) n
  | 0x55 => .mark (bits w0 14 8) (bits w0 17 16) (bits w0 19 18) (bits w0 23 20) w1
  | 0x66 => .train ⟨op, bits w0 17 16, bits w0 23 20, b 24, b 25, b 26, b 27, b 28, w1, bits w2 7 0, bits w2 13 8⟩
  | 0x99 => .cmd op a tag w1 w2 h3
  | 0xAA => .keep (bits w0 31 8) n (bits w2 31 16) (bits h3 9 0) (bitOf h3 15)
  | 0x17 => .echo a tag (bits w1 15 0) (bits w1 31 16)
  | 0x2B => .ack a tag op (bits w1 7 0) (bits w1 15 8) w2
  | 0x4D =>
    if b 8 then .decl a 1 false { noDecl with pid := w1, widths := bits w2 6 0, rows := h3 }
    else .decl a 0 (b 11) { noDecl with
      last := b 9, classL := b 10, fwdRelay := bits w1 11 0, backRelay := bits w1 23 12, tol := bits w1 31 24, turn := bits w2 15 0
      lamps := bits w2 31 16, keepMax := h3 }
  | 0x8E => .status a op w1 w2
  | 0x71 => .fault a ((List.range (min 4 op)).map fun k =>
      (if k < 2 then bits w1 (16 * k + 15) (16 * k) else bits w2 (16 * k - 17) (16 * k - 32), bitOf h3 k))
  | 0xB4 => .eq (bits w0 9 8) (bits w0 11 10) (bits w0 13 12) (b 14) (bits w0 23 16) (bits w0 31 24)
  | 0xD2 => .wake a op
  | _ => .idle

/-- A control block of the direction as a receiver takes it. -/
def ctlParse (fwd : Bool) (bs : List Byte) : Option Ctl := match ctlCheck fwd bs with
  | none => some (ctlFields bs)
  | some _ => none

/-- A control slot: the copy of bond lane 0, or of the lowest bond lane whose copy passes (R266). -/
def ctlOfSlot (fwd : Bool) (copies : List (Option Block)) : Option Ctl :=
  copies.findSome? fun c => match c with
    | some b => if b.ctl then ctlParse fwd b.payload else none
    | none => none

/-- A partner's relay of a forward control block: unchanged, but for an ENUM whose COUNT it takes (R280, R281). -/
def relayFwd (bs : List Byte) : List Byte := match ctlParse true bs with
  | some (.cmd 1 a tag x y z) => if bits x 9 0 < 512 then (Ctl.cmd 1 a tag (x + 1) y z).bytes else bs
  | _ => bs

/-- A partner's relay of a back block: its own message takes the place of IDLE and of nothing else (R277). -/
def relayBack (own : Option Ctl) (bs : List Byte) : List Byte :=
  match own with
  | some c => if bs = Ctl.idle.bytes then c.bytes else bs
  | none => bs

/-! ### Packets (R274, R275) -/

/-- The common header with its HCRC. -/
def packetHead (w0 w1 h2 : Nat) : List Byte :=
  let bs := leBytes 4 w0 ++ leBytes 4 w1 ++ leBytes 2 h2
  bs ++ leBytes 2 (crc16 bs).toNat

/-- Bytes with their CRC-16 behind them. -/
def withCrc16 (bs : List Byte) : List Byte := bs ++ leBytes 2 (crc16 bs).toNat

/-- A DRIVE packet. -/
def drivePacket (n addr seg first : Nat) (codes : List Nat) : List Byte :=
  withCrc16 (packetHead (0x1 + n % 256 * 2 ^ 4 + addr * 2 ^ 16) (first + codes.length * 2 ^ 16) seg ++ codes.flatMap (leBytes 2))

/-- A FRAME_SYNC packet. -/
def frameSyncPacket (n lead adj : Nat) : List Byte :=
  withCrc16 (packetHead (0x2 + 0x3FF * 2 ^ 16) (n % 2 ^ 32) (n / 2 ^ 32) ++ leBytes 4 lead ++ leBytes 2 adj)

/-- The data blocks of a packet, filled up with 0. -/
def packetBlocks (bs : List Byte) : List Block :=
  (List.range ((bs.length + 15) / 16)).map fun i =>
    let p := (bs.drop (16 * i)).take 16
    ⟨false, p ++ List.replicate (16 - p.length) 0⟩

/-- What a receiver makes of a packet: header lost or PTYPE reserved, packet CRC failed, or its fields (R274). -/
inductive Packet where
  | framing
  | crc
  | drive (f8 addr seg first : Nat) (codes : List Nat)
  | frameSync (frame lead adj : Nat)
deriving DecidableEq, Repr

/-- A packet from the bytes of its data blocks. -/
def parsePacket (bs : List Byte) : Packet :=
  let w0 := wordAt bs 0
  let w1 := wordAt bs 4
  let ok (n : Nat) : Bool := leNat ((bs.drop n).take 2) = (crc16 (bs.take n)).toNat
  if !ok 10 then .framing
  else match bits w0 3 0 with
  | 1 =>
    let len := bits w1 31 16
    if ok (12 + 2 * len) then
      .drive (bits w0 11 4) (bits w0 25 16) (bits (wordAt bs 8) 15 0) (bits w1 15 0) ((List.range len).map fun i => leNat ((bs.drop (12 + 2 * i)).take 2))
    else .crc
  | 2 => if ok 18 then .frameSync (w1 + bits (wordAt bs 8) 15 0 * 2 ^ 32) (bits (wordAt bs 12) 23 0) (leNat ((bs.drop 16).take 2)) else .crc
  | _ => .framing

/-! ### Slots (R266, R267) -/

/-- A slot: one block for each bond lane. -/
abbrev Slot := List Block

/-- A control slot of `w` bond lanes, with an identical copy on each. -/
def ctlSlot (w : Nat) (c : Ctl) : Slot := List.replicate w ⟨true, c.bytes⟩

/-- The slots of a packet: its blocks on bond lanes 0, 1, … in order, IDLE on those left over. -/
def packetSlots (w : Nat) (bs : List Byte) : List Slot :=
  let blks := packetBlocks bs
  (List.range ((blks.length + w - 1) / w)).map fun i =>
    (List.range w).map fun b => blks.getD (w * i + b) ⟨true, Ctl.idle.bytes⟩

/-- A MARK slot of the strand of lowest lane `g`, with its width and rate codes. -/
def markSlot (g w wCode rate mseq : Nat) : Slot := (List.range w).map fun b => ⟨true, (Ctl.mark (g + b) wCode b rate mseq).bytes⟩

/-- Slots from slot number `n` on: every slot whose number is a multiple of 4,096 carries MARK, inside a packet too. `q` is MSEQ of slot 0. -/
def withMarks (g w wCode rate q : Nat) : Nat → List Slot → List Slot
  | _, [] => []
  | n, s :: t =>
    if n % 4096 = 0 then markSlot g w wCode rate (q + n / 4096) :: s :: withMarks g w wCode rate q (n + 2) t
    else s :: withMarks g w wCode rate q (n + 1) t

/-- The state of the scrambler of bond lane `b` at slot number `n`, when the slots before it are of the normal stream (R265). -/
def scrAt (b n : Nat) : Nat :=
  if n % 4096 = 0 then scrSeed b else Nat.repeat (fun st => (scrStep st).2) (128 * (n % 4096 - 1)) (scrSeed b)

/-- The bits of bond lane `b` over a list of slots from slot number `n` on. -/
def laneBits (b n : Nat) (ss : List Slot) : List Bool :=
  (ss.foldl (fun (acc : List Bool × Nat) s =>
    let r := (s.getD b ⟨true, Ctl.idle.bytes⟩).line b acc.2
    (acc.1 ++ r.1, r.2)) ([], scrAt b n)).1

/-- The IDLE slots in which `n` inverted bits lie, from the first bit of the first of them on. (DESIGN CHOICE: notes/assumptions/51.md) -/
def invertSlots (n : Nat) : Nat := (n + 129) / 130

/-- The slots of what the part sends, before bits are inverted. -/
def Tx.slots (g w wCode rate mseq : Nat) : Tx → List Slot
  | .mark => [markSlot g w wCode rate mseq]
  | .ctl c => [ctlSlot w c]
  | .drive n a j i cs => packetSlots w (drivePacket n a j i cs)
  | .frameSync n lead adj => packetSlots w (frameSyncPacket n lead adj)
  | .invert _ n => List.replicate (invertSlots n) (ctlSlot w .idle)

/-- It is a packet. -/
def Tx.packet : Tx → Bool
  | .drive .. | .frameSync .. => true
  | _ => false

/-- One more item on a strand that has sent `run` packets back to back: a ninth packet has an IDLE slot before it (R267). -/
def sendTx (sent : List Tx) (run : Nat) (x : Tx) : List Tx × Nat :=
  if !x.packet then (sent ++ [x], 0)
  else if run < 8 then (sent ++ [x], run + 1)
  else (sent ++ [.ctl .idle, x], 1)

/-! ### The command that a received block is -/

/-- The command of the opcode table that a CMD block is at the partners of strand `g`; none for ROW, whose arguments the part's queue
holds, for ENUM, which acts place by place, and for a reserved OP, which a partner relays and does not act on (R273, R312). -/
def cmdCommand (g : Nat) : Ctl → Option Instr
  | .cmd 3 a tag x _ _ => some (.stamp g a ⟨tag, []⟩ (x % 2 ^ 16))
  | .cmd 4 a tag x _ _ => some (.trim g a ⟨tag, []⟩ (x % 2 ^ 16))
  | .cmd 5 a tag x y _ => some (.cfgWr g a ⟨tag, []⟩ (x % 2 ^ 8) y)
  | .cmd 6 a tag x _ _ => some (.cfgRd g a ⟨tag, []⟩ (x % 2 ^ 8))
  | .cmd 8 _ tag x y _ => some (.fwdState g ⟨tag, []⟩ (x % 4) y)
  | .cmd 9 _ tag x _ _ => some (.backState g ⟨tag, []⟩ (bitOf x 0) (bitOf x 1))
  | .cmd 10 a tag x y _ => some (.test g a ⟨tag, []⟩ (x % 8) (bits x 3 3) (bits x 7 4) (y % 2 ^ 24))
  | .cmd 11 a tag x _ _ => some (.testResult g a ⟨tag, []⟩ (x % 4) [])
  | _ => none

/-- The command that a back block on bond lane `b` of strand `g` is (R268, R279): one that fails its check is BACK_INVALID_BLOCK; `rtt`: the
round trip that the part measures for an ECHO. IDLE and MARK are none. -/
def backCommand (g b rtt : Nat) (bs : List Byte) : Option Instr :=
  match ctlCheck false bs with
  | some .type => some (.backInvalidBlock g ⟨false, none⟩)
  | some _ => some (.backInvalidBlock g ⟨true, none⟩)
  | none => match ctlFields bs with
    | .train t => some (.backTrainBlock g b t.phase t.done t.inv t.rev t.skew (bits t.w1 3 0) (bits t.w1 5 4) (bits t.w1 10 8))
    | .echo a tag q wait => some (.echo g a tag q wait rtt)
    | .ack a tag op res reg v => some (.ack g a tag op res reg v)
    | .decl a part ovr d => some (.decl g a part ovr d)
    | .status a f8 body _ => some (.status g a f8 (bits body 7 0) (bits body 15 8) (bits body 23 16) (bits body 28 24))
    | .fault a ls => some (.fault g a ls)
    | .eq l pre post done fom q => some (.eq g l pre post done fom q)
    | .wake a why => some (.wake g a why)
    | _ => none

/-! ### PRBS (R318) and error injection (R320) -/

/-- The taps of a pattern: its degree and its middle term; PATTERN codes 5 to 7 are reserved. -/
def prbsTaps : Nat → Option (Nat × Nat)
  | 0 => some (7, 6)
  | 1 => some (9, 5)
  | 2 => some (15, 14)
  | 3 => some (23, 18)
  | 4 => some (31, 28)
  | _ => none

/-- `n` bits of the pattern x^a + x^m + 1 from the `a` bits before them, newest first. -/
def prbsBits (a m : Nat) : Nat → List Bool → List Bool
  | 0, _ => []
  | n + 1, st =>
    let x := st.getD (a - 1) false ^^ st.getD (m - 1) false
    x :: prbsBits a m n ((x :: st).take a)

/-- A checker at work: locked, correct bits in a row while it is not, position of the next bit, positions of the wrong bits among the last
256, errors, bits compared, lock lost. -/
structure Checker where
  lock : Bool
  good : Nat
  at_ : Nat
  recent : List Nat
  errs : Nat
  bits : Nat
  lost : Bool
deriving DecidableEq, Repr

/-- `n` correct bits: lock comes after 64 in a row, and locked bits are compared. -/
def Checker.right (c : Checker) (n : Nat) : Checker :=
  if c.lock then { c with at_ := c.at_ + n, bits := c.bits + n }
  else if c.good + n < 64 then { c with good := c.good + n, at_ := c.at_ + n }
  else { c with lock := true, good := 0, at_ := c.at_ + n, recent := [], bits := c.bits + (c.good + n - 64) }

/-- A wrong bit: counted while locked; the 32nd within 256 bits loses the lock. -/
def Checker.wrong (c : Checker) : Checker :=
  if !c.lock then { c with good := 0, at_ := c.at_ + 1 }
  else
    let r := c.at_ :: c.recent.filter fun p => c.at_ < p + 256
    let c := { c with at_ := c.at_ + 1, errs := c.errs + 1, bits := c.bits + 1, recent := r }
    if r.length < 32 then c else { c with lock := false, good := 0, recent := [], lost := true }

/-- The checker over a window in which runs of correct bits of these lengths stand with one wrong bit between each two. -/
def checkerRun : List Nat → Checker → Checker
  | [], c => c
  | [n], c => c.right n
  | n :: t, c => checkerRun t (c.right n).wrong

/-- A checker at the start of a window. -/
def Checker.start : Checker := ⟨false, 0, 0, [], 0, 0, false⟩

/-- Bits with those at the positions that `f` names inverted. -/
def invertBits (f : Nat → Bool) (bs : List Bool) : List Bool := bs.zipIdx.map fun p => if f p.2 then !p.1 else p.1

/-- The bits that an injection inverts, counted from the next bit (R320, R323): one, BURST in a row, or one in every 2^N. -/
def injectAt (mode n burst i : Nat) : Bool :=
  match mode with
  | 1 => i = 0
  | 2 => decide (i < burst)
  | 3 => n != 0 && (i + 1) % 2 ^ n = 0
  | _ => false

/-- The stretches of inverted bits on bond lane `b` among what a strand sends from slot number `n` on: position of the first bit, and length. -/
def invertedAt (g w wCode rate q b n : Nat) (xs : List Tx) : List (Nat × Nat) :=
  let slots (ys : List Tx) : List Slot := withMarks g w wCode rate q n (ys.flatMap (·.slots g w wCode rate q))
  xs.zipIdx.filterMap fun p => match p.1 with
    | .invert b' k => if b' = b then some (130 * (slots (xs.take p.2)).length, k) else none
    | _ => none

/-- The bits of bond lane `b` for what a strand sends from slot number `n` on: blocks with their MARKs, scrambled, and then the injected errors,
headers included; `rate`: those of rate mode (R320). -/
def txBits (g w wCode rate q b n : Nat) (rateInv : Nat → Bool) (xs : List Tx) : List Bool :=
  let inv := invertedAt g w wCode rate q b n xs
  invertBits (fun i => rateInv i || inv.any fun e => decide (e.1 ≤ i) && decide (i < e.1 + e.2))
    (laneBits b n (withMarks g w wCode rate q n (xs.flatMap (·.slots g w wCode rate q))))

/-! ### Training streams (R270, R293, R300 to R304) -/

/-- The TRAIN blocks among blocks `i` to `j - 1` of a training stream, in which every 16th block is a MARK. -/
def trainsIn (i j : Nat) : Nat := (j - i) - ((j + 15) / 16 - (i + 15) / 16)

/-- CNT of block `i` of a training stream whose countdown from 127 starts at block `i0` (R302, R304). -/
def countdown (i0 i : Nat) : Nat := 127 - trainsIn i0 i

/-- The MARK block that a partner sends on the back pair of the forward lane with this global lane and bond lane index: RATE is the back rate,
8 or 9 (R270). -/
def pairMark (lane wCode b back q : Nat) : Ctl := .mark lane wCode b back q

/-- Block `i` of the training stream on that back pair (R293). -/
def pairStream (lane wCode b back q : Nat) (t : TrainBlk) (i : Nat) : Ctl :=
  if i % 16 = 0 then pairMark lane wCode b back (q + i / 16) else .train { t with bidx := b, rate := back }

/-- A MARK found in the 130 bits of an input, in either polarity: whether the input is inverted, and the block's fields (R270, R300). -/
def markFound (bs : List Bool) : Option (Bool × Ctl) :=
  let mark (bs : List Bool) : Option Ctl := match Block.ofBits bs with
    | some ⟨true, p⟩ => if wordAt p 8 = 2 ^ 32 - 1 - wordAt p 0 && (wordAt p 0) % 256 = 0x55 then some (ctlFields p) else none
    | _ => none
  match mark bs with
  | some c => some (false, c)
  | none => (mark (bs.map not)).map fun c => (true, c)

/-- The order of a bond's inputs from the BIDX that each carries: straight or reversed; none for any other, in which a partner never sets DONE
(R301). -/
def laneOrder (bidx : List Nat) : Option Bool :=
  if bidx = List.range bidx.length then some false
  else if bidx = (List.range bidx.length).reverse then some true
  else none

/-- The TRAIN block that a partner sends on the back pair of bond lane `b` in phase `ph`, with the BIDX that its inputs carry and whether the
downstream neighbour (none behind a chain end) reports DONE (R293, R294, R300, R301). -/
def partnerTrain (ph b back : Nat) (hop : Bool) (next : Option Bool) (inv : Bool) (bidx : List Nat) (w1 skew : Nat) : TrainBlk :=
  { phase := ph, bidx := b, rate := back, done := hop && next.getD true && (ph < 3 || (laneOrder bidx).isSome), chainEnd := next.isNone
    inv := inv, rev := laneOrder bidx = some true, set := false, w1 := w1, cnt := 0, skew := skew }

end Sys2Proof.Machine
end

