-- ==== Sys2Proof/Machine/Scan.lean ====
section
/-! DEFINITION. Scan-out (R332 to R343): the packer, deadlines and underruns, launch markers and vetoes, the die's events, FRAME_DONE
and the picture check; which strands send in Belay (R347, R348). -/
namespace Sys2Proof.Machine

/-- Put scan-out back. -/
def State.setScan (s : State) (c : ScanSt) : State := { s with dev := { s.dev with scan := c } }

/-- The register of strand g (global lowest lane) in its die's window. -/
def strReg (r : Nat → Nat → Nat) (g : Nat) : Nat := r (g / 16) (g % 16)

/-- Strand g. -/
def State.strand (s : State) (g : Nat) : StrandSt := s.dev.strands.look StrandSt.reset g

/-- Put strand g back. -/
def State.setStrand (s : State) (g : Nat) (t : StrandSt) : State :=
  { s with dev := { s.dev with strands := s.dev.strands.put StrandSt.reset g t } }

/-- Partner k of strand g. -/
def State.partner (s : State) (g k : Nat) : PartnerSt := s.dev.partners.look PartnerSt.reset (g * 512 + k)

/-- Put partner k of strand g back. -/
def State.setPartner (s : State) (g k : Nat) (p : PartnerSt) : State :=
  { s with dev := { s.dev with partners := s.dev.partners.put PartnerSt.reset (g * 512 + k) p } }

/-- A receive error (R274, R288). -/
def PartnerSt.rxError (p : PartnerSt) : PartnerSt :=
  { p with rxErr := min 255 (p.rxErr + 1), errTotal := min 0xFFFFFFFF (p.errTotal + 1) }

/-- A control block fails its check at a partner (R269, R288). -/
def PartnerSt.damaged (p : PartnerSt) : PartnerSt := { p.rxError with skip := false }

/-- A control block reaches the partners of strand g: they take data blocks again (R274). -/
def State.control (s : State) (g : Nat) : State :=
  (s.dev.partners.filter fun e => e.1 / 512 = g && e.2.skip).foldl (fun s e => s.setPartner g (e.1 % 512) { s.partner g (e.1 % 512) with skip := false }) s

/-- The FRAME_SYNC of frame `n` falls among data blocks that some partners of strand g skip (R274). -/
def State.deafen (s : State) (n g : Nat) : State :=
  (s.dev.partners.filter fun e => e.1 / 512 = g && e.2.skip).foldl (fun s e =>
    s.setPartner g (e.1 % 512) { s.partner g (e.1 % 512) with missed := some n }) s

/-- `x` goes onto strand g (R266, R267). (DESIGN CHOICE: notes/assumptions/51.md) -/
def State.send (s : State) (g : Nat) (x : Tx) : State :=
  let t := s.strand g
  let r := sendTx t.sent t.run x
  let s := s.setStrand g { t with sent := r.1, run := r.2 }
  if r.2 = 0 then s.control g else s

/-- A packet is to start on strand g: after eight back to back an IDLE slot leaves first (R267). -/
def State.gap (s : State) (g : Nat) : State := if (s.strand g).run < 8 then s else s.send g (.ctl .idle)

/-- The register values in force for the work of frame `n`: the frame in force or the one before it (R177). -/
def State.fReg (s : State) (n : Nat) (a : Nat) : Nat :=
  if n = s.tbFrame then s.wReg a else (s.dev.workOld.get (resetWord s.dies) a).toNat

/-! ### What a strand sends -/

/-- The segments of strand g by number, those that are enabled. -/
def State.segsOf (s : State) (g : Nat) : List (Nat × Seg) :=
  (s.img.segs.zipIdx.map fun p => (p.2, p.1)).filter fun p => p.2.on && p.2.strand = g

/-- The destination rectangle of the Lanyard layer in force, empty while it is disabled. -/
def State.lanyRect (s : State) (v : Nat → Nat) : Rect :=
  if s.lanyOn v then (lanyOf v).dstIn ⟨0, 0, s.img.canvasW, s.img.canvasH⟩ else ⟨0, 0, 0, 0⟩

/-- Strand g is on the refresh path of Belay (R347). -/
def State.refreshStrand (s : State) (v : Nat → Nat) (g : Nat) : Bool :=
  !(s.segsOf g).isEmpty &&
    (s.b (strReg STR_LINK g) STR_LINK.ANY_L || BLY_CTL.REFRESH_ALL.get (v BLY_CTL) = 1 ||
      (s.segsOf g).any fun p => p.2.rect.meets (s.lanyRect v))

/-- Die d composes in Belay (R348). -/
def State.refreshDie (s : State) (v : Nat → Nat) (d : Nat) : Bool :=
  s.live d && ((List.range 16).any (fun n => s.refreshStrand v (16 * d + n)) ||
    (s.lanyOn v && (s.section d).meets (chkRect v)))

/-- The mode of frame `n` has strand g send its segments (R34, R347); none does once THERM_CRIT has stopped processing (R448). -/
def State.modeSends (s : State) (n g : Nat) : Bool :=
  s.rasterOn && !s.critStop && match modeOf (s.fReg n) with
  | .live | .coil | .lanyardOnly => true
  | .belay => s.refreshStrand (s.fReg n) g
  | _ => false

/-- Strand g sends drive codes of frame `n`: Active, its forward direction awake, its mode one that sends (R299, R313). -/
def State.strandSends (s : State) (n g : Nat) : Bool :=
  s.strandActive g && s.f (strReg STR_SLEEP_STAT g) STR_SLEEP_STAT.FWD = 0 && s.modeSends n g

/-- The part has codes of frame `n`. -/
def State.hasFrame (s : State) (n : Nat) : Bool := s.rasterOn && (n = s.tbFrame || s.prevFrame = some n)

/-- The drive code of a lamp in frame `n`, when it has been computed. -/
def State.codeAt (s : State) (n d x y r : Nat) : Option Nat :=
  let c := s.dev.scan
  let v := (if n = s.tbFrame then c.codes else c.codesOld).look 0 (lampKey d x y r)
  if v = 0 then none else some (v - 1)

/-- Keep the drive code of a lamp of frame `n`. -/
def State.putCode (s : State) (n d x y r v : Nat) : State :=
  let c := s.dev.scan
  if n = s.tbFrame then s.setScan { c with codes := c.codes.put 0 (lampKey d x y r) (v + 1) }
  else if s.prevFrame = some n then s.setScan { c with codesOld := c.codesOld.put 0 (lampKey d x y r) (v + 1) }
  else s

/-- The lamps of a segment line as (lamp index, code), in increasing index, once the whole line is complete. -/
def State.lineLamps (s : State) (n : Nat) (g : Seg) (y : Nat) : Option (List (Nat × Nat)) :=
  let ls := (List.range g.w).flatMap fun i => (List.range 3).map fun r =>
    (s.codeAt n (g.strand / 16) (g.x + i) y r).map fun c => ((s.img.lampOf g (g.x + i) y r).1, c)
  if ls.all (·.isSome) then some ((ls.filterMap id).mergeSort fun a b => a.1 ≤ b.1) else none

/-! ### Runs and packets (R333) -/

/-- The item is a drive packet of partner `a`. -/
def Item.ofPartner (a : Nat) : Item → Bool
  | .drive _ b .. => a = b
  | .row .. => false

/-- The item carries codes of segment `j` of frame `n`. -/
def Item.ofSeg (n j : Nat) : Item → Bool
  | .drive f _ g .. => f = n && g = j
  | .row .. => false

/-- The item carries codes of line `y` of segment `j` of frame `n`. -/
def Item.ofLine (n j y : Nat) : Item → Bool
  | .drive f _ g _ _ ls => f = n && g = j && ls.contains y
  | .row .. => false

/-- The next code continues the run. -/
def Item.continues (n a j i : Nat) : Item → Bool
  | .drive f b g first cs _ => f = n && b = a && g = j && first + cs.length = i
  | .row .. => false

/-- A run with one more code. -/
def Item.add (c y : Nat) : Item → Item
  | .drive f b g first cs ls => .drive f b g first (cs ++ [c]) (if ls.contains y then ls else ls ++ [y])
  | it => it

/-- The codes in an item. -/
def Item.len : Item → Nat
  | .drive _ _ _ _ cs _ => cs.length
  | .row .. => 0

/-- Close the run of partner `a`, if one is open. (DEDUCED: notes/assumptions/36.md) -/
def closeRun (q : List Item × List Item) (a : Nat) : List Item × List Item :=
  (q.1.filter fun r => !r.ofPartner a, q.2 ++ q.1.filter fun r => r.ofPartner a)

/-- The packer takes one code: runs and closed packets after it. -/
def packCode (n a j y : Nat) (q : List Item × List Item) (lc : Nat × Nat) : List Item × List Item :=
  match q.1.find? fun r => r.continues n a j lc.1 with
  | some r =>
    let q := (q.1.map fun x => if x = r then r.add lc.2 y else x, q.2)
    if r.len + 1 = 1016 then closeRun q a else q
  | none =>
    let q := closeRun q a
    let q := if 16 ≤ q.1.length then (q.1.drop 1, q.2 ++ q.1.take 1) else q
    (q.1 ++ [.drive n a j lc.1 [lc.2] [y]], q.2)

/-- Runs and queue of strand g. -/
def State.packs (s : State) (g : Nat) : List Item × List Item := (s.dev.scan.runs.look [] g, s.dev.scan.queue.look [] g)

/-- Put runs and queue of strand g back. -/
def State.setPacks (s : State) (g : Nat) (q : List Item × List Item) : State :=
  s.setScan { s.dev.scan with runs := s.dev.scan.runs.put [] g q.1, queue := s.dev.scan.queue.put [] g q.2 }

/-- Line y of segment j has been taken by the packer in frame `n`. -/
def State.isTaken (s : State) (n j y : Nat) : Bool := s.dev.scan.taken.contains (n, j * 65536 + y)

/-- Mark a segment line as taken. -/
def State.setTaken (s : State) (n j y : Nat) : State := s.setScan { s.dev.scan with taken := (n, j * 65536 + y) :: s.dev.scan.taken }

/-- Every line of a segment has been taken in frame `n`. -/
def State.allTaken (s : State) (n j : Nat) (g : Seg) : Bool := (List.range g.h).all fun i => s.isTaken n j (g.y + i)

/-- Line mode or filtered streaming is in force on die d. -/
def State.streaming (s : State) (d : Nat) : Bool := s.b (SRC_STATUS d) SRC_STATUS.LM || s.b (SRC_STATUS d) SRC_STATUS.FILT

/-- A complete line of a class H segment goes to the packer (R333). (DEDUCED: notes/assumptions/36.md) -/
def State.takeH (s : State) (n j : Nat) (g : Seg) (y : Nat) (ls : List (Nat × Nat)) : State :=
  let s := (s.setPacks g.strand (ls.foldl (packCode n g.addr j y) (s.packs g.strand))).setTaken n j y
  if s.streaming (g.strand / 16) || s.allTaken n j g then s.setPacks g.strand (closeRun (s.packs g.strand) g.addr) else s

/-! ### Class L (R334) -/

/-- Row and T_ON of line y of a class L segment in frame `n` (R330, R334). -/
def State.rowOf (s : State) (n : Nat) (g : Seg) (y : Nat) : Nat × Nat :=
  let v := s.fReg n
  let r := rasterOf v
  let lag := match s.img.partner g.strand g.addr with
    | some p => p.lag
    | none => 0
  ((s.img.lampOf g g.x y 0).2, (y + lag) * r.lineTicks + r.hactStart - TB_LAUNCH.LAUNCH_OFS.get (v TB_LAUNCH))

/-- DUR of a row in frame `n`. -/
def State.rowDur (s : State) (n : Nat) : Nat := (rasterOf (s.fReg n)).hactEnd - (rasterOf (s.fReg n)).hactStart

/-- The class L segments of strand g that have canvas line y. -/
def State.rowSegs (s : State) (g y : Nat) : List (Nat × Seg) :=
  (s.segsOf g).filter fun p => s.img.segL p.2 && p.2.y ≤ y && y < p.2.y + p.2.h

/-- The class L partners of strand g. -/
def State.rowPartners (s : State) (g : Nat) : List Nat :=
  match s.img.strand g with
  | some e => (List.range e.chain.length).filter fun k => (e.chain.getD k ⟨false, 0, 0⟩).classL
  | none => []

/-- Every class L partner of the strand has a segment line on y, all with the same row and T_ON. -/
def State.rowShared (s : State) (n g y : Nat) : Bool :=
  let ls := s.rowSegs g y
  (s.rowPartners g).all (fun a => ls.any fun p => p.2.addr = a) && (ls.map fun p => s.rowOf n p.2 y).eraseDups.length = 1

/-- Line y of class L segment j has been taken, or its packets dropped: the ROW follows once it is due (R334). -/
def State.rowsDue (s : State) (n : Nat) (g : Seg) (y : Nat) : State :=
  let ls := s.rowSegs g.strand y
  let c := s.rowOf n g y
  let push (a : Nat) : State :=
    s.setPacks g.strand ((s.packs g.strand).1, (s.packs g.strand).2 ++ [.row n y a c.1 c.2 (s.rowDur n)])
  if s.rowShared n g.strand y then (if ls.all fun p => s.isTaken n p.1 y then push 0x3FF else s)
  else if ls.all fun p => p.2.addr != g.addr || s.rowOf n p.2 y != c || s.isTaken n p.1 y then push g.addr
  else s

/-- The ROW of line `y` that reaches class L partner `a` of strand g still waits for codes (R334). -/
def State.rowOpen (s : State) (n g a y : Nat) : Bool :=
  (s.rowSegs g y).any fun p => (s.rowShared n g y || p.2.addr = a) && !s.isTaken n p.1 y

/-- Line y of a class L segment waits for the ROW of an earlier line: its codes would fall into that line's fill (R286, R334, R337). -/
def State.rowHeld (s : State) (n : Nat) (g : Seg) (y : Nat) : Bool := (List.range y).any fun i => s.rowOpen n g.strand g.addr i

/-- The packets of a class L line: its lamps in increasing index, cut at 1,016 codes. -/
def linePackets (n a j y : Nat) : Nat → List (Nat × Nat) → List Item
  | 0, _ => []
  | _, [] => []
  | k + 1, l :: t => .drive n a j l.1 ((l :: t).take 1016 |>.map (·.2)) [y] :: linePackets n a j y k ((l :: t).drop 1016)

/-- A complete line of a class L segment (R334). -/
def State.takeL (s : State) (n j : Nat) (g : Seg) (y : Nat) (ls : List (Nat × Nat)) : State :=
  let q := s.packs g.strand
  ((s.setPacks g.strand (q.1, q.2 ++ linePackets n g.addr j y ls.length ls)).setTaken n j y).rowsDue n g y

/-- Take line y of segment j in frame `n` if it is complete, still due and its strand sends; a class L line after the ROWs of the lines before
it. -/
def State.takeSeg (s : State) (n j : Nat) (g : Seg) (y : Nat) : State :=
  if !s.strandSends n g.strand || s.isTaken n j y || y < g.y || g.y + g.h ≤ y then s
  else
    let classL := s.img.segL g
    if !classL && s.dev.scan.under.contains (n, j) then s
    else if classL && s.rowHeld n g y then s
    else match s.lineLamps n g y with
      | none => s
      | some ls => if classL then s.takeL n j g y ls else s.takeH n j g y ls

/-- The class L lines of strand g that are complete are taken, in the order of their lines. -/
def State.takeRows (s : State) (n g : Nat) : State :=
  if (s.rowPartners g).isEmpty then s
  else (List.range s.img.canvasH).foldl (fun s y => (s.rowSegs g y).foldl (fun s p => s.takeSeg n p.1 p.2 y) s) s

/-- Codes of canvas line y of die d have been computed in frame `n`: the packer takes the segment lines that are complete, and the class L lines
that have waited for them. -/
def State.packLine (s : State) (n d y : Nat) : State :=
  let s := (s.img.segs.zipIdx.filter fun p => p.1.on && p.1.strand / 16 = d).foldl (fun s p => s.takeSeg n p.2 p.1 y) s
  (List.range 16).foldl (fun s i => s.takeRows n (16 * d + i)) s

/-! ### What the picture check takes, and the deadlines of groups (R336, R340, R341, R343) -/

/-- Rectangle k of die d with the register values `v`, clipped to the section. -/
def State.pckRect (s : State) (v : Nat → Nat) (d k : Nat) : Rect :=
  (⟨PCK_POS.X.get (v (PCK_POS d k)), PCK_POS.Y.get (v (PCK_POS d k)), PCK_SIZE.W.get (v (PCK_SIZE d k)),
    PCK_SIZE.H.get (v (PCK_SIZE d k))⟩ : Rect).clip (s.section d)

/-- The bytes of a pixel at STAGE 0b00: its composed components. -/
def State.pckCanvas (s : State) (n d x y : Nat) : Option (List Byte) :=
  let c := s.dev.comp
  match ((if n = s.tbFrame then c.full else c.fullOld).look [] (lineKey d y))[x - (s.section d).x]? with
  | some px => some (px.flatMap fun v => leBytes 2 v)
  | none => none

/-- The bytes of a pixel at STAGE 0b01: its drive codes. -/
def State.pckCodes (s : State) (n d x y : Nat) : Option (List Byte) :=
  match s.codeAt n d x y 0, s.codeAt n d x y 1, s.codeAt n d x y 2 with
  | some a, some b, some c => some (leBytes 2 a ++ leBytes 2 b ++ leBytes 2 c)
  | _, _, _ => none

/-- The bytes that rectangle k of die d takes of a pixel in frame `n`, when they have been produced. -/
def State.pckPixel (s : State) (n d k x y : Nat) : Option (List Byte) :=
  if PCK_CTL.STAGE.get (s.fReg n (PCK_CTL d k)) = 0 then s.pckCanvas n d x y else s.pckCodes n d x y

/-- The deadline of the groups of die d for which `hit` holds of a pixel passes in frame `n`: a rectangle with a pixel in such a group that
has not been produced at its stage is incomplete (R343). -/
def State.groupsDue (s : State) (n d : Nat) (hit : Nat → Nat → Bool) : State :=
  (List.range 16).foldl (fun s k =>
    if (s.pckRect (s.fReg n) d k).pixels.any fun p => hit p.1 p.2 && (s.pckPixel n d k p.1 p.2).isNone then
      s.setScan { s.dev.scan with late := (n, 16 * d + k) :: s.dev.scan.late.filter (· != (n, 16 * d + k)) }
    else s) s

/-- The canvas columns of the group of a pixel (R240). -/
def groupCols (x : Nat) : List Nat := (List.range 4).map fun i => 4 * (x / 4) + i

/-- The deadline of segment `g` (class H) or of its line `y` (class L) passes for the groups that feed it (R336). -/
def State.segGroups (s : State) (n : Nat) (g : Seg) (y : Nat) : State :=
  s.groupsDue n (g.strand / 16) fun px py => (!s.img.segL g || py = y) && (groupCols px).any fun c => g.rect.has c py

/-- The departure time of an Active strand of die d: the deadline of the groups whose pixels on the die feed no segment line (R336). -/
def State.freeGroups (s : State) (n d : Nat) : State :=
  s.groupsDue n d fun px py => (groupCols px).all fun c => !(s.section d).has c py || (s.img.segAt c py).isNone

/-! ### Underrun (R337) -/

/-- Codes of segment j of class H, or of line y of class L, have not all left in frame `n`. -/
def State.unsent (s : State) (n j : Nat) (g : Seg) (y : Nat) : Bool :=
  let q := s.packs g.strand
  if s.img.segL g then !s.isTaken n j y || q.2.any (·.ofLine n j y)
  else !s.allTaken n j g || q.1.any (·.ofSeg n j) || q.2.any (·.ofSeg n j)

/-- Segment j underruns in frame `n`: it is counted once a frame, and every deadline at which it underruns raises UNDERRUN (R337, R338). -/
def State.countUnder (s : State) (n j : Nat) (g : Seg) : State :=
  let d := g.strand / 16
  let first := !s.dev.scan.under.contains (n, j)
  let s := if !first then s
    else
      let s := s.setScan { s.dev.scan with under := (n, j) :: s.dev.scan.under }
      let s := (s.count (strReg STR_UNDERRUN_CNT g.strand)).setReg (strReg STR_UNDERRUN_LAST g.strand) (j % 2 ^ 16 * 2 ^ 16 + n % 2 ^ 16)
      (s.count (SCAN_UNDERRUN_CNT d)).setReg (SCAN_UNDERRUN_LAST d)
        (j % 2 ^ 16 * 2 ^ 16 + (if s.img.segL g then 128 else 0) + g.strand % 128)
  if first || s.img.segL g then (s.setF (SCAN_EVT d) SCAN_EVT.UNDERRUN 1).ev .underrun else s

/-- Segment j (class H) or its line `y` (class L) underruns in frame `n`: what has not left is dropped, a class L line keeps its ROW (R337).
-/
def State.drop (s : State) (n j : Nat) (g : Seg) (y : Nat) : State :=
  let s := s.countUnder n j g
  let q := s.packs g.strand
  if s.img.segL g then
    let s := s.setPacks g.strand (q.1, q.2.filter fun it => !it.ofLine n j y)
    let s := s.setScan { s.dev.scan with cut := (n, j * 65536 + y) :: s.dev.scan.cut }
    if s.isTaken n j y then s else ((s.setTaken n j y).rowsDue n g y).takeRows n g.strand
  else s.setPacks g.strand (q.1.filter fun it => !it.ofSeg n j, q.2.filter fun it => !it.ofSeg n j)

/-- The deadline of segment j (class H) or of its line `y` (class L) passes in frame `n`: for its groups (R336), and for its codes; a line of a
strand that does not send then is not sent later and does not underrun (R337). -/
def State.deadline (s : State) (n j : Nat) (g : Seg) (y : Nat) : State :=
  let s := s.segGroups n g y
  if s.strandSends n g.strand then (if s.unsent n j g y then s.drop n j g y else s)
  else if s.img.segL g && g.y ≤ y && y < g.y + g.h && !s.isTaken n j y then s.setTaken n j y
  else s

/-- The deadline of line y of a class L segment in frame `n`, in ticks of the frame (R335). -/
def State.rowDeadline (s : State) (n : Nat) (g : Seg) (y : Nat) : Nat :=
  (s.rowOf n g y).2 + TB_LAUNCH.LAUNCH_OFS.get (s.fReg n TB_LAUNCH) - s.f (strReg STR_TIMING g.strand) STR_TIMING.FDMAX - 1600

/-- The class L lines of the frame in force whose deadline `t` holds of have come to it (R335). -/
def State.rowsPass (s : State) (t : Nat → Bool) : State :=
  let n := s.tbFrame
  (s.img.segs.zipIdx.filter fun p => p.1.on && s.live (p.1.strand / 16) && s.img.segL p.1).foldl (fun s p =>
    (List.range p.1.h).foldl (fun s i => if t (s.rowDeadline n p.1 (p.1.y + i)) then s.deadline n p.2 p.1 (p.1.y + i) else s) s) s

/-- Tick 0 of line `y`: the deadlines since the line before (R335). -/
def State.rowsLine (s : State) (y : Nat) : State :=
  let lt := s.dev.tb.ras.lineTicks
  s.rowsPass fun t => decide (t ≤ y * lt) && (y = 0 || decide ((y - 1) * lt < t))

/-- The frame in force ends: every class L deadline of it has passed (R334, R335). -/
def State.rowsEnd (s : State) : State := s.rowsPass fun _ => true

/-- The departure time of strand g's marker of frame `n`: unsent segments underrun (R89, R335). -/
def State.departDrops (s : State) (n g : Nat) : State :=
  (s.segsOf g).foldl (fun s p =>
    if s.img.segL p.2 then (List.range p.2.h).foldl (fun s i => s.deadline n p.1 p.2 (p.2.y + i)) s
    else s.deadline n p.1 p.2 p.2.y) s

/-! ### Launch markers (R89, R272, R276) -/

/-- lead_s of strand g (R89). -/
def State.lead (s : State) (g : Nat) : Nat :=
  max (s.f TB_LAUNCH TB_LAUNCH.SYNC_LEAD) (s.f (strReg STR_TIMING g) STR_TIMING.FDMAX + 1600)

/-- Strand g carries launch markers: Active with its forward direction not OFF, in Link test between windows (R321), sending the hold stream
(R299), or the fence stream (R27). -/
def State.marked (s : State) (g : Nat) : Bool :=
  (s.live (g / 16) &&
    ((s.strandActive g && s.f (strReg STR_SLEEP_STAT g) STR_SLEEP_STAT.FWD != 2) || (s.strandIn g 12 && (s.strand g).test.isNone) ||
      s.b (strReg STR_STATE g) STR_STATE.HOLDING)) || (s.strand g).fence

/-- The class H partners of strand g whose segments underran in frame `n`. (DEDUCED: notes/assumptions/37.md) -/
def State.vetoFor (s : State) (n g : Nat) : List Nat :=
  ((s.segsOf g).filter fun p => !s.img.segL p.2 && s.dev.scan.under.contains (n, p.1)).map (·.2.addr) |>.eraseDups

/-- A partner of strand g is to swap in frame `n`, in which the partners `vs` are vetoed. (DEDUCED: notes/assumptions/37.md) -/
def State.swaps (s : State) (n g : Nat) (vs : List Nat) : Bool :=
  s.strandSends n g && match s.img.strand g with
    | some e => e.chain.zipIdx.any fun p => p.1.classL || !vs.contains p.2
    | none => false

/-- In Reload a trained strand sends FRAME_SYNC and KEEP for every frame (R34, R73): its partners, all of class H, are vetoed and hold.
(DEDUCED: notes/assumptions/37.md) -/
def State.reloads (s : State) (n g : Nat) : Bool :=
  s.rasterOn && !s.critStop && s.strandActive g && modeOf (s.fReg n) = .reload

/-- CHIP_MODE.MODE and the line in force, as a SYNC block carries them (R271). -/
def State.syncCtl (s : State) (line : Nat) : Ctl := .sync (s.f CHIP_MODE CHIP_MODE.MODE) line s.tbFrame

/-- A SYNC block goes onto strand g. -/
def State.sendSync (s : State) (g line : Nat) : State :=
  let s := s.setStrand g { s.strand g with sync := some (line, s.tbFrame) }
  s.send g (.ctl (s.syncCtl line))

/-- The head of the burst of SYNC_ONLY: 64 TRAIN WAKEUP blocks, MARK, SYNC (R314). -/
def State.burstHead (s : State) (g : Nat) : State :=
  let wake (i : Nat) : Tx := .ctl (.train ⟨9, 0, (s.strand g).rate, false, false, false, false, false, 0, 63 - i, 0⟩)
  let s := (List.range 64).foldl (fun s i => s.send g (wake i)) s
  (s.send g .mark).sendSync g (s.dev.tb.line - 1)

/-- The launch marker of frame `n` leaves on strand g, `adj` after its departure time: FRAME_SYNC where a partner is to swap, else KEEP, then
the vetoes (R272, R275, R276); in Reload FRAME_SYNC and a veto of all (R73). (DEDUCED: notes/assumptions/37.md) -/
def State.markerOut (s : State) (n g adj : Nat) : State :=
  if !s.marked g then s
  else
    let us := s.vetoFor n g
    let hold := s.reloads n g
    let vs := if hold || 8 < us.length then [0x3FF] else us
    let lead := s.lead g
    let sync := hold || s.swaps n g us
    let s := (s.setStrand g { s.strand g with marker := some (n, sync, lead), vetoes := vs }).countN (strReg STR_KEEP_CNT g) vs.length
    let s := if s.strandActive g && s.f (strReg STR_SLEEP_STAT g) STR_SLEEP_STAT.FWD = 1 then s.burstHead g else s
    let s := if sync then ((s.gap g).deafen n g).send g (.frameSync n lead adj) else s.send g (.ctl (.keep lead n adj 0x3FF true))
    vs.foldl (fun s a => s.send g (.ctl (.keep 0 n 0 a false))) s

/-- R89 on strand g for frame `n`. -/
def State.departure (s : State) (n g adj : Nat) : State :=
  if s.hasFrame n then
    let s := if s.strandActive g then s.freeGroups n (g / 16) else s
    (s.departDrops n g).markerOut n g adj
  else s

/-! ### Picture check (R340 to R343) -/

/-- Rectangle k of die d at FRAME_DONE of frame `n`: a pixel that has not been produced by its group's deadline, or by then, makes it
incomplete (R343). (DEDUCED: notes/assumptions/36.md) -/
def State.pckOne (s : State) (n d k : Nat) : State :=
  let v := s.fReg n
  let r := s.pckRect v d k
  if r.empty then s.setReg (PCK_RES d k) 0xFFFFFFFF
  else if !s.composedIn n (modeOf v) d then s
  else
    let ps := r.pixels.map fun p => s.pckPixel n d k p.1 p.2
    if s.dev.scan.late.contains (n, 16 * d + k) || !ps.all (·.isSome) then (s.leafBit d (PCK_STATUS d) PCK_STATUS.INCOMPLETE k).count (PCK_INCOMPLETE_CNT d)
    else
      let res := (crc32 (ps.filterMap id).flatten).toNat
      let s := (s.setReg (PCK_RES d k) res).setReg (PCK_FRAME d k) (n % 2 ^ 32)
      if PCK_CTL.CMP_EN.get (v (PCK_CTL d k)) = 1 && res != v (PCK_EXP d k) then
        let s := ((s.setBitF (PCK_STATUS d) PCK_STATUS.MISMATCH k).count (PCK_MISM_CNT d)).ev .pckMismatch
        if k = 15 && s.bound15 v d then s.lanyMismatch d else s
      else s

/-! ### FRAME_DONE (R339, R188, R110, R360) -/

/-- What a release of pin entries frees: the capture buffers in REL and the ring slot in release, for which a frame may be fetched (R360). -/
def State.afterRelease (s : State) : State :=
  let s := s.releasePins
  let s := s.onDies fun s d =>
    let b := s.sr d
    if b != 3 && !(List.range s.dies).any fun e => (s.pins e).any fun p => p.owner = .src d b && p.release.isSome then s.srcFrameDone d else s
  match s.dev.coil.released with
  | some (_, f) => if f < s.sentAll then { s with dev := { s.dev with coil := { s.dev.coil with released := none } } }.coilFetch else s
  | none => s

/-- FRAME_DONE of frame `n` fires on die d, `ticks` after the frame's start. -/
def State.fireDone (s : State) (n d ticks : Nat) (empty : Bool) : State :=
  let s := s.setScan { s.dev.scan with done := s.dev.scan.done.put 0 d (s.placeOf n + 1) }
  let s := (s.setReg (SCAN_DONE_FRAME_LO d) (n % 2 ^ 32)).setReg (SCAN_DONE_FRAME_HI d) ((if empty then 2 ^ 31 else 0) + n / 2 ^ 32 % 2 ^ 16)
  let s := ((s.setReg (SCAN_DONE_TICK d) (ticks % 2 ^ 32)).setF (SCAN_EVT d) SCAN_EVT.FRAME_DONE 1).ev .frameDone
  let s := (List.range 16).foldl (fun s k => s.pckOne n d k) s
  (s.fullySent d (s.placeOf n)).afterRelease

/-- Drive packets of frame `n` on die d are still to leave. -/
def State.drivesLeft (s : State) (n d : Nat) : Bool :=
  (List.range 16).any fun i =>
    let q := s.packs (16 * d + i)
    (q.1 ++ q.2).any fun it => match it with
      | .drive f .. => f = n
      | .row .. => false

/-- FRAME_DONE of frame `n` may fire on die d: not yet fired, and no packet is left. Where none has left, it fires with EMPTY once the frame
has ended: those that were still queued then have all been dropped (R339). -/
def State.frameDone (s : State) (d n ticks : Nat) : State :=
  let sent := s.dev.scan.sentAny.contains (n, d)
  if s.live d && s.hasFrame n && s.dev.scan.done.look 0 d ≤ s.placeOf n && (sent || n != s.tbFrame) && !s.drivesLeft n d then s.fireDone n d ticks (!sent)
  else s

/-- The frame in force ends: a die that has sent no drive packet of it fires FRAME_DONE with EMPTY (R339). -/
def State.emptyDone (s : State) : State :=
  let n := s.tbFrame
  s.onDies fun s d =>
    if s.dev.scan.done.look 0 d ≤ s.dev.tb.place && !s.dev.scan.sentAny.contains (n, d) && !s.drivesLeft n d then s.fireDone n d s.frameTicks true else s

/-- A new frame starts: the codes of the frame before are kept, what is older is forgotten. -/
def State.scanFrameStart (s : State) : State :=
  let c := s.dev.scan
  let n := s.tbFrame
  let recent (f : Nat) : Bool := f != n && s.prevFrame = some f
  s.setScan { c with
    codes := [], codesOld := c.codes, taken := c.taken.filter fun e => recent e.1, under := c.under.filter fun e => recent e.1
    cut := c.cut.filter fun e => recent e.1
    sentAny := c.sentAny.filter fun e => recent e.1, late := c.late.filter fun e => recent e.1 }

/-! ### Belay (R345 to R348) -/

/-- BLY_STATUS for the frame that starts with the register values `v`: ACTIVE, the dies that compose, and those without a usable
surface. -/
def State.belayFrameStart (s : State) (v : Nat → Nat) : State :=
  if modeOf v = .belay then
    let bits (f : Nat → Bool) : Nat := s.liveDies.foldl (fun m d => if f d then setBit m d else m) 0
    s.setReg BLY_STATUS (2 ^ 31 + bits (s.refreshDie v) * 2 ^ 16 + bits (fun d => !s.surfaceOk v d) * 2 ^ 8)
  else s.setReg BLY_STATUS 0

/-! ### Events (R338) -/

/-- Tick 0 of line CANVAS_H on every die. -/
def State.vbStart (s : State) : State :=
  if s.rasterOn then s.onDies fun s d => (s.setF (SCAN_EVT d) SCAN_EVT.VB_START 1).ev .vbStart else s

/-- Tick 0 of the line that SCAN_LMk names in this frame. -/
def State.lineMatch (s : State) (d k : Nat) : State :=
  if s.rasterOn && s.live d && k < 4 && s.wb (SCAN_LM d k) SCAN_LM.EN && s.wf (SCAN_LM d k) SCAN_LM.LINE < s.dev.tb.ras.vtotal then
    (s.setBitF (SCAN_EVT d) SCAN_EVT.LM k).ev (.lineMatch k)
  else s

/-- A line match. -/
def execLineMatch (d k : Nat) (s : State) : Out := .next (s.runDev (·.lineMatch d k))

/-- A line's deadline passes with codes unsent: of segment `seg`, for class L its canvas line `line`, in frame `frame`. -/
def execSegmentDeadline (seg line frame : Nat) (s : State) : Out :=
  .next (s.runDev fun s =>
    match s.img.segs[seg]? with
    | some g => if s.hasFrame frame && g.on then s.deadline frame seg g line else s
    | none => s)

/-- The last drive packet of frame `frame` has left die d. (DEDUCED: notes/assumptions/44.md) -/
def execFrameDone (d frame ticks : Nat) (s : State) : Out := .next (s.runDev (·.frameDone d frame ticks))

end Sys2Proof.Machine
end

