-- ==== Sys2Proof/Machine/Strand.lean ====
section
/-! DEFINITION. Strands: bring-up (R292 to R307), enumeration, stamps and trims (R90, R91, R305), commands to partners (R289, R290), back
messages (R279), receiver adaptation (R309, R310), sleep (R311 to R317), link test (R318 to R321). A strand is named by its global
lowest lane g. -/
namespace Sys2Proof.Machine

/-! ### States -/

/-- STR_STATE.STATE of strand g. -/
def State.strState (s : State) (g : Nat) : Nat := s.f (strReg STR_STATE g) STR_STATE.STATE

/-- Set STR_STATE.STATE. -/
def State.setStrState (s : State) (g c : Nat) : State := s.setF (strReg STR_STATE g) STR_STATE.STATE c

/-- Change strand g. -/
def State.onStrand (s : State) (g : Nat) (f : StrandSt → StrandSt) : State := s.setStrand g (f (s.strand g))

/-- The strands of the strand map with partners, by lowest lane. -/
def State.strandList (s : State) : List Nat := (s.img.strands.filter fun e => !e.chain.isEmpty).map (·.lane)

/-- Strand g is in the map and its die is live. -/
def State.strandOk (s : State) (g : Nat) : Bool := s.strandList.contains g && s.live (g / 16)

/-- The map's entry of strand g. -/
def State.strEnt (s : State) (g : Nat) : StrandEnt := (s.img.strand g).getD ⟨g, 1, []⟩

/-- Partners of the current enumeration. -/
def State.partners (s : State) (g : Nat) : Nat := s.f (strReg STR_LINK g) STR_LINK.PARTNERS

/-- The bond lanes of a width code. -/
def bondLanes (w : Nat) : List Nat := List.range (laneCount w)

/-- A register of bond lane b of strand g. -/
def laneReg (r : Nat → Nat → Nat) (g b : Nat) : Nat := strReg r (g + b)

/-- Set a leaf bit of strand g. -/
def State.strLeaf (s : State) (g a : Nat) (f : Fd) : State := s.leaf (g / 16) a f

/-- Set a bit of STR_PERR. -/
def State.perr (s : State) (g : Nat) (f : Fd) : State := s.strLeaf g (strReg STR_PERR g) f

/-! ### Commands to partners (R289, R290) -/

/-- No command that needs a reply leaves: the back direction is OFF, or has been woken and its window has not ended (R317).
(DEDUCED: notes/assumptions/37.md) -/
def State.backHeld (s : State) (g : Nat) : Bool := s.b (strReg STR_SLEEP_STAT g) STR_SLEEP_STAT.BACK || (s.strand g).backWake

/-- The forward direction sleeps, and no burst or wake lets commands leave: its line is electrically idle (R311, R314). -/
def State.fwdShut (s : State) (g : Nat) : Bool :=
  s.strandActive g && s.f (strReg STR_SLEEP_STAT g) STR_SLEEP_STAT.FWD != 0 && (s.strand g).burst = 0

/-- Command `c` leaves with the next TAG, or waits: behind the one outstanding to the same partner, for the back direction, or for the forward
direction. -/
def State.issue (s : State) (g : Nat) (c : Cmd) : State :=
  let t := s.strand g
  if s.backHeld g || s.fwdShut g || t.out.any (·.addr = c.addr) then s.setStrand g { t with wait := t.wait ++ [c] }
  else
    let s := s.setStrand g { t with out := t.out ++ [{ c with tag := t.tag }], tag := (t.tag + 1) % 64 }
    s.send g (.ctl (.cmd c.op c.addr t.tag c.arg0 c.arg1 0))

/-- A command for partner `addr` of strand g. -/
def State.sendCmd (s : State) (g addr op arg0 arg1 : Nat) (host : Bool) : State := s.issue g ⟨addr, op, 0, arg0, arg1, 0, host, false⟩

/-- Every command that waits is issued again, the part's own before the host's. -/
def State.flushCmds (s : State) (g : Nat) : State :=
  let w := (s.strand g).wait
  (w.filter (!·.host) ++ w.filter (·.host)).foldl (fun s c => s.issue g c) (s.onStrand g fun t => { t with wait := [] })

/-- The outstanding command that a reply with this address and TAG completes. -/
def State.cmdOf (s : State) (g addr tag : Nat) : Option Cmd := (s.strand g).out.find? fun c => c.addr = addr && c.tag = tag

/-- The outstanding command to `addr` ends; the first one that waits for the same partner, the part's own before the host's, leaves. -/
def State.endCmd (s : State) (g addr : Nat) : State :=
  let t := s.strand g
  let t := { t with out := t.out.filter (·.addr != addr) }
  match (t.wait.find? fun c => c.addr = addr && !c.host).or (t.wait.find? (·.addr = addr)) with
  | none => s.setStrand g t
  | some c => (s.setStrand g { t with wait := t.wait.erase c }).issue g c

/-- The host's command on strand g ends with `result`. -/
def State.pcmdEnd (s : State) (g result : Nat) : State :=
  (s.setF (strReg STR_PCMD_STAT g) STR_PCMD_STAT.BUSY 0).setF (strReg STR_PCMD_STAT g) STR_PCMD_STAT.RESULT result

/-- A test window in progress ends without a result (R319). -/
def State.testStop (s : State) (g : Nat) : State :=
  if (s.strand g).test.isNone then s
  else
    (bondLanes (s.strand g).width).foldl (fun s b => s.setF (laneReg STR_PRBS_STAT g b) STR_PRBS_STAT.BUSY 0)
      (s.onStrand g fun t => { t with test := none })

/-- Every command of strand g ends: the host's with LINK_DOWN (R290); a test ends with them. -/
def State.dropCmds (s : State) (g : Nat) : State :=
  let s := (s.testStop g).onStrand g fun t => { t with
    out := [], wait := [], bcast := [], burst := 0, primer := false, rtts := [], trimDue := [], reads := [] }
  if s.b (strReg STR_PCMD_STAT g) STR_PCMD_STAT.BUSY then s.pcmdEnd g 5 else s

/-- The back direction goes OFF: no stamp is made, the part's other commands wait, and the host's end with REFUSED (R317).
(DEDUCED: notes/assumptions/37.md) -/
def State.holdCmds (s : State) (g : Nat) : State :=
  let s := s.onStrand g fun t => { t with
    out := [], wait := (t.out ++ t.wait).filter fun c => !c.host && c.op != 3, primer := false, rtts := [] }
  if s.b (strReg STR_PCMD_STAT g) STR_PCMD_STAT.BUSY then s.pcmdEnd g 4 else s

/-- A broadcast without a reply is to leave: three copies with one TAG (R312). -/
def State.bcast (s : State) (g op arg0 arg1 : Nat) : State :=
  s.onStrand g fun t => { t with bcast := t.bcast ++ [⟨op, t.tag, arg0, arg1, 3⟩], tag := (t.tag + 1) % 64 }

/-- The FWD_STATE slots of a wake from OFF: they leave behind the preamble, before the broadcasts that have waited (R316). -/
def State.wakeTell (s : State) (g st frame : Nat) : State :=
  s.onStrand g fun t => { t with
    bcast := t.bcast.filter (·.left < 3) ++ [⟨8, t.tag, st, frame, 3⟩] ++ t.bcast.filter (3 ≤ ·.left), tag := (t.tag + 1) % 64
    burst := (t.bcast.filter (·.left < 3)).length + 1 }

/-- The broadcast stands first and has copies to leave; its first copy needs a forward direction that carries it. -/
def State.bcastDue (s : State) (g : Nat) (b : Bcast) (op tag arg0 arg1 : Nat) : Bool :=
  b.op = op && b.tag = tag && b.arg0 = arg0 && b.arg1 = arg1 && (b.left < 3 || !s.fwdShut g)

/-- A copy of a broadcast reaches the partners, when it is the one outstanding (R289): the first one puts all three on the line, in consecutive
control slots (R312). (DESIGN CHOICE: notes/assumptions/51.md) -/
def State.bcastLeaves (s : State) (g op tag arg0 arg1 : Nat) : State :=
  match (s.strand g).bcast with
  | b :: t =>
    if s.bcastDue g b op tag arg0 arg1 then
      let s := if b.left < 3 then s else (List.range 3).foldl (fun s _ => s.send g (.ctl (.cmd op 0x3FF tag arg0 arg1 0))) s
      s.onStrand g fun st => { st with
        bcast := if b.left ≤ 1 then t else { b with left := b.left - 1 } :: t
        burst := if b.left ≤ 1 then st.burst - 1 else st.burst }
    else s
  | [] => s

/-- A GO of STR_PCMD on strand g (R290, R317). (DEDUCED: notes/assumptions/36.md, DEDUCED: notes/assumptions/37.md) -/
def State.pcmdGo (s : State) (g : Nat) : State :=
  let a := strReg STR_PCMD g
  let op := s.f a STR_PCMD.OP
  let reg := s.f a STR_PCMD.REG
  let addr := s.f a STR_PCMD.ADDR
  if s.b (strReg STR_PCMD_STAT g) STR_PCMD_STAT.BUSY || 2 ≤ op then s
  else if op = 1 && (reg ≤ 2 || (6 ≤ reg && reg ≤ 0xF)) then s.pcmdEnd g 4
  else if !s.strandActive g then s.pcmdEnd g 5
  else if s.b (strReg STR_SLEEP_STAT g) STR_SLEEP_STAT.BACK then s.pcmdEnd g 4
  else if op = 1 && addr = 0x3FF then (s.bcast g 5 reg (s.reg (strReg STR_PCMD_WDATA g))).pcmdEnd g 0
  else (s.sendCmd g addr (if op = 0 then 6 else 5) reg (if op = 0 then 0 else s.reg (strReg STR_PCMD_WDATA g)) true).setF
    (strReg STR_PCMD_STAT g) STR_PCMD_STAT.BUSY 1

/-! ### Forward lanes (R292, R293, R320) -/

/-- What a forward lane carries (R27, R34, R292, R299, R311, R319, R443). -/
inductive LaneOut where
  | off
  | training
  | normal
  | burst
  | prbs
  | hold
  | fence
  | cal
deriving DecidableEq, Repr

/-- The pattern of a lane under calibration: 32 ones and 32 zeros in turn (R443). -/
def calBit (i : Nat) : Bool := i / 32 % 2 = 0

/-- What bond lane `b` of strand g carries now. Between the bursts of SYNC_ONLY it is idle. -/
def State.carries (s : State) (g b : Nat) : LaneOut :=
  let t := s.strand g
  let mine := decide (b < laneCount t.width)
  if t.fence then (if mine then .fence else .off)
  else if !s.live (g / 16) then .off
  else match s.strState g with
  | 0 => if s.mode = .calibrate then .cal else .off
  | 2 => if s.b (strReg STR_STATE g) STR_STATE.HOLDING then (if mine then .hold else .off) else if s.mode = .calibrate then .cal else .off
  | 3 | 4 | 5 | 6 => if b < ((s.img.strand g).getD ⟨g, 1, []⟩).width then .training else .off
  | 7 | 8 => if mine then .training else .off
  | 9 => if mine then .normal else .off
  | 10 => match s.f (strReg STR_SLEEP_STAT g) STR_SLEEP_STAT.FWD with
    | 0 => if mine then .normal else .off
    | 1 => if b = 0 then .burst else .off
    | _ => .off
  | 11 => if b = 0 then (if t.stage = 4 then .training else .normal) else .off
  | 12 => if !mine then .off else match t.test with
    | some (0, _) | some (1, _) => .prbs
    | _ => .normal
  | _ => .off

/-- An injection of single or burst mode on lane n of die d is done: MODE returns to 0 (R320). -/
def State.injDone (s : State) (d n mode : Nat) : State :=
  if s.f (STR_PRBS_INJ d n) STR_PRBS_INJ.MODE = mode then s.setF (STR_PRBS_INJ d n) STR_PRBS_INJ.MODE 0 else s

/-- `n` bits inverted on bond lane `b` damage the IDLE slots in which they lie: every partner of the strand counts them as receive errors,
where the lane carries blocks (R269, R320). (DESIGN CHOICE: notes/assumptions/51.md) -/
def State.injHits (s : State) (g b n : Nat) : State :=
  if [LaneOut.training, .normal, .burst, .hold].contains (s.carries g b) then
    (s.dev.partners.filter fun e => e.1 / 512 = g).foldl (fun s e =>
      (List.range (invertSlots n)).foldl (fun s _ => s.setPartner g (e.1 % 512) (s.partner g (e.1 % 512)).damaged) s) s
  else s

/-- `n` bits are inverted on bond lane `b`. -/
def State.injBits (s : State) (g b n : Nat) : State := if n = 0 then s else (s.send g (.invert b n)).injHits g b n

/-- Bond lane `b` of strand g transmits: its pending single or burst injection inverts the next bits (R320). -/
def State.injLane (s : State) (g b : Nat) : State :=
  let d := g / 16
  let n := g % 16 + b
  match s.f (STR_PRBS_INJ d n) STR_PRBS_INJ.MODE with
  | 1 => (s.injBits g b 1).injDone d n 1
  | 2 => (s.injBits g b (s.f (STR_PRBS_INJ d n) STR_PRBS_INJ.BURST)).injDone d n 2
  | _ => s

/-- Bits inverted on bond lane `b` by rate mode, counted from the first bit that the lane sends in that mode (R320). -/
def State.rateInverts (s : State) (g b i : Nat) : Bool :=
  let a := STR_PRBS_INJ (g / 16) (g % 16 + b)
  s.f a STR_PRBS_INJ.MODE = 3 && injectAt 3 (s.f a STR_PRBS_INJ.N) 0 i

/-- The bits that bond lane `b` of strand g puts on the line for what the strand has sent since the line started: from slot number `n` on, MARKs
from MSEQ `q` of slot 0, with the injected errors; `k`: bits that the lane has sent in rate mode before (R264 to R267, R320). -/
def State.lineBits (s : State) (g b n q k : Nat) : List Bool :=
  let t := s.strand g
  txBits g (laneCount t.width) t.width t.rate q b n (fun i => s.rateInverts g b (k + i)) t.sent

/-- Bond lane `b` of strand g transmits now. -/
def State.transmits (s : State) (g b : Nat) : Bool := s.carries g b != .off && s.carries g b != .burst

/-- The injection that waits on a lane which transmits now; a burst of 0 bits ends at once (R320, R323). (DEDUCED: notes/assumptions/40.md) -/
def State.injNow (s : State) (g b : Nat) : State := if s.transmits g b then s.injLane g b else s

/-- The injections that wait on the lanes of strand g which transmit now. -/
def State.injStrand (s : State) (g : Nat) : State := (List.range 4).foldl (fun s b => s.injNow g b) s

/-! ### Bring-up (R296 to R306) -/

/-- The strand's CTL as of the last Detect. -/
def State.bringCtl (s : State) (g : Nat) : Nat := (s.strand g).ctl

/-- MIN_WIDTH as a width code. -/
def State.minWidth (s : State) (g : Nat) : Nat := min 2 (STR_CTL.MIN_WIDTH.get (s.bringCtl g))

/-- The width code of the strand map. -/
def State.mapWidth (s : State) (g : Nat) : Nat := match (s.strEnt g).width with
  | 1 => 0
  | 2 => 1
  | _ => 2

/-- The width codes that the part can offer with the bond lanes seen (R300). -/
def State.offered (s : State) (g seen : Nat) : List Nat :=
  [0, 1, 2].filter fun w => decide (w ≤ s.mapWidth g) && (bondLanes w).all fun b => bitOf seen b

/-- A width of at least MIN_WIDTH can be offered with the bond lanes seen (R300). -/
def State.detects (s : State) (g seen : Nat) : Bool := (s.offered g seen).any fun w => s.minWidth g ≤ w

/-- Enter a state of bring-up with its first attempt. -/
def State.enterStep (s : State) (g c : Nat) : State :=
  ((s.onStrand g fun t => { t with att := 0, stage := 0, eqDone := 0 }).setStrState g c).setF (strReg STR_STATE g) STR_STATE.ATTEMPT 1

/-- STRAND_DOWN for a new episode (R299). -/
def State.strandDown (s : State) (g : Nat) : State :=
  let s := s.onStrand g fun t => { t with episode := true, due := false }
  ((s.setF (strReg STR_EVT g) STR_EVT.DOWN 1).count (strReg STR_DOWN_CNT g)).ev .strandDown

/-- The hold stream is sent: in BACKOFF under DOWN_POLICY HOLD, when the strand has been Active since it left OFF (R299). -/
def State.holding (s : State) (g : Nat) : State :=
  let on := s.strState g = 2 && s.f (strReg STR_CTL g) STR_CTL.DOWN_POLICY = 1 && (s.strand g).since
  (s.setB (strReg STR_STATE g) STR_STATE.HOLDING on).injStrand g

/-- Enter BACKOFF, with the last selection in force for the hold stream: STRAND_DOWN for an episode that has not raised it (R299). (DEDUCED:
notes/assumptions/37.md) -/
def State.toBackoff (s : State) (g : Nat) : State :=
  let s := s.onStrand g fun t => { t with rate := t.sel.1, back := t.sel.2.1, width := t.sel.2.2 }
  let s := ((s.setStrState g 2).holding g).setF (strReg STR_STATE g) STR_STATE.ATTEMPT 0
  let t := s.strand g
  if (!t.since && !t.episode) || t.due then s.strandDown g else s

/-- Strand g takes the calibrated trims that wait for its Detect; when no strand of its die waits any more they are the die's (R443).
(DEDUCED: notes/assumptions/17.md) -/
def State.trimDetect (s : State) (g : Nat) : State :=
  if !(s.strand g).trimWait then s
  else
    let d := g / 16
    let ws := s.dev.cal.strNew.look [] d
    let s := s.onStrand g fun t => { t with trimWait := false, trimSet := ws }
    if s.strandList.any fun x => x / 16 = d && (s.strand x).trimWait then s
    else
      let s := s.trimTake d rowStrand ws
      s.setCal { s.dev.cal with strNew := s.dev.cal.strNew.put [] d [] }

/-- Enter Detect: CTL and PRESET take effect (R296, R297). In Dormant the strand waits in BACKOFF instead (R292). -/
def State.toDetect (s : State) (g : Nat) : State :=
  if s.mode = .dormant then (s.onStrand g fun t => { t with waitDone := true }).toBackoff g
  else
    let s := s.trimDetect g
    let s := s.onStrand g fun t => { t with
      ctl := s.reg (strReg STR_CTL g), preset := s.reg (strReg STR_PRESET g), waitDone := false }
    ((s.setF (strReg STR_STATE g) STR_STATE.HOLDING 0).enterStep g 3).injStrand g

/-- Record a failure: step and cause (R298). -/
def State.failWith (s : State) (g cause : Nat) : State :=
  (s.setF (strReg STR_STATE g) STR_STATE.FAIL_STEP (s.strState g)).setF (strReg STR_STATE g) STR_STATE.FAIL_CAUSE cause

/-- The transmitter setting at the start of EQ (R303). -/
def presetOf (v : Nat) : Nat × Nat :=
  let pre := STR_PRESET.PRE.get v
  let post := STR_PRESET.POST.get v
  if pre ≤ 6 && post ≤ 12 && pre + post ≤ 14 then (pre, post) else (2, 6)

/-- An attempt of EQ starts from the preset on every selected lane. -/
def State.eqStart (s : State) (g : Nat) : State :=
  let p := presetOf (s.strand g).preset
  let s := s.onStrand g fun t => { t with eqReq := [], eqDone := 0 }
  (bondLanes (s.strand g).width).foldl (fun s b => s.setReg (laneReg STR_EQ g b) (p.2 * 2 ^ 12 + p.1 * 2 ^ 8)) s

/-- Enumeration starts: ENUM with COUNT = 0 leaves, and what the last one assigned and measured is void (R279, R305).
(DEDUCED: notes/assumptions/52.md) -/
def State.enumStart (s : State) (g : Nat) : State :=
  let a := strReg STR_LINK g
  let s := ((s.dropCmds g).setF a STR_LINK.PARTNERS 0).setF a STR_LINK.ANY_L 0 |>.setF a STR_LINK.ANY_H 0
  let s := (s.setF (strReg STR_TIMING g) STR_TIMING.VALID 0).setF (strReg STR_TIMING g) STR_TIMING.FDMAX 0
  let s := s.onStrand g fun t => { t with
    decls := [], parts := [], stage := 0, fds := [], jumps := [], trims := [], flags := [], temps := []
    bcast := [⟨1, t.tag, 0, 0, 1⟩], tag := (t.tag + 1) % 64 }
  match (s.strand g).bcast with
  | b :: _ => s.send g (.ctl (.cmd 1 0x3FF b.tag 0 0 0))
  | [] => s

/-- Repeat the step in progress. -/
def State.restartStep (s : State) (g : Nat) : State :=
  let s := (s.onStrand g fun t => { t with stage := 0, eqDone := 0 }).setF (strReg STR_STATE g) STR_STATE.ATTEMPT ((s.strand g).att + 1)
  match s.strState g with
  | 7 => s.eqStart g
  | 9 => s.enumStart g
  | _ => s

/-- Enter blind start (R306), at its attempt `n`: width 1, 3.125 Gb/s. -/
def State.toBlind (s : State) (g n : Nat) : State :=
  let s := ((s.enterStep g 11).onStrand g fun t => { t with att := n }).setF (strReg STR_STATE g) STR_STATE.ATTEMPT (n + 1)
  let p := presetOf (s.strand g).preset
  (((s.dropCmds g).onStrand g fun t => { t with rate := 0, back := 8, width := 0, stage := 4 }).setReg (laneReg STR_EQ g 0)
    (p.2 * 2 ^ 12 + p.1 * 2 ^ 8)).injStrand g

/-- An attempt of the step in progress fails (R296, R297). -/
def State.stepFail (s : State) (g cause : Nat) : State :=
  let c := s.strState g
  let s := (s.failWith g cause).count (strReg STR_FAIL_CNT g)
  let n := (s.strand g).att + 1
  let s := s.onStrand g fun t => { t with att := n }
  if n ≤ STR_CTL.RETRIES.get (s.bringCtl g) then (if c = 11 then s.toBlind g n else s.restartStep g)
  else if c = 3 || c = 11 || STR_CTL.BLIND_EN.get (s.bringCtl g) = 0 then s.toBackoff g
  else s.toBlind g 0

/-- The strand is in Detect or a step of bring-up. -/
def State.training (s : State) (g : Nat) : Bool := (3 ≤ s.strState g && s.strState g ≤ 9) || s.strState g = 11

/-- The strand leaves ACTIVE with a cause (R307): packets are dropped, commands end, backoff starts anew. -/
def State.leaveActive (s : State) (g cause : Nat) : State :=
  let s := (s.failWith g cause).dropCmds g
  let s := (s.setPacks g ([], [])).setReg (strReg STR_SLEEP_STAT g) 0
  let s := (s.setF (strReg STR_STATE g) STR_STATE.BLIND 0).setF (strReg STR_STATE g) STR_STATE.BACKOFF 0
  s.onStrand g fun t => { t with backWake := false, fwdNext := none, winFault := false, wakeHeld := false, burst := 0 }

/-- Loss of an Active strand: STRAND_DOWN and BACKOFF. -/
def State.strandLoss (s : State) (g cause : Nat) : State := ((s.leaveActive g cause).strandDown g).toBackoff g

/-- The first MARK of a back wake opens the window of R309 (R316). -/
def State.backMark (s : State) (g : Nat) : State :=
  if s.strandActive g && (s.strand g).backWake then s.setReg (strReg STR_ADAPT g) (2 ^ 30) else s

/-- Block lock on the bond lanes `lanes`, inverted on `inv`: in Detect (R300), or in a back wake, where it comes with the first MARK.
(DEDUCED: notes/assumptions/37.md) -/
def State.blockLock (s : State) (g lanes inv : Nat) : State :=
  if s.strandOk g && s.strState g = 10 && bitOf lanes 0 then s.backMark g
  else if !s.strandOk g || s.strState g != 3 || !bitOf lanes 0 || !s.detects g lanes then s
  else
    let a := strReg STR_TRAIN_STAT g
    ((s.setF a STR_TRAIN_STAT.LANES_SEEN lanes).setF a STR_TRAIN_STAT.BACK_INV (Nat.land inv lanes)).enterStep g 4

/-- The highest set bit of a mask below `n` bits. -/
def topBit (m n : Nat) : Option Nat := (List.range n).reverse.find? (bitOf m ·)

/-- The offer of the part in CAP (R302): forward rates, back rates, widths, as masks from bit 0. -/
def State.capOffer (s : State) (g : Nat) : Nat × Nat × Nat :=
  let c := s.bringCtl g
  (2 ^ (min 3 (STR_CTL.MAX_RATE.get c) + 1) - 1, if STR_CTL.BACK_MAX.get c = 1 then 3 else 1,
    (s.offered g (s.f (strReg STR_TRAIN_STAT g) STR_TRAIN_STAT.LANES_SEEN)).foldl setBit 0)

/-- The common offer arrives in CAP: the part selects (R302), or the attempt fails. -/
def State.capSelect (s : State) (g fwd back widths : Nat) : State :=
  let o := s.capOffer g
  let fwd := Nat.land fwd o.1
  let back := Nat.land back o.2.1
  let widths := Nat.land widths o.2.2
  let a := strReg STR_TRAIN_STAT g
  let s := ((s.setF a STR_TRAIN_STAT.COMMON_FWD fwd).setF a STR_TRAIN_STAT.COMMON_BACK back).setF a STR_TRAIN_STAT.COMMON_WIDTH widths
  match topBit fwd 4, topBit back 2, topBit widths 3 with
  | some r, some b, some w =>
    if w < s.minWidth g then s.stepFail g 3
    else s.onStrand g fun t => { t with rate := r, back := 8 + b, width := w, stage := 1, sel := (r, 8 + b, w) }
  | _, _, _ => s.stepFail g 3

/-- Rate code and back rate code on the line: steps 1 to 4 run at 3.125 and 1.25 Gb/s, all else at what was last selected (R293, R299). -/
def State.lineRates (s : State) (g : Nat) : Nat × Nat :=
  if 3 ≤ s.strState g && s.strState g ≤ 6 then (0, 8) else ((s.strand g).rate, (s.strand g).back)

/-- Width code on the line: that of the strand map up to the selection. -/
def State.lineWidth (s : State) (g : Nat) : Nat := if 3 ≤ s.strState g && s.strState g ≤ 6 then s.mapWidth g else (s.strand g).width

/-- The TRAIN block that bond lane `b` sends in the step in progress, with countdown `cnt` where it has one (R294, R302 to R304, R306). -/
def State.trainBlk (s : State) (g b cnt : Nat) : TrainBlk :=
  let t := s.strand g
  let c := s.strState g
  let eq := laneReg STR_EQ g b
  let go := decide (c = 8) && decide (t.stage = 1)
  let set := decide (c = 6) && decide (t.stage = 1)
  let o := s.capOffer g
  { phase := if c = 11 then 8 else if go then 7 else c - 2
    bidx := b, rate := (s.lineRates g).1, done := false, chainEnd := false, inv := false, rev := false, set := set
    w1 := if set then 2 ^ t.rate + 2 ^ (t.back - 4) + 2 ^ (8 + t.width)
      else if c = 6 then o.1 + o.2.1 * 2 ^ 4 + o.2.2 * 2 ^ 8
      else if c = 7 then s.f eq STR_EQ.PRE + s.f eq STR_EQ.POST * 2 ^ 4 + t.eqReq.look 0 b % 256 * 2 ^ 8
      else 0
    cnt := if go || set then cnt else 0, skew := 0 }

/-- Block `i` of the training stream of bond lane `b`: a MARK in every 16th block, TRAIN in the others (R293, R306); a countdown in progress
starts at block `i0`. -/
def State.trainStream (s : State) (g b mseq i0 i : Nat) : Ctl :=
  if i % 16 = 0 then .mark (g + b) (s.lineWidth g) b (s.lineRates g).1 (mseq + i / 16) else .train (s.trainBlk g b (countdown i0 i))

/-- A block that is neither IDLE nor MARK on the back pair of bond lane `b`: a frozen receiver starts its window (R309). -/
def State.thawLane (s : State) (g b : Nat) : State :=
  let a := laneReg STR_ADAPT g b
  if s.strandOk g && s.b a STR_ADAPT.FROZEN then (s.setF a STR_ADAPT.FROZEN 0).setF a STR_ADAPT.WINDOW 1 else s

/-- DONE of a bond lane, over all lanes seen. -/
def State.laneDone (s : State) (g b : Nat) : State × Bool :=
  let m := setBit (s.strand g).eqDone b
  let seen := s.f (strReg STR_TRAIN_STAT g) STR_TRAIN_STAT.LANES_SEEN
  (s.onStrand g fun t => { t with eqDone := m }, Nat.land m seen = seen)

/-- A back TRAIN block of bond lane b (R293, R296, R300 to R304, R307). -/
def State.trainAct (s : State) (g b phase : Nat) (done inv rev : Bool) (skew fwd back widths : Nat) : State :=
  let a := strReg STR_TRAIN_STAT g
  let c := s.strState g
  if !s.strandOk g then s
  else if c = 10 then (if s.b (strReg STR_SLEEP_STAT g) STR_SLEEP_STAT.BACK || ((s.strand g).backWake && phase = 9) then s else s.strandLoss g 8)
  else if !done || phase + 2 != c then s
  else if c = 4 then
    let r := (if inv then s.setBitF a STR_TRAIN_STAT.FWD_INV b else s.clrBitF a STR_TRAIN_STAT.FWD_INV b).laneDone g b
    if r.2 then r.1.enterStep g 5 else r.1
  else if c = 5 then
    let r := (if b = 0 then s.setB a STR_TRAIN_STAT.REV rev else s).laneDone g b
    if r.2 then r.1.enterStep g 6 else r.1
  else if c = 6 then (if b = 0 && (s.strand g).stage = 0 then s.capSelect g fwd back widths else s)
  else if c = 8 && b = 0 && (s.strand g).stage = 0 then
    let s := s.setF a STR_TRAIN_STAT.MAX_SKEW skew
    if 8 < skew then s.stepFail g 4 else s.onStrand g fun t => { t with stage := 1 }
  else s

/-- A back TRAIN block of bond lane b: it ends the freeze of that lane's receiver, and acts in a window too. (DEDUCED: notes/assumptions/38.md)
-/
def State.backTrain (s : State) (g b phase : Nat) (done inv rev : Bool) (skew fwd back widths : Nat) : State :=
  (s.thawLane g b).trainAct g b phase done inv rev skew fwd back widths

/-- The CAP countdown reaches 0: every end switches (R302). -/
def State.capSwitch (s : State) (g : Nat) : State :=
  if s.strandOk g && s.strState g = 6 && (s.strand g).stage = 1 then (s.enterStep g 7).eqStart g else s

/-- A request code of an EQ block (R295). (DEDUCED: notes/assumptions/38.md) -/
def eqStep (code v : Nat) : Option Nat :=
  if code = 1 then some (v + 1) else if code = 2 then (if v = 0 then none else some (v - 1)) else some v

/-- An EQ block of bond lane b (R303). (DEDUCED: notes/assumptions/38.md) -/
def State.eqAct (s : State) (g b pre post : Nat) (done : Bool) (fom seq : Nat) : State :=
  let t := s.strand g
  let a := laneReg STR_EQ g b
  if !s.strandOk g || s.strState g != 7 || !(bondLanes t.width).contains b || bitOf t.eqDone b || seq != t.eqReq.look 0 b % 256 then s
  else
    let n := t.eqReq.look 0 b + 1
    let s := (s.setF a STR_EQ.FOM fom).setF a STR_EQ.STEPS n
    let s := match eqStep pre (s.f a STR_EQ.PRE), eqStep post (s.f a STR_EQ.POST) with
      | some p, some q => if p ≤ 6 && q ≤ 12 && p + q ≤ 14 then (s.setF a STR_EQ.PRE p).setF a STR_EQ.POST q else s
      | _, _ => s
    let m := if done then setBit t.eqDone b else t.eqDone
    let s := s.onStrand g fun t => { t with eqReq := t.eqReq.put 0 b n, eqDone := m }
    let s := if done then s.setF a STR_EQ.DONE 1 else s
    if (bondLanes t.width).all (bitOf m) then s.enterStep g 8
    else if !done && 64 ≤ n then s.stepFail g 1
    else s

/-- An EQ block of bond lane b, which ends the freeze of that lane's receiver too (R309). (DEDUCED: notes/assumptions/38.md) -/
def State.eqBlock (s : State) (g b pre post : Nat) (done : Bool) (fom seq : Nat) : State :=
  (s.thawLane g b).eqAct g b pre post done fom seq

/-- The GO countdown ends (R304): the MARK slot that starts the scrambler and slot 0, then ENUM. -/
def State.goEnd (s : State) (g : Nat) : State :=
  if s.strandOk g && s.strState g = 8 && (s.strand g).stage = 1 then ((s.enterStep g 9).send g .mark).enumStart g else s

/-- The 256 TRAIN BLIND blocks have left (R306): the normal stream starts at a MARK slot. -/
def State.blindEnd (s : State) (g : Nat) : State :=
  if s.strandOk g && s.strState g = 11 && (s.strand g).stage = 4 then (s.send g .mark).enumStart g else s

/-- The backoff wait ends (R296). -/
def State.backoffExpiry (s : State) (g : Nat) : State :=
  if !s.strandOk g || s.strState g != 2 then s
  else
    let k := s.f (strReg STR_STATE g) STR_STATE.BACKOFF
    (s.setF (strReg STR_STATE g) STR_STATE.BACKOFF (min (k + 1) 8)).toDetect g

/-- The back signal of bond lane 0 is lost for 4 µs (R296, R307). -/
def State.backLost (s : State) (g : Nat) : State :=
  if !s.strandOk g then s
  else if s.strState g = 10 then
    (if s.b (strReg STR_SLEEP_STAT g) STR_SLEEP_STAT.BACK then s else s.strandLoss g 2)
  else if s.training g then (((s.failWith g 2).count (strReg STR_FAIL_CNT g)).dropCmds g).toBackoff g
  else s

/-- A write of STR_CTL.RETRAIN = 1 (R296). (DEDUCED: notes/assumptions/37.md) -/
def State.retrain (s : State) (g : Nat) : State :=
  if !s.strandOk g || s.strState g = 0 then s
  else
    let s := if s.strState g = 10 then (s.leaveActive g 9).strandDown g else (s.failWith g 9).dropCmds g
    (s.setF (strReg STR_STATE g) STR_STATE.BACKOFF 0).toDetect g

/-! ### Sleep (R311 to R317) -/

/-- Forward state codes: 0 AWAKE, 1 SYNC_ONLY, 2 OFF. -/
def State.fwdState (s : State) (g : Nat) : Nat := s.f (strReg STR_SLEEP_STAT g) STR_SLEEP_STAT.FWD

/-- The forward state comes into force, and awake lets the commands leave that have waited for it; a wake from OFF sends its preamble, of
which the last TRAIN WAKEUP block and the MARK slot are recorded (R316). (DESIGN CHOICE: notes/assumptions/51.md) -/
def State.setFwd (s : State) (g st : Nat) : State :=
  let a := strReg STR_SLEEP_STAT g
  let wake := decide (s.fwdState g = 2) && st != 2
  let s := (s.setF a STR_SLEEP_STAT.FWD st).setB a STR_SLEEP_STAT.DROPPING (st != 0)
  let s := s.onStrand g fun t => { t with fwdNext := none, burst := 0 }
  let s := s.setB a STR_SLEEP_STAT.BUSY (s.strand g).backWake
  let s := if st = 0 then s else s.setPacks g ([], [])
  let s := if wake then
      (s.send g (.ctl (.train ⟨9, 0, (s.strand g).rate, false, false, false, false, false, 0, 0, 0⟩))).send g .mark
    else s
  (if st = 0 then s.flushCmds g else s).injStrand g

/-- The forward state that the strand is to take (R313, R347, R466). -/
def State.fwdWant (s : State) (g : Nat) : Nat :=
  if s.mode = .dormant then (if PWR_DORMANT.FWD.get s.dev.boot.dormStr = 1 then 2 else 1)
  else match s.f (strReg STR_SLEEP_CTL g) STR_SLEEP_CTL.FWD with
    | 3 => if s.mode = .belay && !s.b (strReg STR_LINK g) STR_LINK.ANY_L && !s.refreshStrand s.reg g then 1 else 0
    | c => c

/-- The back direction is to be off. -/
def State.backWant (s : State) (g : Nat) : Bool :=
  if s.mode = .dormant then PWR_DORMANT.BACK.get s.dev.boot.dormStr != 1 else s.f (strReg STR_SLEEP_CTL g) STR_SLEEP_CTL.BACK = 1

/-- The back direction and AUX take the states that SLEEP_CTL and the mode give: BACK_STATE tells the partners (R311, R312, R316, R317). -/
def State.sleepBack (s : State) (g : Nat) : State :=
  let a := strReg STR_SLEEP_STAT g
  let off := s.backWant g
  let aux := s.b (strReg STR_SLEEP_CTL g) STR_SLEEP_CTL.AUX
  let was := s.b a STR_SLEEP_STAT.BACK
  if off = was && aux = (s.strand g).aux then s
  else
    let s := (s.bcast g 9 ((if off then 1 else 0) + (if aux then 2 else 0)) 0).onStrand g fun t => { t with aux := aux }
    if off = was then s
    else
      let s := (s.setB a STR_SLEEP_STAT.BACK off).pwrClamp
      if off then ((s.onStrand g fun t => { t with backWake := false }).setB a STR_SLEEP_STAT.BUSY (s.strand g).fwdNext.isSome).holdCmds g
      else ((s.onStrand g fun t => { t with backWake := true }).setF a STR_SLEEP_STAT.BUSY 1).setReg (strReg STR_ADAPT g) 0

/-- The strand takes the states that SLEEP_CTL and the mode give; a change of an awake forward direction is announced with frame `n`
(R313), and a change that has been announced is taken back by a further FWD_STATE. In Dormant the states of PWR_DORMANT at the entry stay. -/
def State.sleepUpdate (s : State) (n g : Nat) : State :=
  if !s.strandActive g then s
  else
    let a := strReg STR_SLEEP_STAT g
    let want := s.fwdWant g
    let cur := s.fwdState g
    let told := match (s.strand g).fwdNext, (s.strand g).marker with
      | some (_, f), some (m, _, _) => decide (f ≤ m)
      | _, _ => false
    let same := match (s.strand g).fwdNext with
      | some (st, _) => decide (st = want)
      | none => false
    let s := if same then s
      else if want = cur then
        let s := (s.onStrand g fun t => { t with fwdNext := none }).setB a STR_SLEEP_STAT.BUSY (s.strand g).backWake
        if told then s.bcast g 8 want n else s
      else if cur = 2 then (s.setFwd g want).wakeTell g want n
      else (s.onStrand g fun t => { t with fwdNext := some (want, n) }).setF a STR_SLEEP_STAT.BUSY 1
    s.sleepBack g

/-- Every strand after a change of mode at the knot line of frame `n`. -/
def State.sleepAll (s : State) (n : Nat) : State := s.strandList.foldl (fun s g => s.sleepUpdate n g) s

/-- The frame that an announcement of now names: the one in force, or the next when its marker has left. -/
def State.announceFrame (s : State) (g : Nat) : Nat :=
  match (s.strand g).marker with
  | some (n, _, _) => if n = s.tbFrame then s.nextNumber else s.tbFrame
  | none => s.tbFrame

/-- In Belay the choice of AUTO follows the refresh path (R347): after a Lanyard commit at the knot line of frame `n`, or a write of
BLY_CTL. -/
def State.refreshSleep (s : State) (n : Option Nat) : State :=
  if s.mode != .belay then s
  else s.strandList.foldl (fun s g =>
    if s.f (strReg STR_SLEEP_CTL g) STR_SLEEP_CTL.FWD = 3 then s.sleepUpdate (n.getD (s.announceFrame g)) g else s) s

/-- The launch of frame `f` has passed when `t` ticks of the frame in force have (R88). -/
def State.launched (s : State) (f t : Nat) : Bool :=
  if f = s.tbFrame then false
  else if s.prevFrame = some f then s.wf TB_LAUNCH TB_LAUNCH.LAUNCH_OFS ≤ t
  else decide ((s.tbFrame + 2 ^ 48 - f % 2 ^ 48) % 2 ^ 48 < 2 ^ 47)

/-- The start of line `y`: an announced state whose frame has been launched is in force (R313). (DESIGN CHOICE: notes/assumptions/51.md) -/
def State.applyFwd (s : State) (y g : Nat) : State :=
  match (s.strand g).fwdNext with
  | some (st, f) => if s.launched f (y * s.dev.tb.ras.lineTicks) then s.setFwd g st else s
  | none => s

/-- The burst of SYNC_ONLY carries a pending injection (R320), and behind its marker and vetoes the commands and broadcasts that wait (R314). -/
def State.burstTail (s : State) (g : Nat) : State :=
  if s.carries g 0 = .burst then
    (((s.injLane g 0).onStrand g fun t => { t with burst := t.bcast.length + 1 }).flushCmds g).onStrand g fun t => { t with burst := t.bcast.length }
  else s

/-- R89 on strand g: drops, marker and vetoes, then FWD_STATE of the frame (R313), and the rest of a burst. -/
def State.departs (s : State) (n g adj : Nat) : State :=
  if !s.hasFrame n then s
  else
    let s := s.departure n g adj
    let s := match (s.strand g).fwdNext with
      | some (st, f) => if f = n then s.bcast g 8 st n else s
      | none => s
    s.burstTail g

/-- The forward direction is brought from OFF to SYNC_ONLY (R315). -/
def State.wakeFwd (s : State) (g : Nat) : State :=
  if s.fwdState g = 2 && s.b (strReg STR_SLEEP_CTL g) STR_SLEEP_CTL.WAKE_ACT then (s.setFwd g 1).wakeTell g 1 s.tbFrame else s

/-- A WAKE of a partner: in Dormant it is held (R315). -/
def State.wakeAct (s : State) (g : Nat) : State :=
  let s := s.strLeaf g (strReg STR_EVT g) STR_EVT.WAKE_REQ
  if s.fwdState g != 2 then s
  else if s.mode = .dormant then s.onStrand g fun t => { t with wakeHeld := true }
  else s.wakeFwd g

/-- The part leaves Dormant: ended backoff waits go on (R292). -/
def State.strandsWake (s : State) : State :=
  s.strandList.foldl (fun s g => if s.strState g = 2 && (s.strand g).waitDone then s.toDetect g else s) s

/-- The part has left Dormant, and the strands have taken the states of their SLEEP_CTL: held WAKEs are acted on (R315). -/
def State.heldWakes (s : State) : State :=
  s.strandList.foldl (fun s g =>
    if (s.strand g).wakeHeld then (s.onStrand g fun t => { t with wakeHeld := false }).wakeFwd g else s) s

/-! ### Enumeration, stamps and trims (R90, R91, R305) -/

/-- STR_SEGS of a strand. -/
def State.segCount (s : State) (g : Nat) : Nat := (s.segsOf g).length

/-- A partner's declaration fits what the strand map assigns to it (R305). -/
def State.declFits (s : State) (g k : Nat) (d : Decl) : Bool :=
  let p := (s.strEnt g).chain.getD k ⟨false, 0, 0⟩
  d.classL = p.classL && bitOf d.widths p.wc &&
    ((s.segsOf g).filter fun x => x.2.addr = k).all fun x => x.2.base + 3 * x.2.w * (if p.classL then 1 else x.2.h) ≤ d.lamps

/-- Declaration of partner k of the current enumeration. -/
def State.declOf (s : State) (g k : Nat) : Decl := ((s.strand g).decls.look none k).getD noDecl

/-- A STAMP to partner k is sent (R282). -/
def State.stampTo (s : State) (g k : Nat) : State := s.sendCmd g k 3 ((s.strand g).rtts.look [] k).length 0 false

/-- Measure every partner of the strand. -/
def State.measure (s : State) (g : Nat) : State :=
  (List.range (s.partners g)).foldl (fun s k =>
    if (s.strand g).out.any fun c => c.addr = k && c.op = 3 then s
    else (s.onStrand g fun t => { t with rtts := t.rtts.put [] k [] }).stampTo g k)
    s

/-- STR_LINK and the leading registers of an accepted enumeration. -/
def State.linkReport (s : State) (g : Nat) : State :=
  let t := s.strand g
  let n := (s.strEnt g).chain.length
  let any (l : Bool) : Bool := (s.strEnt g).chain.any (·.classL = l)
  let b (x : Bool) (i : Nat) : Nat := if x then 2 ^ i else 0
  s.setReg (strReg STR_LINK g) (t.rate * 2 ^ 28 + (t.back - 8) * 2 ^ 27 + t.width * 2 ^ 25 + b (any true) 24 + b (any false) 23 + n)

/-- The partners whose declaration is whole. -/
def State.declared (s : State) (g : Nat) : List Nat := (List.range 512).filter fun k => (s.strand g).parts.look 0 k = 3

/-- The collecting of DECLs has ended: accept the enumeration or fail the attempt (R305). -/
def State.enumJudge (s : State) (g : Nat) : State :=
  let n := (s.strEnt g).chain.length
  if s.declared g != List.range n then s.stepFail g 5
  else if !(List.range n).all fun k => s.declFits g k (s.declOf g k) then s.stepFail g 7
  else ((s.linkReport g).onStrand g fun t => { t with stage := 1, bcast := [] }).measure g

/-- A strand is enumerating, normally or blind. -/
def State.enumerating (s : State) (g : Nat) : Bool := s.strState g = 9 || (s.strState g = 11 && (s.strand g).stage < 4)

/-- The DECL with LAST = 1 has arrived whole. -/
def State.lastDecl (s : State) (g : Nat) : Bool := (s.declared g).any fun k => (s.declOf g k).last

/-- A DECL part arrives (R279, R305): the fields of its part are those of `d`. -/
def State.declPart (s : State) (g addr part : Nat) (excess : Bool) (d : Decl) : State :=
  if excess then
    let s := s.perr g STR_PERR.ENUM_OVER
    if s.enumerating g && (s.strand g).stage = 0 then s.stepFail g 6 else s
  else if !s.enumerating g || (s.strand g).stage != 0 then s.count (strReg STR_BACK_ERR_CNT g)
  else
    let o := s.declOf g addr
    let d := if part = 0 then { d with pid := o.pid, widths := o.widths, rows := o.rows }
      else { o with pid := d.pid, widths := d.widths, rows := d.rows }
    let s := s.onStrand g fun t => { t with decls := t.decls.put none addr (some d), parts := t.parts.put 0 addr (setBit (t.parts.look 0 addr) part) }
    if s.lastDecl g then s.enumJudge g else s

/-- An attempt times out (R297): in ENUM that ends the collecting of DECLs (R305). (DEDUCED: notes/assumptions/52.md) -/
def State.attemptTimeout (s : State) (g : Nat) : State :=
  if !s.strandOk g || !s.training g then s
  else if s.enumerating g && (s.strand g).stage = 0 then s.enumJudge g
  else s.stepFail g 1

/-- FD_k from a mean round trip (R90). (DEDUCED: notes/assumptions/33.md) -/
def State.forwardDelay (s : State) (g k rtt : Nat) : Nat :=
  let relays := (List.range k).foldl (fun n j => n + (s.declOf g j).fwdRelay) 0
  let both := (List.range k).foldl (fun n j => n + (s.declOf g j).fwdRelay + (s.declOf g j).backRelay) 0
  (rdiv ((rtt : Int) - (s.declOf g k).turn - both) 2 + relays).toNat

/-- A forward delay of partner k is accepted: FDMAX follows. -/
def State.setFd (s : State) (g k fd : Nat) : State :=
  let s := s.onStrand g fun t => { t with fds := t.fds.put none k (some fd) }
  let t := s.strand g
  let m := (List.range (s.partners g)).foldl (fun m k => max m ((t.fds.look none k).getD 0)) 0
  s.setF (strReg STR_TIMING g) STR_TIMING.FDMAX m

/-- Every partner has what `f` says. -/
def State.allPartners (s : State) (g : Nat) (f : Nat → Bool) : Bool := (List.range (s.partners g)).all f

/-- The measurement of partner k in enumeration ends: with the last one, the trims leave (R305). -/
def State.enumMeasured (s : State) (g k fd : Nat) : State :=
  let s := s.setFd g k fd
  if s.allPartners g fun k => ((s.strand g).fds.look none k).isSome then
    let s := (s.setF (strReg STR_TIMING g) STR_TIMING.VALID 1).onStrand g fun t => { t with stage := 2 }
    (List.range (s.partners g)).foldl (fun s k => s.sendCmd g k 4 (((s.strand g).fds.look none k).getD 0) 0 false) s
  else s

/-- Three values agree within 1 tick. -/
def agree3 (l : List Nat) : Bool :=
  match l with
  | [a, b, c] => max a (max b c) - min a (min b c) ≤ 1
  | _ => false

/-- A measurement of an Active strand's partner k ends (R91). -/
def State.activeMeasured (s : State) (g k fd : Nat) : State :=
  let t := s.strand g
  let old := t.trims.look 0 k
  let diff := max old fd - min old fd
  if diff = 0 then (s.setFd g k fd).onStrand g fun t => { t with jumps := t.jumps.put [] k [] }
  else if diff ≤ 32 then
    (s.setFd g k fd).onStrand g fun t => { t with jumps := t.jumps.put [] k [], trimDue := t.trimDue.put none k (some fd) }
  else
    let l := ((t.jumps.look [] k) ++ [fd]).drop ((t.jumps.look [] k).length + 1 - 3)
    if agree3 l then
      ((s.setFd g k fd).setF (strReg STR_TIMING g) STR_TIMING.JUMP 1).onStrand g fun t => { t with
        jumps := t.jumps.put [] k [], trimDue := t.trimDue.put none k (some fd) }
    else
      (s.onStrand g fun t => { t with jumps := t.jumps.put [] k l, rtts := t.rtts.put [] k [] }).stampTo g k

/-- Every TB_STAMP.PERIOD frames, never with PERIOD = 0: measure the partners of an Active strand whose back direction is awake
(R91, R99, R317). -/
def State.stampMeasure (s : State) (g : Nat) : State :=
  let p := s.f TB_STAMP TB_STAMP.PERIOD
  if !s.strandActive g || s.backHeld g || s.fwdState g = 2 || p = 0 || s.dev.tb.place < (s.strand g).meas + p then s
  else (s.onStrand g fun t => { t with meas := s.dev.tb.place }).measure g

/-- The vertical blank starts: trims due are written (R91). -/
def State.sendTrims (s : State) (g : Nat) : State :=
  if !s.strandActive g || s.backHeld g then s
  else
    let due := (s.strand g).trimDue
    due.foldl (fun s e => match e.2 with
      | some fd => s.sendCmd g e.1 4 fd 0 false
      | none => s) (s.onStrand g fun t => { t with trimDue := [] })

/-- The strand enters ACTIVE, or LINK_TEST in that mode (R296, R299). -/
def State.enterActive (s : State) (g : Nat) : State :=
  let blind := s.strState g = 11
  let a := strReg STR_STATE g
  let s := s.onStrand g fun t => { t with
    since := true, episode := false, due := false, att := 0, aux := false, meas := s.dev.tb.place, sel := (t.rate, t.back, t.width), burst := 0 }
  let s := (((s.setStrState g 10).setB a STR_STATE.BLIND blind).setF a STR_STATE.BACKOFF 0).setF a STR_STATE.ATTEMPT 0
  let s := (s.setF (strReg STR_EVT g) STR_EVT.UP 1).ev .strandUp
  let s := if (s.strand g).width < s.mapWidth g then s.strLeaf g (strReg STR_EVT g) STR_EVT.NARROW else s
  let s := (s.setReg (strReg STR_SLEEP_STAT g) 0).pwrClamp.injStrand g
  if s.mode = .linkTest then (s.onStrand g fun t => { t with due := true }).setStrState g 12 else s.sleepUpdate s.tbFrame g

/-- Trims or code widths of the enumeration have been acknowledged by every partner: the next sub-step. -/
def State.enumNext (s : State) (g : Nat) : State :=
  if !(s.strand g).out.isEmpty then s
  else if (s.strand g).stage = 2 then
    let s := s.onStrand g fun t => { t with stage := 3 }
    (List.range (s.partners g)).foldl (fun s k => s.sendCmd g k 5 2 (((s.strEnt g).chain.getD k ⟨false, 0, 0⟩).wc + 10) false) s
  else if (s.strand g).stage = 3 then s.enterActive g
  else s

/-! ### Back messages (R279, R309) -/

/-- A valid back message reaches strand g: it is acted on by `f` unless it comes in a re-adapt window. A back direction that is OFF carries
none. `flt`: the message is a FAULT. -/
def State.backMsg (s : State) (g : Nat) (flt : Bool) (f : State → State) : State :=
  let a := strReg STR_ADAPT g
  let c := s.strState g
  if !s.strandOk g || !(c = 9 || c = 10 || c = 11 || c = 12) then s
  else
    let s := s.thawLane g 0
    if s.b (strReg STR_SLEEP_STAT g) STR_SLEEP_STAT.BACK || ((s.strand g).backWake && !s.b a STR_ADAPT.WINDOW) then s
    else if s.b a STR_ADAPT.WINDOW then
      (s.count (strReg STR_READAPT_DROP g)).onStrand g fun t => { t with winFault := t.winFault || flt }
    else f s

/-- The enumeration in progress or in force has assigned the address. -/
def State.addrKnown (s : State) (g addr : Nat) : Bool :=
  decide (addr < s.partners g) || (s.enumerating g && (s.strand g).parts.look 0 addr != 0)

/-- A message of an address that the enumeration has not assigned is discarded (R279). -/
def State.fromPartner (s : State) (g addr : Nat) (f : State → State) : State :=
  if s.addrKnown g addr then f s else (s.perr g STR_PERR.BAD_ADDR).count (strReg STR_BACK_ERR_CNT g)

/-- An ECHO (R90, R282): round trip `rtt` in ticks less WAIT in 1/16 ticks, the mean of 16. -/
def State.echo (s : State) (g addr tag wait rtt : Nat) : State :=
  match s.cmdOf g addr tag with
  | none => s.count (strReg STR_BACK_ERR_CNT g)
  | some c =>
    if c.op != 3 then s.count (strReg STR_BACK_ERR_CNT g)
    else
      let s := s.endCmd g addr
      if c.primer then s.onStrand g fun t => { t with primer := false }
      else
        let l := ((s.strand g).rtts.look [] addr) ++ [rtt * 16 - wait]
        let s := s.onStrand g fun t => { t with rtts := t.rtts.put [] addr l }
        if l.length < 16 then s.stampTo g addr
        else
          let mean := (rdiv ((l.foldl (· + ·) 0 : Nat) : Int) 256).toNat
          let s := s.onStrand g fun t => { t with rtts := t.rtts.put [] addr [] }
          let fd := s.forwardDelay g addr mean
          if s.enumerating g then s.enumMeasured g addr fd else s.activeMeasured g addr fd

/-- PRBS: the lanes of a test have been read, or a TEST command failed (R319). -/
def State.testAck (s : State) (g : Nat) (c : Cmd) (ok : Bool) (data : Nat) : State :=
  if !ok then
    (s.strLeaf g (strReg STR_PRBS_STAT g) STR_PRBS_STAT.PARTNER_ERR).onStrand g fun t => { t with reads := if c.op = 11 then t.reads.drop 1 else t.reads }
  else if c.op = 11 then
    (s.setReg (laneReg STR_PRBS_ERR g c.arg0) data).onStrand g fun t => { t with reads := t.reads.filter (· != c.arg0) }
  else s

/-- An ACK (R279, R289, R290, R305). (DEDUCED: notes/assumptions/38.md) -/
def State.ack (s : State) (g addr tag op result data : Nat) : State :=
  match s.cmdOf g addr tag with
  | none => s.count (strReg STR_BACK_ERR_CNT g)
  | some c =>
    if c.op != op then s.count (strReg STR_BACK_ERR_CNT g)
    else
      let s := s.endCmd g addr
      if c.host then
        let s := if c.op = 6 && result = 0 then s.setReg (strReg STR_PCMD_RDATA g) data else s
        s.pcmdEnd g (if result ≤ 2 then result else 1)
      else if c.op = 10 || c.op = 11 then s.testAck g c (result = 0) data
      else
        let s := if c.op = 4 && result = 0 then s.onStrand g fun t => { t with trims := t.trims.put 0 addr c.arg0 } else s
        if s.enumerating g then (if result = 0 then s.enumNext g else s.stepFail g 7) else s

/-- A command without a reply (R289, R282). -/
def State.cmdTimeout (s : State) (g addr tag : Nat) : State :=
  match s.cmdOf g addr tag with
  | none => s
  | some c =>
    let t := s.strand g
    let c' : Cmd := { c with tag := t.tag, tries := if c.op = 3 then 0 else c.tries + 1 }
    let again : State :=
      if s.fwdShut g then s.setStrand g { t with out := t.out.erase c, wait := t.wait ++ [c'] }
      else (s.setStrand g { t with out := t.out.map (fun x => if x = c then c' else x), tag := (t.tag + 1) % 64 }).send g
        (.ctl (.cmd c'.op addr c'.tag c'.arg0 c'.arg1 0))
    if c.op = 3 then (if c.primer then (s.endCmd g addr).onStrand g fun t => { t with primer := false } else again)
    else if c.tries < 3 then again
    else
      let s := (s.endCmd g addr).perr g STR_PERR.CMD_TO
      if c.host then s.pcmdEnd g 3
      else if c.op = 10 || c.op = 11 then s.testAck g c false 0
      else if s.enumerating g then s.stepFail g 1
      else s

/-- A STATUS (R279): temperature, error flags. -/
def State.statusMsg (s : State) (g addr temp flags : Nat) : State :=
  let s := s.onStrand g fun t => { t with flags := t.flags.put 0 addr flags, temps := t.temps.put 0x80 addr temp }
  let s := if temp = 0x80 then s
    else s.setLamp { s.dev.lamp with temp := s.dev.lamp.temp.put none (g * 512 + addr) (some ⟨some (sext 8 temp), s.tbFrame, false⟩) }
  let s := if bitOf flags 1 then s.perr g STR_PERR.PART_BLANK else s
  let s := if bitOf flags 2 then s.perr g STR_PERR.PART_LOST else s
  if bitOf flags 4 then s.perr g STR_PERR.LATE_ROW else s

/-- The canvas lamp that a lamp index of a class H partner names (R331). (DEDUCED: notes/assumptions/39.md) -/
def State.lampBack (s : State) (g addr idx : Nat) : Option (Nat × Nat × Nat) :=
  (s.segsOf g).findSome? fun p =>
    if p.2.addr != addr || s.img.segL p.2 then none
    else (p.2.rect.pixels.flatMap fun q => (List.range 3).map fun r => (q.1, q.2, r)).find? fun q => (s.img.lampOf p.2 q.1 q.2.1 q.2.2).1 = idx

/-- A FAULT (R279, R222). -/
def State.faultMsg (s : State) (g addr : Nat) (lamps : List Nat) : State :=
  if lamps.isEmpty then s
  else lamps.foldl (fun s i => match s.lampBack g addr i with
    | some (x, y, r) => s.reportDead (g / 16) x y r
    | none => s) (s.perr g STR_PERR.FAULT)

/-- A back block that fails its check, or whose type is unknown (R269, R279). -/
def State.backInvalid (s : State) (g : Nat) (crc : Bool) : State :=
  if !s.strandOk g || s.strState g < 9 || s.b (strReg STR_SLEEP_STAT g) STR_SLEEP_STAT.BACK then s
  else ((s.thawLane g 0).perr g (if crc then STR_PERR.BACK_CRC else STR_PERR.BACK_TYPE)).count (strReg STR_BACK_ERR_CNT g)

/-! ### Adaptation (R309, R310, R316) -/

/-- 4,096 IDLE blocks in a row on the receiver of bond lane b. -/
def State.adaptFreeze (s : State) (g b : Nat) : State :=
  if s.strandOk g && 9 ≤ s.strState g && !s.b (laneReg STR_ADAPT g b) STR_ADAPT.WINDOW then s.setF (laneReg STR_ADAPT g b) STR_ADAPT.FROZEN 1 else s

/-- The resync of R310: FAULT_EN 0, then 1, to every partner. (DEDUCED: notes/assumptions/37.md) -/
def State.faultResync (s : State) (g : Nat) : State :=
  if s.b (strReg STR_SLEEP_CTL g) STR_SLEEP_CTL.FAULT_RESYNC then
    ((s.bcast g 5 5 0).bcast g 5 5 1).strLeaf g (strReg STR_EVT g) STR_EVT.FAULT_RESYNC
  else s

/-- The re-adapt window of bond lane b ends. -/
def State.windowEnd (s : State) (g b : Nat) : State :=
  let a := laneReg STR_ADAPT g b
  if !s.strandOk g || !s.b a STR_ADAPT.WINDOW then s
  else
    let s := s.setF a STR_ADAPT.WINDOW 0
    if b != 0 then s
    else
      let t := s.strand g
      let s := if t.backWake || t.winFault then s.faultResync g else s
      let s := s.onStrand g fun t => { t with backWake := false, winFault := false }
      (s.setB (strReg STR_SLEEP_STAT g) STR_SLEEP_STAT.BUSY (s.strand g).fwdNext.isSome).flushCmds g

/-- L(N) − RTT_0 − 576 back block times with a frozen receiver: a primer STAMP (R310); none where the forward line is idle. -/
def State.primer (s : State) (g : Nat) : State :=
  if s.strandActive g && !s.backHeld g && !s.fwdShut g && s.b (strReg STR_ADAPT g) STR_ADAPT.FROZEN && !(s.strand g).primer then
    (s.onStrand g fun t => { t with primer := true }).issue g ⟨0, 3, 0, 0, 0, 0, false, true⟩
  else s

/-- No MARK within twice the latency of a back wake (R316). -/
def State.backWakeTimeout (s : State) (g : Nat) : State :=
  if s.strandActive g && (s.strand g).backWake && !s.b (strReg STR_ADAPT g) STR_ADAPT.WINDOW then s.strandLoss g 2 else s

/-! ### Link test (R318 to R321) -/

/-- A GO of STR_PRBS_CTL with PATH `path` (R319). -/
def State.prbsGo (s : State) (g path : Nat) : State :=
  let a := strReg STR_PRBS_CTL g
  let pat := s.f a STR_PRBS_CTL.PATTERN
  let addr := s.f a STR_PRBS_CTL.ADDR
  let us := s.f (strReg STR_PRBS_TIME g) STR_PRBS_TIME.US
  let st := strReg STR_PRBS_STAT g
  if s.strState g != 12 then s.strLeaf g st STR_PRBS_STAT.REFUSED
  else if 5 ≤ pat || 3 ≤ path || s.b st STR_PRBS_STAT.BUSY then s
  else
    let ls := bondLanes (s.strand g).width
    let s := ls.foldl (fun s b => ((s.setReg (laneReg STR_PRBS_ERR g b) 0).setPair (laneReg STR_PRBS_BITS_LO g b) (laneReg STR_PRBS_BITS_HI g b) 32 0).setF
      (laneReg STR_PRBS_STAT g b) STR_PRBS_STAT.LOCK 0) s
    if us = 0 then s
    else
      let s := ls.foldl (fun s b => s.setF (laneReg STR_PRBS_STAT g b) STR_PRBS_STAT.BUSY 1) s
      let s := s.onStrand g fun t => { t with test := some (path, addr, pat), reads := [] }
      let arg := pat + (if path = 2 then 8 else 0) + 2 ^ 4 * (2 ^ ls.length - 1)
      if path = 0 then s else if addr = 0x3FF then s.bcast g 10 arg us else s.sendCmd g addr 10 arg us false

/-- The test window ends (R319) and the normal stream starts at a MARK slot: near end and back take the counts of the part's checkers over
what they saw, `runs` by bond lane; far forward reads each lane's by TEST_RESULT. -/
def State.prbsEnd (s : State) (g : Nat) (runs : List (List Nat)) : State :=
  match (s.strand g).test with
  | none => s
  | some (path, addr, _) =>
    let ls := bondLanes (s.strand g).width
    let s := (s.testStop g).send g .mark
    if path = 1 then
      if addr = 0x3FF then s else ls.foldl (fun s b => s.sendCmd g addr 11 b 0 false) (s.onStrand g fun t => { t with reads := ls })
    else ls.foldl (fun s b =>
      let c := checkerRun (runs.getD b []) Checker.start
      let s := (s.setReg (laneReg STR_PRBS_ERR g b) (min 0xFFFFFFFF c.errs)).setPair (laneReg STR_PRBS_BITS_LO g b) (laneReg STR_PRBS_BITS_HI g b) 32 c.bits
      let s := s.setB (laneReg STR_PRBS_STAT g b) STR_PRBS_STAT.LOCK c.lock
      if c.lost then s.strLeaf g (laneReg STR_PRBS_STAT g b) STR_PRBS_STAT.LOCK_LOST else s) s

/-! ### Modes and fences -/

/-- The part enters Idle after an installation: every strand in OFF enters Detect (R292). -/
def State.strandsStart (s : State) : State :=
  s.strandList.foldl (fun s g => if s.strandOk g && s.strState g = 1 then s.toDetect g else s) s

/-- The mode becomes Link test, or leaves it (R321). (DEDUCED: notes/assumptions/37.md) -/
def State.strandsLinkTest (s : State) (on : Bool) : State :=
  s.strandList.foldl (fun s g =>
    if !s.strandOk g then s
    else if on && s.strState g = 10 then ((s.dropCmds g).onStrand g fun t => { t with due := true }).setStrState g 12
    else if !on && s.strState g = 12 then (s.dropCmds g).toDetect g
    else s) s

/-- The die of strand g is fenced at run time (R27, R296). (DEDUCED: notes/assumptions/37.md) -/
def State.strandFence (s : State) (g : Nat) : State :=
  let was := s.strState g = 10
  let s := (s.dropCmds g).setPacks g ([], [])
  (s.onStrand g fun t => { t with fence := was, fwdNext := none, backWake := false }).setReg (strReg STR_STATE g) (2 ^ 28)

/-- The strand sends the normal stream with SYNC: Active and awake, in Link test between windows, holding, or behind a fence (R27, R271,
R299, R321). -/
def State.sendsSync (s : State) (g : Nat) : Bool :=
  (s.strandActive g && s.fwdState g = 0) || (s.strState g = 12 && (s.strand g).test.isNone) || s.b (strReg STR_STATE g) STR_STATE.HOLDING || (s.strand g).fence

/-- A line starts on every strand: what it has sent is counted anew, an announced state may come into force, and on a line whose number is a
multiple of 16 a SYNC leaves (R271). -/
def State.syncLine (s : State) (line : Nat) : State :=
  s.strandList.foldl (fun s g =>
    let s := (s.onStrand g fun t => { t with sent := [] }).applyFwd line g
    if line % 16 = 0 && s.sendsSync g then s.sendSync g line else s) s

/-- An installation places the strand map (R292, R322): strands without partners are UNUSED, segments are counted. -/
def State.strandsPlace (s : State) : State :=
  s.onDies fun s d =>
    let s := s.setReg (SCAN_MAP_INFO d) ((List.range 16).foldl (fun n i => n + s.segCount (16 * d + i)) 0)
    (List.range 16).foldl (fun s n =>
      let g := 16 * d + n
      let s := s.setReg (STR_SEGS d n) (s.segCount g)
      if s.strandList.contains g then (if s.strState g = 0 then s.setStrState g 1 else s) else s.setReg (STR_STATE d n) 0) s

end Sys2Proof.Machine
end

