-- ==== Sys2Proof/Machine/Partner.lean ====
section
/-! DEFINITION. Partner chips (R280 to R288, R311 to R315): what each packet and command makes a compliant partner do, its launches, and
what it queues for the part. Partners stand at their place in the chain of a strand; a message names an address. -/
namespace Sys2Proof.Machine

/-- The partners of strand g that act on a message to `addr`: those that hold an address, when it is theirs or a broadcast (R281). -/
def State.reached (s : State) (g addr : Nat) : List Nat :=
  ((s.dev.partners.filter fun e => e.1 / 512 = g && e.2.addr.isSome && (addr = 0x3FF || e.2.addr = some addr)).map (·.1 % 512))

/-- Change partner k of strand g. -/
def State.onPartner (s : State) (g k : Nat) (f : PartnerSt → PartnerSt) : State := s.setPartner g k (f (s.partner g k))

/-- A broadcast acts once per TAG (R312). -/
def PartnerSt.once (tag : Nat) (f : PartnerSt → PartnerSt) (p : PartnerSt) : PartnerSt :=
  if p.tag = some tag then p else { f p with tag := some tag }

/-- A copy of a broadcast reaches the partners of strand g; the first of a new one is not taken for a copy of the last (R312). -/
def State.bcastCopy (s : State) (g op tag arg0 arg1 : Nat) : State :=
  let new := match (s.strand g).bcast with
    | b :: _ => s.bcastDue g b op tag arg0 arg1 && 3 ≤ b.left
    | [] => false
  let s := if new then (s.reached g 0x3FF).foldl (fun s k => s.onPartner g k fun p => { p with tag := none }) s else s
  s.bcastLeaves g op tag arg0 arg1

/-- A FAULT. -/
def BackMsg.isFault : BackMsg → Bool
  | .fault _ => true
  | _ => false

/-- Queue a message; with the back direction OFF only FAULT reports are kept (R311). -/
def PartnerSt.push (p : PartnerSt) (m : BackMsg) : PartnerSt := if p.backOff && !m.isFault then p else { p with queue := p.queue ++ [m] }

/-- Place of a message in the order of R277. -/
def BackMsg.rank : BackMsg → Nat
  | .echo .. => 0
  | .ack .. => 1
  | .decl .. => 2
  | .fault .. => 3
  | .status .. => 4

/-- The message that the partner sends next: by rank, oldest first within a rank; none while its back direction is OFF (R277, R311). -/
def PartnerSt.next (p : PartnerSt) : Option BackMsg :=
  if p.backOff then none else (List.range 5).findSome? fun r => p.queue.find? fun m => m.rank = r

/-- The queue takes a STATUS: fewer messages than its capacity, which is at least 8 (R277). -/
def PartnerSt.hasRoom (p : PartnerSt) : Bool := decide (p.queue.length < 8) || decide (p.queue.length < 8 + Config.partnerQueue)

/-- The flags of a STATUS, bit 0 HELD up to bit 4 LATE_ROW. (DEDUCED: notes/assumptions/39.md) -/
def PartnerSt.flagBits (p : PartnerSt) : Nat :=
  let b (x : Bool) (i : Nat) : Nat := if x then 2 ^ i else 0
  b p.held 0 + b p.blank 1 + b p.lost 2
    + b (p.queue.any (·.isFault)) 3
    + b p.lateRow 4

/-- A launch instant: a STATUS with temperature `temp` is queued every STATUS_PERIOD launches (R288), and discarded while the back direction
is OFF (R311). (DEDUCED: notes/assumptions/39.md) -/
def PartnerSt.status (p : PartnerSt) (n temp : Nat) : PartnerSt :=
  let p := { p with launches := p.launches + 1 }
  if p.statusPeriod = 0 || p.launches < p.statusPeriod then p
  else if p.hasRoom && !p.backOff then
    { p.push (.status (n % 256) temp p.rxErr p.discard p.flagBits) with
      launches := 0, rxErr := 0, discard := 0, held := false, lost := false, lateRow := false }
  else { p with launches := 0 }

/-- Faults in groups of four, as FAULT messages. -/
def faultGroups : Nat → List (Nat × Bool) → List BackMsg
  | 0, _ => []
  | _, [] => []
  | n + 1, l => .fault (l.take 4) :: faultGroups n (l.drop 4)

/-- Report faults. -/
def PartnerSt.report (p : PartnerSt) (ls : List (Nat × Bool)) : PartnerSt := (faultGroups ls.length ls).foldl (fun p m => p.push m) p

/-- The partner finds open and short lamps: those that are new are reported once while FAULT_EN is 1 (R287). -/
def PartnerSt.find (p : PartnerSt) (found : List (Nat × Bool)) : PartnerSt :=
  let fresh := (found.filter fun l => !p.faults.contains l).eraseDups
  let p := { p with faults := p.faults ++ fresh }
  if p.faultEn = 1 then p.report fresh else p

/-- A launch without a swap (R284, R285): what the back buffer then holds is not defined. -/
def PartnerSt.hold (p : PartnerSt) (salt : Nat) : PartnerSt :=
  let n := p.holds + 1
  { p with
    held := true, holds := n, back := [], backSalt := some salt
    blank := p.blank || (match p.keepLimit.getD p.decl.keepMax with
      | 0 => false
      | l => decide (l < n)) }

/-- A swap (R284): the front buffer becomes the one to be written. -/
def PartnerSt.swap (p : PartnerSt) : PartnerSt :=
  { p with front := p.back, frontSalt := p.backSalt, back := p.front, backSalt := p.frontSalt, holds := 0, blank := false }

/-- A class L launch (R286): pending and show are discarded. -/
def PartnerSt.restartRows (p : PartnerSt) : PartnerSt := { p with blank := true, pending := [], front := [], row := none, shown := none }

/-- The launch for frame `n` at instant `t`, with (`swap`) or without a swap; CODE_W comes into force, and so does the sleep state
announced for a frame that has now been launched (R287, R313). -/
def PartnerSt.launchAt (p : PartnerSt) (n : Nat) (t : Int) (swap : Bool) (salt temp : Nat) (found : List (Nat × Bool)) : PartnerSt :=
  let p := if p.decl.classL then p.restartRows else if swap then p.swap else p.hold salt
  let p := { p with
    codeWOn := p.codeW, launch := none, last := some (n, t), veto := p.veto.filter fun f => n < f, spoiled := false }
  let p := match p.fwdNext with
    | some (st, f) => if f ≤ n then { p with fwd := st, fwdNext := none } else p
    | none => p
  (p.status n temp).find found

/-- The launch that a marker has scheduled; `temp`: the temperature of the partner's STATUS, `found`: lamps found open or short. -/
def State.partnerLaunch (s : State) (g k temp : Nat) (found : List (Nat × Bool)) : State :=
  let p := s.partner g k
  match p.addr, p.launch with
  | some _, some (n, sync, t) =>
    let r := s.draw
    r.2.onPartner g k fun p => p.launchAt n t (sync && !p.veto.contains n && !p.spoiled) r.1 temp found
  | _, _ => s

/-- A launch on the partner's own timing at instant `t` (R285): the frame after its last, without a swap.
(DEDUCED: notes/assumptions/39.md) -/
def State.partnerOwnLaunch (s : State) (g k : Nat) (t : Int) (temp : Nat) (found : List (Nat × Bool)) : State :=
  let p := s.partner g k
  match p.addr, p.launch, p.last with
  | some _, none, some (n, _) =>
    let r := s.draw
    r.2.onPartner g k fun p => p.launchAt (n + 1) t false r.1 temp found
  | _, _, _ => s

/-- No valid block for 1 ms outside a sleep state, or, with `training`, a valid TRAIN block (R285, R308, R311). -/
def PartnerSt.linkLoss (p : PartnerSt) (training : Bool) : PartnerSt :=
  if training then (if p.decl.classL then { p with blank := true } else p)
  else if p.fwd = 0 then { p with blank := true, lost := true }
  else p

/-! ### Enumeration, stamps, trim (R281 to R283) -/

/-- ENUM with COUNT reaches partner k, which declares `d` (R281). -/
def State.partnerEnum (s : State) (g k count : Nat) (d : Decl) : State :=
  s.onPartner g k fun p =>
    let p := { p with skip := false, fwd := 0, fwdNext := none, backOff := false, aux := false }
    if count < 512 then
      (({ p with decl := d, addr := some count, relay := some (count + 1) }).push (.decl 0 false)).push (.decl 1 false)
    else ({ p with addr := none, relay := some count }).push (.decl 0 true)

/-- A TRIM (R283). -/
def PartnerSt.setTrim (p : PartnerSt) (tag trim : Nat) : PartnerSt := { p with trim := trim % 65536 }.push (.ack 4 tag 0 0 0)

/-! ### Configuration registers (R287) -/

/-- A CFG_WR: the result, and the partner after it. (DEDUCED: notes/assumptions/39.md) -/
def PartnerSt.cfgWr (p : PartnerSt) (reg v : Nat) : Nat × PartnerSt :=
  match reg with
  | 2 => if 10 ≤ v && v ≤ 16 && bitOf p.decl.widths (v - 10) then (0, { p with codeW := v }) else (2, p)
  | 3 =>
    if p.decl.keepMax != 0 && (v = 0 || p.decl.keepMax < v) then (2, p)
    else if 65535 < v then (2, p)
    else (0, { p with keepLimit := some v, blank := p.blank || (!p.decl.classL && v != 0 && decide (v < p.holds)) })
  | 4 => if v ≤ 255 then (0, { p with statusPeriod := v }) else (2, p)
  | 5 => if v ≤ 1 then (0, { p with faultEn := v }) else (2, p)
  | _ => if 0x10 ≤ reg && reg ≤ 0xFF then (0, { p with maker := p.maker.put 0 reg v }) else (1, p)

/-- A CFG_WR whose change of FAULT_EN from 0 to 1 reports every known fault again. -/
def PartnerSt.write (p : PartnerSt) (reg v : Nat) : Nat × PartnerSt :=
  let r := p.cfgWr reg v
  if reg = 5 && p.faultEn = 0 && r.2.faultEn = 1 then
    (r.1, r.2.report p.faults)
  else r

/-- A CFG_RD: result, value and the partner after it. -/
def PartnerSt.read (p : PartnerSt) (reg : Nat) : Nat × Nat × PartnerSt :=
  match reg with
  | 0 => (0, p.decl.pid, p)
  | 1 => (0, p.addr.getD 0x3FF, p)
  | 2 => (0, p.codeW, p)
  | 3 => (0, p.keepLimit.getD p.decl.keepMax, p)
  | 4 => (0, p.statusPeriod, p)
  | 5 => (0, p.faultEn, p)
  | 6 => (0, p.trim, p)
  | 7 => (0, p.errTotal, { p with errTotal := 0 })
  | _ => if 0x10 ≤ reg && reg ≤ 0xFF then (0, p.maker.look 0 reg, p) else (1, 0, p)

/-- A control block reaches the partners that `addr` names, damaged at the places `bad`, where it is counted and has no other effect. -/
def State.onCtl (s : State) (g addr : Nat) (bad : List Nat) (f : Nat → PartnerSt → PartnerSt) : State :=
  let hit := (s.dev.partners.filter fun e => e.1 / 512 = g && bad.contains (e.1 % 512)).map (·.1 % 512) |>.eraseDups
  hit.foldl (fun s k => s.onPartner g k (·.damaged)) ((s.reached g addr).filter (fun k => !bad.contains k) |>.foldl (fun s k => s.onPartner g k (f k)) s)

/-- A CFG_WR reaches its partner, or all of them. -/
def State.partnerCfgWr (s : State) (g addr tag reg v : Nat) (bad : List Nat) : State :=
  if addr = 0x3FF then (s.bcastCopy g 5 tag reg v).onCtl g addr bad fun _ => PartnerSt.once tag fun p => (p.write reg v).2
  else s.onCtl g addr bad fun _ p => let r := p.write reg v; r.2.push (.ack 5 tag r.1 reg 0)

/-! ### Packets and markers (R275, R276, R283 to R286) -/

/-- Codes written into a buffer from lamp `first` on. -/
def putCodes (m : AMap Nat) : Nat → List Nat → AMap Nat
  | _, [] => m
  | i, c :: t => putCodes (m.put 0 i (c + 1)) (i + 1) t

/-- A DRIVE packet of frame `n` reaches an addressed partner (R284, R286). (DEDUCED: notes/assumptions/39.md) -/
def PartnerSt.drive (p : PartnerSt) (n first : Nat) (codes : List Nat) : PartnerSt :=
  if codes.isEmpty then p
  else if !p.decl.classL && (match p.last with
      | some (m, _) => (m + 1) % 256 != n % 256
      | none => false) || p.decl.lamps < first + codes.length then
    { p with discard := min 255 (p.discard + 1), spoiled := true }
  else { p with back := putCodes p.back first codes }

/-- The partner that an item is for, 0x3FF for all of class L. -/
def Item.addr : Item → Nat
  | .drive _ a .. => a
  | .row _ _ a .. => a

/-- Two items meet at a class L partner, or at one partner. -/
def Item.meets (ls : List Nat) (x y : Item) : Bool :=
  x.addr = y.addr || (x.addr = 0x3FF && ls.contains y.addr) || (y.addr = 0x3FF && ls.contains x.addr)

/-- The first item that `pick` takes and that passes none before it which it meets, and what remains; `seen`: those before it. -/
def takeFree (pick : Item → Bool) (ls : List Nat) : List Item → List Item → Option (Item × List Item)
  | _, [] => none
  | seen, x :: t => if pick x && !seen.any (x.meets ls) then some (x, seen ++ t) else takeFree pick ls (seen ++ [x]) t

/-- A DRIVE packet reaches partner k: lost by its framing (`some true`), by its packet check (`some false`), or whole (R274, R284). -/
def PartnerSt.packet (p : PartnerSt) (mine : Bool) (n first : Nat) (codes : List Nat) : Option Bool → PartnerSt
  | some framing =>
    if p.skip then p
    else
      let p := p.rxError
      if framing then { p with spoiled := true, skip := true } else if mine then { p with spoiled := true } else p
  | none => if p.skip then { p with spoiled := p.spoiled || mine } else if mine then p.drive n first codes else p

/-- The item is a DRIVE packet. -/
def Item.isDrive : Item → Bool
  | .drive .. => true
  | .row .. => false

/-- Runs and queue when the next DRIVE packet of a strand is to leave: with no closed one left, its deadline has closed the oldest run
(R333). -/
def dueRun (q : List Item × List Item) : List Item × List Item :=
  if q.2.any (·.isDrive) then q else (q.1.drop 1, q.2 ++ q.1.take 1)

/-- The next DRIVE packet of strand g leaves; `bad`: the chain places that receive it damaged, with its framing lost or only its packet check
failed (R274, R333). (DEDUCED: notes/assumptions/36.md) -/
def State.driveLeaves (s : State) (g : Nat) (bad : List (Nat × Bool)) : State :=
  let q := dueRun (s.packs g)
  match takeFree (·.isDrive) (s.rowPartners g) [] q.2 with
  | some (.drive n a j first codes _, t) =>
    let s := ((s.gap g).setPacks g (q.1, t)).count (strReg STR_PKT_CNT g)
    let s := if s.dev.scan.sentAny.contains (n, g / 16) then s else s.setScan { s.dev.scan with sentAny := (n, g / 16) :: s.dev.scan.sentAny }
    let s := (s.reached g 0x3FF).foldl (fun s k =>
      let mine := a = 0x3FF || (s.partner g k).addr = some a
      s.onPartner g k fun p => p.packet mine n first codes ((bad.find? (·.1 = k)).map (·.2))) s
    s.send g (.drive n a j first codes)
  | _ => s

/-- A ROW reaches a class L partner (R286). (DEDUCED: notes/assumptions/36.md) -/
def PartnerSt.takeRow (p : PartnerSt) (late : Bool) (tOn dur row : Nat) : PartnerSt :=
  if !p.decl.classL then p
  else if late || p.last.isNone then { p with blank := true, lateRow := true }
  else { p with pending := p.back, back := [], backSalt := none, row := some ⟨tOn, dur, row⟩ }

/-- The reference launch of the rows of frame `n` may have passed: it lies no later than the end of the line in force (R286, R334).
(DESIGN CHOICE: notes/assumptions/51.md) -/
def State.rowFree (s : State) (n : Nat) : Bool := n != s.tbFrame || s.wf TB_LAUNCH TB_LAUNCH.LAUNCH_OFS ≤ s.dev.tb.line * s.dev.tb.ras.lineTicks

/-- A ROW as partner k receives it. An addressed one is a single block; of a broadcast one three copies leave, `bad` names a place once for each
copy that is damaged there, and one whole copy suffices (R269, R312). -/
def State.rowTo (s : State) (g k : Nat) (all late : Bool) (bad tOn dur row : Nat) : State :=
  s.onPartner g k fun p =>
    let p := Nat.repeat (·.damaged) (min bad (if all then 3 else 1)) p
    if bad < (if all then 3 else 1) then p.takeRow late tOn dur row else p

/-- The next ROW of strand g leaves: behind the packets of its own lines, before all others (R335), a broadcast one in three consecutive slots
(R312). `late`: the chain places that it reaches after its T_ON; `bad`: those that receive it damaged. (DEDUCED: notes/assumptions/36.md) -/
def State.rowLeaves (s : State) (g : Nat) (late bad : List Nat) : State :=
  let q := s.packs g
  match takeFree (fun x => match x with
    | .row n .. => s.rowFree n
    | .drive .. => false) (s.rowPartners g) [] q.2 with
  | some (.row _ _ a row tOn dur, t) =>
    let tag := (s.strand g).tag
    let s := ((s.setPacks g (q.1, t)).count (strReg STR_ROW_CNT g)).onStrand g fun t => { t with tag := (t.tag + 1) % 64 }
    let all := decide (a = 0x3FF)
    let s := (List.range (if all then 3 else 1)).foldl (fun s _ => s.send g (.ctl (.cmd 7 a tag tOn dur row))) s
    let s := (bad.filter fun k => !(s.reached g a).contains k && (s.dev.partners.any fun e => e.1 = g * 512 + k)).foldl (fun s k =>
      s.onPartner g k (·.damaged)) s
    (s.reached g a).foldl (fun s k => s.rowTo g k all (late.contains k) (bad.count k) tOn dur row) s
  | _ => s

/-- T_ON of the pending row (R286); DUR = 0 drives nothing (R291). -/
def PartnerSt.rowOn (p : PartnerSt) : PartnerSt :=
  match p.row with
  | some r => { p with front := p.pending, pending := [], row := none, shown := if r.dur = 0 then none else some r, blank := r.dur = 0 }
  | none => p

/-- The row that the partner drives at instant `t`: from T_ON after its last launch, for DUR ticks, unless it blanks (R285, R286). -/
def PartnerSt.driven (p : PartnerSt) (t : Int) : Option RowSt :=
  match p.shown, p.last with
  | some r, some (_, t0) => if !p.blank && t0 + r.tOn ≤ t && t < t0 + r.tOn + r.dur then some r else none
  | _, _ => none

/-- A launch marker with timing point `tp` (R283). -/
def PartnerSt.marker (p : PartnerSt) (n : Nat) (sync : Bool) (lead : Nat) (tp : Int) : PartnerSt :=
  { p with launch := some (n, sync, tp + lead - p.trim) }

/-- A veto for frame `n` (R272, R284, R286). -/
def PartnerSt.vetoed (p : PartnerSt) (n : Nat) : PartnerSt := if p.decl.classL then p else { p with veto := n :: p.veto.filter (· != n) }

/-- A KEEP: the marker at place k, or a veto of the partner it addresses (R272); `bad`: it fails its check there (R269). -/
def State.keep (s : State) (g k n addr : Nat) (launch : Bool) (lead : Nat) (tp : Int) (bad : Bool) : State :=
  let p := s.partner g k
  if p.addr.isNone then s
  else if bad then s.onPartner g k (·.damaged)
  else if launch then s.onPartner g k (·.marker n false lead tp)
  else if addr = 0x3FF || p.addr = some addr then s.onPartner g k (·.vetoed n)
  else s

/-- A FRAME_SYNC at place k (R275, R283): lost by its framing, by its packet check, among skipped blocks, or whole (R274). -/
def State.frameSync (s : State) (g k n lead : Nat) (tp : Int) (bad : Option Bool) : State :=
  let p := s.partner g k
  if p.addr.isNone then s
  else if p.missed = some n then s.onPartner g k fun p => { p with missed := none }
  else match bad with
  | some framing => s.onPartner g k fun p => let p := p.rxError; if framing then { p with spoiled := true, skip := true } else p
  | none => s.onPartner g k (·.marker n true lead tp)

/-! ### Sleep and test (R311 to R313, R319) -/

/-- FWD_STATE (R313): AWAKE at once; else at the launch of the frame named, or at once when that has passed. -/
def PartnerSt.fwdState (p : PartnerSt) (st frame : Nat) : PartnerSt :=
  let passed := frame = 0 || (match p.last with
    | some (n, _) => decide (frame ≤ n)
    | none => false)
  if st = 0 || passed then { p with fwd := st, fwdNext := none } else { p with fwdNext := some (st, frame) }

/-- BACK_STATE (R311, R312): OFF sends nothing, and a STATUS is discarded. -/
def PartnerSt.backState (p : PartnerSt) (off aux : Bool) : PartnerSt :=
  { p with backOff := off, aux := aux, queue := if off then p.queue.filter fun m => match m with
    | .status .. => false
    | _ => true else p.queue }

/-- TEST (R312, R319, R323): a reserved pattern is answered NACK and starts nothing. (DEDUCED: notes/assumptions/39.md) -/
def PartnerSt.testGo (p : PartnerSt) (pattern dir mask us : Nat) : Nat × PartnerSt :=
  if 5 ≤ pattern then (1, p) else if us = 0 then (0, p) else (0, { p with test := some (pattern, dir, mask) })

/-- TEST_RESULT (R312): the errors that the partner's checker has counted over what it saw (`runs`) in the last window, if the lane checked in
it (R318). -/
def PartnerSt.testErrs (p : PartnerSt) (lane : Nat) (runs : List Nat) : Nat :=
  match p.test with
  | some (_, 0, mask) => if bitOf mask lane then min 0xFFFFFFFF (checkerRun runs Checker.start).errs else 0
  | _ => 0

/-! ### Commands and packets as they reach the partners -/

/-- A partner takes its address. -/
def execEnum (g k count : Nat) (decl : Decl) (s : State) : Out := .next (s.runDev (·.partnerEnum g k count decl))

/-- A STAMP (R282). -/
def execStamp (g addr : Nat) (rx : CmdRx) (seq : Nat) (s : State) : Out :=
  .next (s.runDev (·.onCtl g addr rx.bad fun _ p => p.push (.echo rx.tag seq)))

/-- A TRIM (R283). -/
def execTrim (g addr : Nat) (rx : CmdRx) (trim : Nat) (s : State) : Out := .next (s.runDev (·.onCtl g addr rx.bad fun _ p => p.setTrim rx.tag trim))

/-- A CFG_WR (R287). -/
def execCfgWr (g addr : Nat) (rx : CmdRx) (reg val : Nat) (s : State) : Out := .next (s.runDev (·.partnerCfgWr g addr rx.tag reg val rx.bad))

/-- A CFG_RD (R287). -/
def execCfgRd (g addr : Nat) (rx : CmdRx) (reg : Nat) (s : State) : Out :=
  .next (s.runDev (·.onCtl g addr rx.bad fun _ p => let r := p.read reg; r.2.2.push (.ack 6 rx.tag r.1 reg r.2.1)))

/-- A ROW (R286, R334). -/
def execRow (g : Nat) (rx : RowRx) (s : State) : Out := .next (s.runDev (·.rowLeaves g rx.late rx.bad))

/-- T_ON at partner k. -/
def execRowTOn (g k : Nat) (s : State) : Out := .next (s.runDev (·.onPartner g k (·.rowOn)))

/-- FWD_STATE (R312, R313). -/
def execFwdState (g : Nat) (rx : CmdRx) (st frame : Nat) (s : State) : Out :=
  .next (s.runDev fun s => (s.bcastCopy g 8 rx.tag st frame).onCtl g 0x3FF rx.bad fun _ => PartnerSt.once rx.tag (·.fwdState st frame))

/-- BACK_STATE (R312, R313). -/
def execBackState (g : Nat) (rx : CmdRx) (off aux : Bool) (s : State) : Out :=
  .next (s.runDev fun s => (s.bcastCopy g 9 rx.tag ((if off then 1 else 0) + (if aux then 2 else 0)) 0).onCtl g 0x3FF rx.bad fun _ =>
    PartnerSt.once rx.tag (·.backState off aux))

/-- TEST (R312). -/
def execTest (g addr : Nat) (rx : CmdRx) (pattern dir mask us : Nat) (s : State) : Out :=
  .next (s.runDev fun s =>
    let s := if addr = 0x3FF then s.bcastCopy g 10 rx.tag (pattern % 8 + dir % 2 * 8 + mask * 16) us else s
    s.onCtl g addr rx.bad fun _ p =>
      if addr = 0x3FF then p.once rx.tag fun p => (p.testGo pattern dir mask us).2
      else let r := p.testGo pattern dir mask us; r.2.push (.ack 10 rx.tag r.1 0 0))

/-- TEST_RESULT (R312); `runs`: what the partner's checker saw on the lane. -/
def execTestResult (g addr : Nat) (rx : CmdRx) (lane : Nat) (runs : List Nat) (s : State) : Out :=
  .next (s.runDev (·.onCtl g addr rx.bad fun _ p => p.push (.ack 11 rx.tag 0 0 (p.testErrs lane runs))))

/-- A DRIVE packet (R275, R284). -/
def execDrive (g : Nat) (bad : List (Nat × Bool)) (s : State) : Out := .next (s.runDev (·.driveLeaves g bad))

/-- A FRAME_SYNC reaches partner k (R275, R283). -/
def execFrameSync (g k frame lead : Nat) (rx : MarkerRx) (s : State) : Out :=
  .next (s.runDev (·.frameSync g k frame lead rx.tp rx.bad))

/-- A KEEP reaches partner k (R272). -/
def execKeep (g k frame addr : Nat) (launch : Bool) (lead : Nat) (rx : MarkerRx) (s : State) : Out :=
  .next (s.runDev (·.keep g k frame addr launch lead rx.tp rx.bad.isSome))

/-- A launch instant (R284, R286). -/
def execPartnerLaunch (g : Nat) (x : LaunchAt) (s : State) : Out := .next (s.runDev (·.partnerLaunch g x.k x.temp x.found))

/-- A launch on the partner's own timing (R285). -/
def execPartnerOwnLaunch (g : Nat) (x : LaunchAt) (t : Int) (s : State) : Out :=
  .next (s.runDev (·.partnerOwnLaunch g x.k t x.temp x.found))

/-- The forward link is lost, or trains anew (R285, R308). -/
def execPartnerLinkLoss (g k : Nat) (training : Bool) (s : State) : Out := .next (s.runDev (·.onPartner g k (·.linkLoss training)))

/-! ### Back messages as they reach the part -/

/-- The partners of strand g that hold an address. -/
def State.holders (s : State) (g addr : Nat) : List Nat :=
  (s.dev.partners.filter fun e => e.1 / 512 = g && e.2.addr = some addr).map (·.1 % 512)

/-- The partners in excess of strand g, which have no address (R281), with this DECL part to send. -/
def State.excess (s : State) (g part : Nat) : List Nat :=
  (s.dev.partners.filter fun e => e.1 / 512 = g && e.2.addr.isNone && e.2.queue.contains (.decl part true)).map (·.1 % 512)

/-- The first partner of `ks`, if there is one, sends message `m` next. -/
def State.sends (s : State) (g : Nat) (ks : List Nat) (m : BackMsg) : Bool := (ks.take 1).all fun k => (s.partner g k).next = some m

/-- Message `m` of one of the partners `ks` comes from the back stream: it is the one that the first of them sends next, and leaves its queue;
what no partner sends has no effect (R277). A sender that is none of the model's partners is taken at its word. -/
def State.onLine (s : State) (g : Nat) (ks : List Nat) (m : BackMsg) (f : State → State) : State :=
  if s.sends g ks m then f ((ks.take 1).foldl (fun s k => s.onPartner g k fun p => { p with queue := p.queue.erase m }) s) else s

/-- A back block of partner `k` fails its check, or its type is unknown: what it sends next is lost (R269, R279). -/
def State.backLostMsg (s : State) (g : Nat) : Option Nat → State
  | some k => match (s.partner g k).next with
    | some m => s.onPartner g k fun p => { p with queue := p.queue.erase m }
    | none => s
  | none => s

/-- The part sends the marker of frame `frame` on strand g, its slot `adj` after the departure time (R89, R275, R276). -/
def execFrameSyncDeparture (g : Nat) (m : MarkerTx) (s : State) : Out := .next (s.runDev (·.departs m.frame g m.adj))

/-- A partner may send WAKE: its forward direction is OFF and its back direction is AWAKE (R315). -/
def State.mayWake (s : State) (g addr : Nat) : Bool := (s.holders g addr).all fun k => (s.partner g k).fwd = 2 && !(s.partner g k).backOff

/-- 64 consecutive invalid back headers (R307). -/
def execInvalidHeaderLimit (g : Nat) (s : State) : Out :=
  .next (s.runDev fun s =>
    if s.strandOk g && s.strState g = 10 && !s.b (strReg STR_SLEEP_STAT g) STR_SLEEP_STAT.BACK then s.strandLoss g 0xA else s)

/-- A command had no reply. (DEDUCED: notes/assumptions/44.md) -/
def execCmdTimeout (g addr tag : Nat) (s : State) : Out := .next (s.runDev (·.cmdTimeout g addr tag))

/-- Block lock in Detect. -/
def execBlockLock (g lanes inv : Nat) (s : State) : Out := .next (s.runDev (·.blockLock g lanes inv))

/-- A bring-up attempt times out. -/
def execTrainAttemptTimeout (g : Nat) (s : State) : Out := .next (s.runDev (·.attemptTimeout g))

/-- The CAP countdown ends. -/
def execCapSwitch (g : Nat) (s : State) : Out := .next (s.runDev (·.capSwitch g))

/-- The GO countdown ends. -/
def execGoCountdownEnd (g : Nat) (s : State) : Out := .next (s.runDev (·.goEnd g))

/-- The backoff wait ends. (DEDUCED: notes/assumptions/44.md) -/
def execBackoffExpiry (g : Nat) (s : State) : Out := .next (s.runDev (·.backoffExpiry g))

/-- The back signal is lost. -/
def execBackSignalLost (g : Nat) (s : State) : Out := .next (s.runDev (·.backLost g))

/-- The TRAIN BLIND blocks have left. -/
def execTrainBlindEnd (g : Nat) (s : State) : Out := .next (s.runDev (·.blindEnd g))

/-- A receiver freezes. -/
def execAdaptFreeze (g lane : Nat) (s : State) : Out := .next (s.runDev (·.adaptFreeze g lane))

/-- A re-adapt window ends. -/
def execReadaptWindowEnd (g lane : Nat) (s : State) : Out := .next (s.runDev (·.windowEnd g lane))

/-- The time of the primer. -/
def execPrimerStamp (g : Nat) (s : State) : Out := .next (s.runDev (·.primer g))

/-- A back wake had no MARK. -/
def execBackWakeTimeout (g : Nat) (s : State) : Out := .next (s.runDev (·.backWakeTimeout g))

/-- The part measures its partners. -/
def execStampMeasure (g : Nat) (s : State) : Out := .next (s.runDev (·.stampMeasure g))

/-- A test window ends. -/
def execPrbsWindowEnd (g : Nat) (runs : List (List Nat)) (s : State) : Out := .next (s.runDev (·.prbsEnd g runs))

end Sys2Proof.Machine
end

