-- ==== Sys2Proof/Machine/Jobs.lean ====
section
/-! DEFINITION. Ready fences (R181, R182), job rings and the job queue (R476 to R481), job types (R479) and compression jobs (R396, R403,
R412 to R418). A job does its work in one step, at its own command; it completes at JOB_COMPLETE (notes/assumptions/12.md). -/
namespace Sys2Proof.Machine

/-! ### Ready fences -/

/-- SRC_SEL of layer n on die d is not 0b00 in the active values or in the shadow: ARM is ignored (R182).
(DEDUCED: notes/assumptions/28.md) -/
def State.armBarred (s : State) (d n : Nat) : Bool :=
  s.f (LYR_CTL d n) LYR_CTL.SRC_SEL != 0 || LYR_CTL.SRC_SEL.get (s.shW (LYR_CTL d n)).toNat != 0

/-- A write of LYR_n_READY on die d: DISARM, then ARM, then SIGNAL (R181). -/
def State.readyWrite (s : State) (d n v : Nat) : State :=
  let r := LYR_READY d n
  let s := if LYR_READY.DISARM.get v = 1 then (s.setF r LYR_READY.ARMED 0).setF r LYR_READY.SIGNALLED 0 else s
  let s := if LYR_READY.ARM.get v = 1 && !s.armBarred d n then (s.setF r LYR_READY.ARMED 1).setF r LYR_READY.SIGNALLED 0 else s
  if LYR_READY.SIGNAL.get v = 1 && s.b r LYR_READY.ARMED then s.setF r LYR_READY.SIGNALLED 1 else s

/-- The fence of layer n is signalled on every live die (R182). -/
def State.fenceSignal (s : State) (n : Nat) : State := s.onDies fun s d => s.readyWrite d n (2 ^ LYR_READY.SIGNAL.lsb)

/-- A job signals the fence of layer n; during the shadow transfer window it counts from the window's end (R176). -/
def State.jobSignal (s : State) (n : Nat) : State :=
  if s.b KNOT_STATUS KNOT_STATUS.BUSY then s.setKnot { s.dev.knot with held := s.dev.knot.held ++ [.signal n] } else s.fenceSignal n

/-! ### Rings and queue -/

/-- Put the job state back. -/
def State.setJobs (s : State) (j : JobSt) : State := { s with dev := { s.dev with jobs := j } }

/-- The host's accesses reach the part: the link is up and the function is in D0. (DEDUCED: notes/assumptions/22.md) -/
def State.hostOn (s : State) : Bool := s.f HOST_LINK HOST_LINK.SPEED != 0 && !s.dev.host.d3

/-- The part can make bus-master accesses (R471, R476). -/
def State.hostMaster (s : State) : Bool := s.f HOST_LINK HOST_LINK.SPEED != 0 && s.dev.host.busMaster

/-- The part is past start-up: an operating mode or Dormant (R45). -/
def State.up (s : State) : Bool := s.mode.operating || s.mode = .dormant

/-- Entries of ring r. -/
def State.ringSize (s : State) (r : Nat) : Nat := 2 ^ s.f (JOB_SIZE r) JOB_SIZE.LOG2

/-- Ring r is enabled. -/
def State.ringEn (s : State) (r : Nat) : Bool := s.b (JOB_CTL r) JOB_CTL.EN

/-- Ring r. -/
def State.ring (s : State) (r : Nat) : RingSt := s.dev.jobs.rings.look .reset r

/-- Put ring r back. -/
def State.setRing (s : State) (r : Nat) (x : RingSt) : State := s.setJobs { s.dev.jobs with rings := s.dev.jobs.rings.put .reset r x }

/-- Job `j` of the queue. -/
def State.job (s : State) (j : Nat) : Option Job := s.dev.jobs.queue.find? (·.id = j)

/-- Job `j` has completed and waits for its record. -/
def State.jobEnded (s : State) (j : Nat) : Bool := s.dev.jobs.ended.contains j

/-- A word of the first descriptor. -/
def Job.w (j : Job) (i : Nat) : Nat := (j.descs.headD []).getD i 0

/-- OP. -/
def Job.op (j : Job) : Nat := j.w 0 % 256

/-- Input address of a descriptor. -/
def descIn (d : List Nat) : Nat := d.getD 1 0 + 2 ^ 32 * (d.getD 2 0 % 256)

/-- Input or source address. -/
def Job.src (j : Job) : Nat := descIn (j.descs.headD [])

/-- Output or destination address. -/
def Job.dst (j : Job) : Nat := j.w 3 + 2 ^ 32 * (j.w 2 / 256 % 256)

/-- ORDER = 1 (R478). -/
def Job.ordered (j : Job) : Bool := bitOf (j.w 7) 29

/-- A compression job. -/
def Job.comp (j : Job) : Bool := 0x21 ≤ j.op && j.op ≤ 0x24

/-- A ZLC job. -/
def opZlc (op : Nat) : Bool := op = 0x23 || op = 0x24

/-- An OP of R479. -/
def opKnown (op : Nat) : Bool := (1 ≤ op && op ≤ 4) || (0x21 ≤ op && op ≤ 0x24) || (0x31 ≤ op && op ≤ 0x33)

/-- The die on which a job runs (R396, R479). -/
def Job.die (j : Job) : Nat :=
  if j.op = 3 || j.op = 4 then 0 else if 0x31 ≤ j.op then j.w 6 % 2 else dieOf j.dst

/-- The counts of queued jobs; a stopped ring without a job has its indices at 0 (R481). -/
def State.jobCounts (s : State) (r : Nat) : State :=
  let n := (s.dev.jobs.queue.filter fun (j : Job) => j.ring = r).length
  let s := (s.setF JOB_QUEUE JOB_QUEUE.COUNT s.dev.jobs.queue.length).setF (JOB_INFLIGHT r) JOB_INFLIGHT.COUNT n
  if n = 0 && !s.ringEn r then
    ((s.setF (JOB_STAT r) JOB_STAT.SQ_HEAD 0).setF (JOB_STAT r) JOB_STAT.CQ_TAIL 0).setRing r { s.ring r with tail := 0, head := 0 }
  else s

/-- Write host memory by bus-master access. -/
def State.hostWrite (s : State) (a : Nat) (bs : List Byte) : State :=
  { s with dev := { s.dev with host := { s.dev.host with
      mem := bs.zipIdx.foldl (fun m b => m.put 0 ((a + b.2) % 2 ^ 64) b.1) s.dev.host.mem } } }

/-- The place of a status in the list of `JobEnd`. -/
def JobEnd.idx : JobEnd → Nat
  | .ok => 0 | .noGain => 1 | .outFull => 2 | .badDesc => 3 | .memUe => 4 | .pinBlocked => 5 | .ioErr => 6 | .aborted => 7

/-- The completion record (R418). -/
def Job.record (j : Job) (r : JobRes) : List Byte :=
  leBytes 4 (Config.jobStatus r.how.idx % 256 + r.detail % 256 * 2 ^ 8 + j.w 0 / 2 ^ 16 % 2 ^ 16 * 2 ^ 16) ++ leBytes 4 r.out ++ leBytes 4 r.inp
    ++ leBytes 4 r.check

/-- Job `j` leaves the queue. -/
def State.jobGone (s : State) (j : Job) : State :=
  (s.setJobs { s.dev.jobs with queue := s.dev.jobs.queue.filter (·.id != j.id), ended := s.dev.jobs.ended.filter (· != j.id) }).jobCounts j.ring

/-- Write the record of a completed job, when its ring has space and the host can be reached; with the link down it is discarded (R471,
R480). -/
def State.jobRecord (s : State) (j : Job) : State :=
  let r := j.ring
  let tail := s.f (JOB_STAT r) JOB_STAT.CQ_TAIL
  let next := (tail + 1) % s.ringSize r
  match j.res with
  | none => s
  | some res =>
    if s.f HOST_LINK HOST_LINK.SPEED = 0 then s.jobGone j
    else if !s.dev.host.busMaster || next = (s.ring r).head then s
    else
      let s := s.hostWrite (s.pair (JOB_CQ_BASE_LO r) (JOB_CQ_BASE_HI r) 32 + 16 * tail) (j.record res)
      let s := (s.setF (JOB_STAT r) JOB_STAT.CQ_TAIL next).hostWrite (s.pair (JOB_CQ_WB_LO r) (JOB_CQ_WB_HI r) 32) (leBytes 4 next)
      let s := if bitOf (j.w 7) 31 then s.jobDone r else s
      s.jobGone j

/-- The records of completed jobs, in order of completion. (DEDUCED: notes/assumptions/12.md) -/
def State.jobRecords (s : State) : State :=
  s.dev.jobs.ended.foldl (fun s i => match s.job i with
    | some j => s.jobRecord j
    | none => s) s

/-- Give a job its result. -/
def State.setRes (s : State) (j : Nat) (r : JobRes) : State :=
  s.setJobs { s.dev.jobs with queue := s.dev.jobs.queue.map fun (x : Job) => if x.id = j then { x with res := some r } else x }

/-- A result that no work precedes. -/
def JobRes.plain (e : JobEnd) : JobRes := ⟨e, 0, 0, 0, 0⟩

/-- CHECK of a job that ends with another status than OK (R418, R480): the invalid blocks met by a ZBC decode; of a ZLC job no rule states
it; else 0. -/
def State.failCheck (s : State) (j : Job) (bad : Nat) : Nat × State :=
  if opZlc j.op then s.draw else (if j.op = 0x22 then bad else 0, s)

/-- Job `j` ends with `e` before any work, or in spite of what it has done. -/
def State.endAs (s : State) (j : Job) (e : JobEnd) : State :=
  match j.res with
  | none =>
    let c := s.failCheck j 0
    c.2.setRes j.id { JobRes.plain e with check := c.1 }
  | some r => s.setRes j.id { r with how := e, detail := 0, out := if j.comp then 0 else r.out }

/-- The engine of die d is running a compression job other than `i` (CMP_STATUS.BUSY). -/
def State.engineOn (s : State) (d i : Nat) : Bool :=
  s.dev.jobs.queue.any fun (k : Job) => k.comp && k.id != i && decide (k.die = d) && k.res.isSome && !s.jobEnded k.id

/-- A job completes (R480): its merge entries leave (R384), a refused one makes it MEM_UE (R417), the CMP_ counts, the
fence, then its record. (DEDUCED: notes/assumptions/12.md) -/
def State.jobEnd (s : State) (i : Nat) : State :=
  if s.jobEnded i || (match s.job i with
    | some j => j.res.isNone
    | none => true) then s
  else
    let s := s.leaveAll fun m => m.jobs.contains i
    let s := match s.job i with
      | some ⟨_, _, ds, some r⟩ =>
        if r.how = JobEnd.ok && s.dev.mem.jobUe.contains i then
          s.setRes i { r with how := .memUe, out := if (Job.mk i 0 ds none).comp then 0 else r.out }
        else s
      | _ => s
    let s := { s with dev := { s.dev with mem := { s.dev.mem with jobUe := s.dev.mem.jobUe.filter (· != i) } } }
    match s.job i with
    | some j =>
      match j.res with
      | none => s
      | some r =>
        let s := if j.comp then
            let s := (if s.engineOn j.die i then s else s.clrBitF CMP_STATUS CMP_STATUS.BUSY j.die).count CMP_JOB_CNT
            let s := if r.how = JobEnd.noGain then s.count CMP_NOGAIN_CNT else if r.how = JobEnd.ok then s else s.count CMP_FAIL_CNT
            let s := s.setPair CMP_IN_BYTES_LO CMP_IN_BYTES_HI 32 (s.pair CMP_IN_BYTES_LO CMP_IN_BYTES_HI 32 + r.inp)
            if r.how = JobEnd.ok then s.setPair CMP_OUT_BYTES_LO CMP_OUT_BYTES_HI 32 (s.pair CMP_OUT_BYTES_LO CMP_OUT_BYTES_HI 32 + r.out) else s
          else s
        let s := if r.how = JobEnd.ok && bitOf (j.w 7) 30 then s.jobSignal (j.w 7 / 2 ^ 24 % 8) else s
        let s := s.setJobs { s.dev.jobs with ended := s.dev.jobs.ended ++ [i] }
        s.jobRecords
    | none => s

/-- The jobs that `p` names complete ABORTED, in queue order (R481, R492). -/
def State.jobsAbort (s : State) (p : Job → Bool) : State :=
  (s.dev.jobs.queue.filter fun (j : Job) => p j && !s.jobEnded j.id).foldl (fun s (j : Job) => (s.endAs j .aborted).jobEnd j.id) s

/-- Every unstarted job of ring r completes ABORTED (R481). -/
def State.ringAbort (s : State) (r : Nat) : State := s.jobsAbort fun (j : Job) => decide (j.ring = r) && j.res.isNone

/-- Ring r is disabled (R481). (DEDUCED: notes/assumptions/12.md) -/
def State.ringOff (s : State) (r : Nat) : State :=
  let s := (s.setF (JOB_CTL r) JOB_CTL.EN 0).setRing r { s.ring r with part := [] }
  (s.ringAbort r).jobCounts r

/-- A write of JOB_r_CTL (R476, R481): EN = 0 or ABORT ends the unstarted jobs; EN = 1 starts the ring when its SIZE is valid. -/
def State.jobCtlWrite (s : State) (r v : Nat) : State :=
  let s := if JOB_CTL.ABORT.get v = 1 then s.ringAbort r else s
  if JOB_CTL.EN.get v = 0 then s.ringOff r
  else if s.ringEn r then s
  else
    let k := s.f (JOB_SIZE r) JOB_SIZE.LOG2
    if 4 ≤ k && k ≤ 12 then (s.setF (JOB_CTL r) JOB_CTL.EN 1).setRing r { s.ring r with stopped := false } else s

/-- Every ring is disabled (R471). -/
def State.ringsOff (s : State) : State := (List.range 8).foldl (fun s r => s.ringOff r) s

/-- In Lanyard-only every job completes ABORTED (R492). -/
def State.jobsLanyard (s : State) : State := s.jobsAbort fun _ => true

/-- A tail write (R477). -/
def State.sqDoorbell (s : State) (r v : Nat) : State :=
  if !s.hostOn || !s.up || (0x1000 ≤ 8 * r && 8 * r < 0x1400) then s
  else if 8 ≤ r || s.ringSize r ≤ v then s.accErr 5 (8 * r)
  else s.setRing r { s.ring r with tail := v }

/-- A head write (R477). -/
def State.cqDoorbell (s : State) (r v : Nat) : State :=
  if !s.hostOn || !s.up || (0x1000 ≤ 8 * r && 8 * r < 0x1400) then s
  else if 8 ≤ r || s.ringSize r ≤ v then s.accErr 5 (8 * r + 4)
  else (s.setRing r { s.ring r with head := v }).jobRecords

/-- Ring r has a descriptor that the part may take (R477). -/
def State.ringReady (s : State) (r : Nat) : Bool :=
  s.ringEn r && !(s.ring r).stopped && s.f (JOB_STAT r) JOB_STAT.SQ_HEAD != (s.ring r).tail

/-- The ring whose descriptor is next: round robin from the ring whose turn it is. -/
def State.nextRing (s : State) : Option Nat :=
  ((List.range 8).map fun k => (s.dev.jobs.turn + k) % 8).find? (s.ringReady ·)

/-- A job enters the queue. -/
def State.jobEnter (s : State) (r : Nat) (ds : List (List Nat)) : State :=
  let i := s.dev.jobs.next
  let s := s.setJobs { s.dev.jobs with queue := s.dev.jobs.queue ++ [⟨i, r, ds, none⟩], next := i + 1 }
  let s := s.jobCounts r
  if s.mode = .lanyardOnly then (s.endAs ⟨i, r, ds, none⟩ .aborted).jobEnd i else s

/-- The part reads the next descriptor from host memory; `desc` is what the read returns, none where it fails (R477, R414).
(DEDUCED: notes/assumptions/12.md) -/
def State.descFetch (s : State) (desc : Option (List Word)) : State :=
  if !s.hostMaster || 512 ≤ s.dev.jobs.queue.length then s
  else match s.nextRing with
    | none => s
    | some r =>
      let s := s.setJobs { s.dev.jobs with turn := (r + 1) % 8 }
      match desc with
      | none => ((s.setRing r { s.ring r with stopped := true }).setF (JOB_STAT r) JOB_STAT.FETCH_ERR 1).err ERR_STATUS.JOB
      | some ws =>
        let d := (List.range 8).map fun i => (ws.getD i 0).toNat
        let s := s.setF (JOB_STAT r) JOB_STAT.SQ_HEAD ((s.f (JOB_STAT r) JOB_STAT.SQ_HEAD + 1) % s.ringSize r)
        let ds := ((s.ring r).part ++ [d]).take 65
        let op := (ds.headD []).getD 0 0 % 256
        if opZlc op && bitOf (d.getD 0 0) 9 then s.setRing r { s.ring r with part := ds }
        else (s.setRing r { s.ring r with part := [] }).jobEnter r ds

/-! ### The descriptor check (R413, R478, R479) -/

/-- [a, a + n) lies partly beyond the installed capacity or on a die that is not there. -/
def State.jobRangeBad (s : State) (a n : Nat) : Bool :=
  n != 0 && (decide (2 ^ 40 < a + n) || (List.range 8).any fun d =>
    let lo := max a (d * 2 ^ 37)
    let hi := min (a + n) ((d + 1) * 2 ^ 37)
    lo < hi && (!s.live d || d * 2 ^ 37 + s.capacity d < hi))

/-- Pixel size of a raw plane (R403). -/
def ZbcForm.px (z : ZbcForm) : Nat := if z.z48 then 8 else 4

/-- A ZBC job's form, W, H, raw plane and ZBC plane (address, stride). -/
structure ZbcJob where
  form : ZbcForm
  w : Nat
  h : Nat
  raw : Nat
  rawStride : Nat
  plane : Nat
  stride : Nat
deriving DecidableEq, Repr

/-- The ZBC job of a descriptor; none where FMT is no ZBC code. -/
def Job.zbc (j : Job) : Option ZbcJob :=
  (zbcForm (j.w 6 / 2 ^ 24 % 32)).map fun z =>
    let enc := j.op = 0x21
    let i := (j.src, j.w 5 % 2 ^ 24)
    let o := (j.dst, j.w 6 % 2 ^ 24)
    ⟨z, j.w 4 % 2 ^ 16, j.w 4 / 2 ^ 16, (if enc then i.1 else o.1), (if enc then i.2 else o.2), (if enc then o.1 else i.1),
      (if enc then o.2 else i.2)⟩

/-- Bytes of the raw plane. -/
def ZbcJob.rawLen (z : ZbcJob) : Nat := if z.w = 0 || z.h = 0 then 0 else (z.h - 1) * z.rawStride + z.w * z.form.px

/-- Bytes of the ZBC plane. -/
def ZbcJob.planeLen (z : ZbcJob) : Nat := if z.w = 0 || z.h = 0 then 0 else (z.h + 3) / 4 * z.stride

/-- The ranges that a job reads, as address and length. -/
def Job.inputs (j : Job) : List (Nat × Nat) :=
  if j.op = 1 || j.op = 4 || j.op = 0x31 then [(j.src, j.w 4)]
  else if j.op = 0x21 || j.op = 0x22 then
    match j.zbc with
    | some z => if j.op = 0x21 then [(z.raw, z.rawLen)] else [(z.plane, z.planeLen)]
    | none => []
  else if opZlc j.op then j.descs.map fun d => (descIn d, d.getD 4 0)
  else []

/-- Total input length of a ZLC job. -/
def Job.total (j : Job) : Nat := (j.descs.map fun d => d.getD 4 0).sum

/-- The range that a job writes. -/
def Job.output (j : Job) : Nat × Nat :=
  if j.op = 1 || j.op = 2 || j.op = 3 || j.op = 0x32 then (j.dst, j.w 4)
  else if j.op = 0x21 || j.op = 0x22 then
    match j.zbc with
    | some z => if j.op = 0x21 then (z.plane, z.planeLen) else (z.raw, z.rawLen)
    | none => (j.dst, 0)
  else if opZlc j.op then (j.dst, if j.total = 0 then 0 else j.w 5)
  else (j.dst, 0)

/-- A reserved field of the first descriptor is not 0, or a field of it has no meaning (R412, R478, R479). -/
def Job.fieldsBad (j : Job) : Bool :=
  let flags := j.w 0 / 2 ^ 8 % 2 ^ 8
  let src := j.src != 0
  let dst := j.dst != 0
  j.w 2 / 2 ^ 16 != 0 || j.w 7 / 2 ^ 27 % 4 != 0 || j.w 7 % 2 ^ 24 != 0 || (bitOf (j.w 7) 30 && j.w 7 / 2 ^ 24 % 8 = 7) ||
  match j.op with
  | 1 => flags != 0 || j.w 5 != 0 || j.w 6 != 0
  | 2 => flags != 0 || src || j.w 6 != 0 || j.w 4 % 4 != 0
  | 3 => flags != 0 || src
  | 4 => flags != 0 || dst
  | 0x21 | 0x22 => flags != 0 || j.w 5 / 2 ^ 24 != 0 || j.w 6 / 2 ^ 29 != 0
  | 0x23 => flags / 8 != 0 || j.w 6 / 2 ^ 7 != 0 || j.w 6 = 0 || 64 < j.w 6
  | 0x24 => flags / 8 != 0 || bitOf flags 0 || bitOf flags 2 || j.w 6 != 0
  | 0x31 => flags != 0 || dst || j.w 4 % 4096 != 0 || j.src % 4096 != 0 || j.w 6 / 2 != 0
  | 0x32 => flags != 0 || src || j.w 4 % 4096 != 0 || j.dst % 4096 != 0 || j.w 6 / 2 != 0
  | 0x33 => flags != 0 || src || dst || j.w 5 != 0 || j.w 6 / 2 != 0
  | _ => true

/-- The planes of a ZBC job break R129 or R413. -/
def ZbcJob.bad (z : ZbcJob) : Bool :=
  z.w != 0 && z.h != 0 &&
    (z.plane % 256 != 0 || z.stride % 256 != 0 || z.stride < (z.w + 7) / 8 * z.form.size || z.rawStride < z.w * z.form.px ||
      z.raw % z.form.px != 0 || z.rawStride % z.form.px != 0 || 32768 < z.w || 16384 < z.h)

/-- The descriptor check of a job fails. -/
def State.descBad (s : State) (j : Job) : Bool :=
  j.fieldsBad ||
  (if j.op = 0x21 || j.op = 0x22 then match j.zbc with
    | some z => z.bad
    | none => true
   else false) ||
  (if opZlc j.op then decide (64 < j.descs.length) || j.descs.any fun d => d.getD 0 0 % 256 != j.op else false) ||
  j.inputs.any (fun r => s.jobRangeBad r.1 r.2 || rangesMeet r.1 r.2 j.output.1 j.output.2) ||
  s.jobRangeBad j.output.1 j.output.2 || (j.output.2 != 0 && s.inLany j.output.1 j.output.2) ||
  (if j.op = 0x31 || j.op = 0x32 then s.member j.die && (match (s.drive j.die).sb with
    | some b => decide (b.cap < j.w 5 + j.w 4 / 4096)
    | none => true) else false)

/-! ### Starting a job -/

/-- ORDER holds the job back: an earlier job of its ring has not completed. -/
def State.jobHeld (s : State) (j : Job) : Bool :=
  j.ordered && s.dev.jobs.queue.any fun (k : Job) => decide (k.ring = j.ring) && decide (k.id < j.id) && !s.jobEnded k.id

/-- The engine of a compression job is busy, or an earlier job is addressed to it (R396). -/
def State.engineBusy (s : State) (j : Job) : Bool :=
  j.comp && s.dev.jobs.queue.any fun (k : Job) =>
    decide (k.id ≠ j.id) && k.comp && decide (k.die = j.die) && !s.jobEnded k.id && (k.res.isSome || (decide (k.id < j.id) && !s.jobHeld k))

/-- Job `i` can start now as a job of `op`. -/
def State.startable (s : State) (i op : Nat) : Option Job :=
  match s.job i with
  | some j => if j.op = op && j.res.isNone && !s.jobHeld j && !s.engineBusy j then some j else none
  | none => none

/-- Steps 0 to n − 1 of a job, up to the first failure: why it stopped, what the steps counted, the state. -/
def State.steps (s : State) (n : Nat) (f : Nat → State → Option JobEnd × Nat × State) : Option JobEnd × Nat × State :=
  (List.range n).foldl (fun (acc : Option JobEnd × Nat × State) i =>
    match acc.1 with
    | some _ => acc
    | none =>
      let r := f i acc.2.2
      (r.1, acc.2.1 + r.2.1, r.2.2)) (none, 0, s)

/-- A write of job `i` on die `d`. -/
def State.jobWrite (s : State) (i d a : Nat) (bs : List Byte) : Option JobEnd × State :=
  let r := s.write ⟨5, false, true, some i, d⟩ a bs
  (match r.2 with
    | .ok => none
    | .addr => some .memUe
    | .lany => some .badDesc
    | .pin => some .pinBlocked, r.1)

/-- A transfer of `n` bytes in pieces of 32: what comes from `get` goes to `put`; counts the bytes that have gone. -/
def State.xfer (s : State) (n : Nat) (get : Nat → Nat → State → Option (List Byte) × State)
    (put : Nat → List Byte → State → Option JobEnd × State) (fail : JobEnd) : Option JobEnd × Nat × State :=
  s.steps ((n + 31) / 32) fun i s =>
    let k := min 32 (n - 32 * i)
    let r := get (32 * i) k s
    match r.1 with
    | none => (some fail, 0, r.2)
    | some bs =>
      let w := put (32 * i) bs r.2
      (w.1, (if w.1.isNone then k else 0), w.2)

/-- Bytes of device memory for a job. -/
def jobGet (d a o k : Nat) (s : State) : Option (List Byte) × State :=
  let r := s.read 5 d (a + o) k
  (if r.2.1 then none else some r.1, r.2.2)

/-- The result of a transfer, which has read what it wrote. -/
def State.jobXfer (s : State) (i : Nat) (read : Bool) (r : Option JobEnd × Nat × State) : State :=
  let _ := s
  r.2.2.setRes i ⟨r.1.getD .ok, 0, r.2.1, (if read then r.2.1 else 0), 0⟩

/-- Two jobs have ranges that meet where one of them writes. -/
def Job.meets (j k : Job) : Bool :=
  let hit := fun (a b : Nat × Nat) => rangesMeet a.1 a.2 b.1 b.2
  hit j.output k.output || k.inputs.any (fun r => hit j.output r) || j.inputs.any fun r => hit r k.output

/-- The jobs at work beside job `j` with which it overlaps (R420). -/
def State.overlapping (s : State) (j : Job) : List Nat :=
  (s.dev.jobs.queue.filter fun (k : Job) => k.id != j.id && k.res.isSome && !s.jobEnded k.id && !s.descBad k && j.meets k).map (·.id)

/-- The result of a compression job that is not defined: the counts and CHECK, and for ZLC whether the coding succeeds. -/
def State.anyRes (s : State) (j : Job) (r : JobRes) : State :=
  let a := s.draw
  let b := a.2.draw
  let c := b.2.draw
  let d := c.2.draw
  let how := if opZlc j.op && r.how != .memUe && r.how != .pinBlocked then [JobEnd.ok, .noGain, .outFull, .badDesc].getD (d.1 % 4) .ok else r.how
  d.2.setRes j.id ⟨how, (if how = .badDesc then d.1 / 4 % 256 else 0), (if how = .ok then a.1 else 0), b.1, c.1⟩

/-- The results of job `i` are not defined: free bytes in its output range, a free result of a compression.
(DEDUCED: notes/assumptions/12.md) -/
def State.unsettle (s : State) (i : Nat) : State :=
  match s.job i with
  | none => s
  | some j =>
    let s := (List.range j.output.2).foldl (fun s o =>
      let b := s.draw
      (b.2.jobWrite i j.die (j.output.1 + o) [BitVec.ofNat 8 b.1]).2) s
    match j.res with
    | some r => if j.comp then s.anyRes j r else s
    | none => s

/-- What R420 leaves undefined once job `j` has worked beside jobs that it overlaps: its results and theirs. -/
def State.unsettled (s : State) (j : Job) : State :=
  match s.overlapping j with
  | [] => s
  | ks => (j.id :: ks).foldl (fun s i => s.unsettle i) s

/-- Run job `i` as a job of `op` with work `f`: BAD_DESC where its check fails; a job other than STORE_FLUSH with LEN = 0 does nothing
(R413, R420, R479). (DEDUCED: notes/assumptions/12.md) -/
def State.jobRun (s : State) (i op : Nat) (f : Job → State → State) : State :=
  match s.startable i op with
  | none => s
  | some j =>
    if s.descBad j then s.setRes i (.plain .badDesc)
    else if j.w 4 = 0 && op != 0x33 then s.setRes i (.plain .ok)
    else (f j s).unsettled j

/-- COPY. -/
def State.jobCopy (s : State) (i : Nat) : State :=
  s.jobRun i 1 fun j s => s.jobXfer i true (s.xfer (j.w 4) (jobGet j.die j.src) (fun o bs s => s.jobWrite i j.die (j.dst + o) bs) .memUe)

/-- FILL. -/
def State.jobFill (s : State) (i : Nat) : State :=
  s.jobRun i 2 fun j s => s.jobXfer i false (s.xfer (j.w 4)
    (fun _ k s => (some ((List.replicate (k / 4) (leBytes 4 (j.w 5))).flatten), s)) (fun o bs s => s.jobWrite i j.die (j.dst + o) bs) .memUe)

/-- HOST_RD: `data` is what host memory delivers; a transfer that delivers less fails. -/
def State.jobHostRd (s : State) (i : Nat) (data : List Byte) : State :=
  s.jobRun i 3 fun j s => s.jobXfer i true (s.xfer (j.w 4)
    (fun o k s => (if s.hostMaster && decide (o + k ≤ data.length) then some ((data.drop o).take k) else none, s))
    (fun o bs s => s.jobWrite i j.die (j.dst + o) bs) .ioErr)

/-- HOST_WR: the transfer fails after `ok` bytes where that is less than LEN. -/
def State.jobHostWr (s : State) (i ok : Nat) : State :=
  s.jobRun i 4 fun j s => s.jobXfer i true (s.xfer (j.w 4) (jobGet 0 j.src)
    (fun o bs s => if s.hostMaster && decide (o + bs.length ≤ ok) then (none, s.hostWrite (j.w 5 + 2 ^ 32 * j.w 6 + o) bs) else (some .ioErr, s)) .memUe)

/-- The `n` drive commands of a store job end: all succeed, or one fails with `status` (0: not complete within 500 ms). -/
def State.storeEnd (s : State) (d n : Nat) (fail : Option (Nat × Nat)) : State :=
  let s := s.nvmeRun d n
  match fail with
  | none => s.nvmeResult d 0
  | some (_, 0) => s.nvmeLate d
  | some (_, status) => s.nvmeResult d status

/-- The commands of a store transfer of `j` (R351). -/
def State.storeCmds (s : State) (j : Job) : Nat := (nvmeCmds (s.drive j.die).id (j.w 5 * 4096) (j.w 4)).length

/-- A store transfer of `j` fails after `k` bytes where `fail` names k. -/
def storeFails (fail : Option (Nat × Nat)) (n : Nat) : Bool := match fail with
  | some (k, _) => decide (k < n)
  | none => false

/-- STORE_WR: `fail` names the bytes written before a drive command fails, and its status. -/
def State.jobStoreWr (s : State) (i : Nat) (fail : Option (Nat × Nat)) : State :=
  s.jobRun i 0x31 fun j s =>
    if !s.member j.die then s.setRes i (.plain .ioErr)
    else
      let r := s.xfer (j.w 4) (jobGet j.die j.src)
        (fun o bs s => if storeFails fail (o + bs.length) then (some .ioErr, s) else (none, s.diskWrite j.die (j.w 5 * 4096 + o) bs)) .memUe
      (s.jobXfer i true r).storeEnd j.die (s.storeCmds j) (if r.1 = some .ioErr then fail else none)

/-- STORE_RD. -/
def State.jobStoreRd (s : State) (i : Nat) (fail : Option (Nat × Nat)) : State :=
  s.jobRun i 0x32 fun j s =>
    if !s.member j.die then s.setRes i (.plain .ioErr)
    else
      let r := s.xfer (j.w 4) (fun o k s => (if storeFails fail (o + k) then none else some (s.diskRead j.die (j.w 5 * 4096 + o) k), s))
        (fun o bs s => s.jobWrite i j.die (j.dst + o) bs) .ioErr
      (s.jobXfer i true r).storeEnd j.die (s.storeCmds j) (if r.1 = some .ioErr then fail else none)

/-- STORE_FLUSH. -/
def State.jobStoreFlush (s : State) (i : Nat) (fail : Option (Nat × Nat)) : State :=
  s.jobRun i 0x33 fun j s =>
    if !s.member j.die then s.setRes i (.plain .ioErr)
    else (s.setRes i (.plain (if fail.isSome then .ioErr else .ok))).storeEnd j.die 1 fail

/-! ### Compression jobs -/

/-- The result of compression job `j` that failed after its start, having met `bad` invalid blocks: how much of its input it had consumed
is not stated (R418). (DEDUCED: notes/assumptions/12.md) -/
def State.compFail (s : State) (j : Job) (total bad : Nat) (e : JobEnd) (detail : Nat) : State :=
  let a := s.draw
  let c := a.2.failCheck j bad
  c.2.setRes j.id ⟨e, detail, 0, a.1 % (total + 1), c.1⟩

/-- Bytes of the output range that a job ending in R415 or R410 has overwritten: how many, up to `cap`, and with what is not stated. A write that
fails ends it (R417). (DEDUCED: notes/assumptions/12.md) -/
def State.scribble (s : State) (i d a cap : Nat) : Option JobEnd × State :=
  let r := s.draw
  let x := r.2.steps (r.1 % (cap + 1)) fun o s =>
    let b := s.draw
    let w := b.2.jobWrite i d (a + o) [BitVec.ofNat 8 b.1]
    (w.1, 1, w.2)
  (x.1, x.2.2)

/-- Compression job `j` fails with `e` after it has written some of its output, unless one of those writes failed first (R417). -/
def State.failAfter (s : State) (i : Nat) (j : Job) (e : JobEnd) (detail : Nat) : State :=
  let w := s.scribble i j.die j.dst (j.w 5)
  match w.1 with
  | some x => w.2.compFail j j.total 0 x 0
  | none => w.2.compFail j j.total 0 e detail

/-- Run compression job `i`: its engine is busy until the job completes (R396, R420). -/
def State.compRun (s : State) (i op : Nat) (empty : Job → Bool) (crc : Nat) (f : Job → State → State) : State :=
  match s.startable i op with
  | none => s
  | some j =>
    let s := if s.live j.die then s.setBitF CMP_STATUS CMP_STATUS.BUSY j.die else s
    if s.descBad j then s.endAs j .badDesc
    else if empty j then s.setRes i ⟨.ok, 0, 0, 0, crc⟩
    else (f j s).unsettled j

/-- A raw pixel (R403). -/
def ZbcForm.unpack (z : ZbcForm) (bs : List Byte) : List Nat :=
  let v := leNat bs
  if z.z48 then [v % 2 ^ 16, v / 2 ^ 16 % 2 ^ 16, v / 2 ^ 32 % 2 ^ 16] else [v / 2 ^ 20 % 2 ^ 10, v / 2 ^ 10 % 2 ^ 10, v % 2 ^ 10]

/-- A raw pixel as written. -/
def ZbcForm.pack (z : ZbcForm) (p : List Nat) : List Byte :=
  let c (k : Nat) : Nat := p.getD k 0
  if z.z48 then leBytes 8 (c 0 + 2 ^ 16 * c 1 + 2 ^ 32 * c 2) else leBytes 4 (2 ^ 20 * c 0 + 2 ^ 10 * c 1 + c 2)

/-- Blocks in a block row. -/
def ZbcJob.cols (z : ZbcJob) : Nat := (z.w + 7) / 8

/-- Blocks of the plane. -/
def ZbcJob.blocks (z : ZbcJob) : Nat := z.cols * ((z.h + 3) / 4)

/-- Address of block b of the ZBC plane (R130). -/
def ZbcJob.blockAt (z : ZbcJob) (b : Nat) : Nat := z.plane + b / z.cols * z.stride + b % z.cols * z.form.size

/-- Pixels of block b in each line inside the plane. -/
def ZbcJob.across (z : ZbcJob) (b : Nat) : Nat := min 8 (z.w - 8 * (b % z.cols))

/-- Lines of block b inside the plane. -/
def ZbcJob.down (z : ZbcJob) (b : Nat) : Nat := min 4 (z.h - 4 * (b / z.cols))

/-- Address of line k of block b in the raw plane. -/
def ZbcJob.lineAt (z : ZbcJob) (b k : Nat) : Nat := z.raw + (4 * (b / z.cols) + k) * z.rawStride + 8 * (b % z.cols) * z.form.px

/-- Block b is read, encoded and written (R402, R403). -/
def ZbcJob.encodeBlock (z : ZbcJob) (i d b : Nat) (s : State) : Option JobEnd × Nat × State :=
  let r := (List.range (z.down b)).foldl (fun (acc : List (List (List Nat)) × Bool × State) k =>
    if acc.2.1 then acc
    else
      let x := acc.2.2.read 5 d (z.lineAt b k) (z.across b * z.form.px)
      (acc.1 ++ [(List.range (z.across b)).map fun p => z.form.unpack ((x.1.drop (p * z.form.px)).take z.form.px)], x.2.1, x.2.2)) ([], false, s)
  if r.2.1 then (some .memUe, 0, r.2.2)
  else
    let px := (List.range 32).map fun n => (r.1.getD (min (n / 8) (z.down b - 1)) []).getD (min (n % 8) (z.across b - 1)) []
    let w := r.2.2.jobWrite i d (z.blockAt b) (z.form.encode px)
    (w.1, 0, w.2)

/-- Block b is read, decoded and written; counts an invalid block (R400, R401). -/
def ZbcJob.decodeBlock (z : ZbcJob) (i d b : Nat) (s : State) : Option JobEnd × Nat × State :=
  let r := s.read 5 d (z.blockAt b) z.form.size
  if r.2.1 then (some .memUe, 0, r.2.2)
  else
    let px := z.form.decode r.1
    let bad := if z.form.invalid (leNat r.1) then 1 else 0
    let w := (List.range (z.down b)).foldl (fun (acc : Option JobEnd × State) k =>
      match acc.1 with
      | some _ => acc
      | none => acc.2.jobWrite i d (z.lineAt b k) ((List.range (z.across b)).flatMap fun p => z.form.pack (px.getD (8 * k + p) []))) (none, r.2.2)
    (w.1, bad, w.2)

/-- W or H is 0. -/
def Job.zbcEmpty (j : Job) : Bool := j.w 4 % 2 ^ 16 = 0 || j.w 4 / 2 ^ 16 = 0

/-- ZBC encode. -/
def State.jobZbcEncode (s : State) (i : Nat) : State :=
  s.compRun i 0x21 Job.zbcEmpty 0 fun j s =>
    match j.zbc with
    | none => s
    | some z =>
      let r := s.steps z.blocks fun b s => z.encodeBlock i j.die b s
      match r.1 with
      | none => r.2.2.setRes i ⟨.ok, 0, z.blocks * z.form.size, z.w * z.h * z.form.px, 0⟩
      | some e => r.2.2.compFail j (z.w * z.h * z.form.px) 0 e 0

/-- ZBC decode. -/
def State.jobZbcDecode (s : State) (i : Nat) : State :=
  s.compRun i 0x22 Job.zbcEmpty 0 fun j s =>
    match j.zbc with
    | none => s
    | some z =>
      let r := s.steps z.blocks fun b s => z.decodeBlock i j.die b s
      let s := r.2.2.countN CMP_ZBC_BAD_CNT r.2.1
      match r.1 with
      | none => s.setRes i ⟨.ok, 0, z.w * z.h * z.form.px, z.blocks * z.form.size, r.2.1⟩
      | some e => s.compFail j (z.blocks * z.form.size) r.2.1 e 0

/-- The input of a ZLC job, up to the first piece that cannot be read. -/
def Job.gather (j : Job) (s : State) : List Byte × Bool × State :=
  j.inputs.foldl (fun (acc : List Byte × Bool × State) r =>
    (List.range ((r.2 + 31) / 32)).foldl (fun (acc : List Byte × Bool × State) k =>
      if acc.2.1 then acc
      else
        let x := acc.2.2.read 5 j.die (r.1 + 32 * k) (min 32 (r.2 - 32 * k))
        (if x.2.1 then acc.1 else acc.1 ++ x.1, x.2.1, x.2.2)) acc) ([], false, s)

/-- The positions at which FLUSH ends a block (R411, R416). -/
def Job.flushes (j : Job) : List Nat :=
  (j.descs.foldl (fun (acc : Nat × List Nat) d =>
    let p := acc.1 + d.getD 4 0
    (p, if bitOf (d.getD 0 0) 10 && d.getD 4 0 != 0 then acc.2 ++ [p] else acc.2)) (0, [])).2

/-- Write the output of a ZLC job and give its result. -/
def State.zlcOut (s : State) (i : Nat) (j : Job) (out : List Byte) (inp check : Nat) : State :=
  let r := s.xfer out.length (fun o k s => (some ((out.drop o).take k), s)) (fun o bs s => s.jobWrite i j.die (j.dst + o) bs) .memUe
  match r.1 with
  | none => r.2.2.setRes i ⟨.ok, 0, out.length, inp, check⟩
  | some e => r.2.2.compFail j j.total 0 e 0

/-- ZLC compress (R411, R415). -/
def State.jobZlcCompress (s : State) (i : Nat) : State :=
  s.compRun i 0x23 (fun j => j.total = 0) (crc32c []).toNat fun j s =>
    let r := j.gather s
    if r.2.1 then r.2.2.compFail j j.total 0 .memUe 0
    else
      let out := zlcEncode ⟨bitOf (j.w 0) 8, j.w 6 * 1024, j.flushes⟩ r.1
      let cap := j.w 5
      if j.total ≤ out.length && j.total ≤ cap then r.2.2.failAfter i j .noGain 0
      else if cap < out.length then r.2.2.failAfter i j .outFull 0
      else r.2.2.zlcOut i j out j.total (crc32c r.1).toNat

/-- ZLC decompress (R409, R410, R415). -/
def State.jobZlcDecompress (s : State) (i : Nat) : State :=
  s.compRun i 0x24 (fun j => j.total = 0) (crc32c []).toNat fun j s =>
    let r := j.gather s
    match zlcDecode (j.w 5) r.1 with
    | .ok out rest =>
      if r.2.1 then r.2.2.failAfter i j .memUe 0 else r.2.2.zlcOut i j out ((8 * r.1.length - rest.length + 7) / 8) (crc32c out).toNat
    | .full => r.2.2.failAfter i j .outFull 0
    | .bad k => if k = 5 && r.2.1 then r.2.2.failAfter i j .memUe 0 else r.2.2.failAfter i j .badDesc k

/-! ### Completion and fences -/

/-- Job `i` completes, if its work is done; a job whose OP does not exist completes BAD_DESC (R479, R480). -/
def State.jobComplete (s : State) (i : Nat) : State :=
  match s.job i with
  | none => s
  | some j =>
    let s := if j.res.isNone && !opKnown j.op && !s.jobHeld j then s.setRes i (.plain .badDesc) else s
    s.jobEnd i

/-- A job's ranges reach the DRAM of die d. -/
def Job.reaches (j : Job) (d : Nat) : Bool :=
  (j.output :: j.inputs).any fun r => rangesMeet r.1 r.2 (d * 2 ^ 37) (2 ^ 37)

/-- Die d has been fenced (R481, R490): jobs running on it complete ABORTED, others that reach its DRAM complete MEM_UE. -/
def State.jobsFence (s : State) (d : Nat) : State :=
  let s := s.jobsAbort fun (j : Job) => j.res.isSome && decide (j.die = d)
  (s.dev.jobs.queue.filter fun (j : Job) => j.reaches d && !s.jobEnded j.id).foldl (fun s (j : Job) =>
    (s.endAs j .memUe).jobEnd j.id) s

/-- A tail doorbell. -/
def execSqDoorbell (r v : Nat) (s : State) : Out := .next (s.runDev (·.sqDoorbell r v))

/-- A head doorbell. -/
def execCqDoorbell (r v : Nat) (s : State) : Out := .next (s.runDev (·.cqDoorbell r v))

/-- A descriptor read. -/
def execDescriptorFetch (desc : Option (List Word)) (s : State) : Out := .next (s.run (·.descFetch desc))

/-- COPY. -/
def execCopy (j : Nat) (s : State) : Out := .next (s.run (·.jobCopy j))

/-- FILL. -/
def execFill (j : Nat) (s : State) : Out := .next (s.run (·.jobFill j))

/-- HOST_RD. -/
def execHostRd (j : Nat) (data : List Byte) (s : State) : Out := .next (s.run (·.jobHostRd j data))

/-- HOST_WR. -/
def execHostWr (j ok : Nat) (s : State) : Out := .next (s.run (·.jobHostWr j ok))

/-- ZBC encode. -/
def execZbcEncode (j : Nat) (s : State) : Out := .next (s.run (·.jobZbcEncode j))

/-- ZBC decode. -/
def execZbcDecode (j : Nat) (s : State) : Out := .next (s.run (·.jobZbcDecode j))

/-- ZLC compress. -/
def execZlcCompress (j : Nat) (s : State) : Out := .next (s.run (·.jobZlcCompress j))

/-- ZLC decompress. -/
def execZlcDecompress (j : Nat) (s : State) : Out := .next (s.run (·.jobZlcDecompress j))

/-- STORE_WR. -/
def execStoreWr (j : Nat) (fail : Option (Nat × Nat)) (s : State) : Out := .next (s.run (·.jobStoreWr j fail))

/-- STORE_RD. -/
def execStoreRd (j : Nat) (fail : Option (Nat × Nat)) (s : State) : Out := .next (s.run (·.jobStoreRd j fail))

/-- STORE_FLUSH. -/
def execStoreFlush (j : Nat) (fail : Option (Nat × Nat)) (s : State) : Out := .next (s.runDev (·.jobStoreFlush j fail))

/-- A job completes. -/
def execJobComplete (j : Nat) (s : State) : Out := .next (s.run (·.jobComplete j))

end Sys2Proof.Machine
end

