-- ==== Sys2Proof/Machine/Window.lean ====
section
/-! DEFINITION. The windows of the dies: which registers are there (R121, R262), what the DATA registers and the views show, and what stays of the
window of a die that is fenced (R459, R496). -/
namespace Sys2Proof.Machine

/-- The die of a die-window offset. -/
def winDie (a : Nat) : Nat := (a - 0x10000) / 0x10000

/-- The row of the register index at BAR0 offset `a` of the chip window or of a die window. -/
def rowAt (a : Nat) : Option RegDesc := findReg (decide (0x10000 ≤ a)) (a % 0x10000)

/-- The global lane of a register of the STR_ block. -/
def laneOf (a : Nat) : Nat := 16 * winDie a + (a % 0x10000 - 0x4000) / 0x100

/-- The lanes of the strand entry `e`. -/
def StrandEnt.has (e : StrandEnt) (g : Nat) : Bool := !e.chain.isEmpty && e.lane ≤ g && g < e.lane + e.width

/-- With the layer slots `en` and the strands `es` of an image the register at `a` is there: that of a slot that the image enables (R121),
the copy of an STR_ register of a strand's lowest lane, or of each of its lanes for a lane register (R262); all others always. -/
def presentIn (en : Nat) (es : List StrandEnt) (a : Nat) : Bool :=
  let o := a % 0x10000
  if a < 0x10000 then true
  else if 0x1000 ≤ o && o < 0x1700 then bitOf en ((o - 0x1000) / 0x100)
  else if 0x4000 ≤ o && o < 0x5000 then
    if [0x20, 0x24, 0x28, 0x98, 0x9C, 0xA0, 0xA8, 0xAC].contains (a % 0x100) then es.any (·.has (laneOf a))
    else es.any fun e => !e.chain.isEmpty && e.lane = laneOf a
  else true

/-- The register at `a` is there: by the image in force, or in a fenced die's window by the one that was in force at its fence; all show their
reset values on a die that was fenced at start-up (R496). -/
def State.present (s : State) (a : Nat) : Bool :=
  match s.dev.frozenShape.look none (winDie a) with
  | some x => presentIn x.1 x.2 a
  | none => (0x10000 ≤ a && s.fenced (winDie a)) || presentIn s.img.layerEn s.img.strands a

/-- PINFO0 to PINFO3 of strand g for the partner that PINFO_IDX names (word `i`). -/
def State.pinfo (s : State) (g i : Nat) : Nat :=
  let k := s.f (strReg STR_PINFO_IDX g) STR_PINFO_IDX.ADDR
  let t := s.strand g
  let dc := s.declOf g k
  if s.partners g ≤ k then (if i = 2 then 0x8000 else 0)
  else match i with
    | 0 => 2 ^ 31 + (if dc.classL then 2 ^ 30 else 0) + (if dc.last then 2 ^ 29 else 0) + dc.backRelay % 2 ^ 12 * 2 ^ 12 + dc.fwdRelay % 2 ^ 12
    | 1 => dc.lamps % 2 ^ 16 * 2 ^ 16 + dc.turn % 2 ^ 16
    | 2 => t.trims.look 0 k % 2 ^ 16 * 2 ^ 16 + t.temps.look 0x80 k % 256 * 2 ^ 8 + t.flags.look 0 k % 256
    | _ => dc.pid % 2 ^ 32

/-- ECC_REPAIR_DATA: the word `i` of the soft repair entry that ECC_REPAIR_IDX names (R394). -/
def State.repairWord (s : State) (d i : Nat) : Nat :=
  match (s.dev.mem.repairs.look [] d)[s.f (ECC_REPAIR_IDX d) ECC_REPAIR_IDX.IDX]? with
  | some e => if i = 0 then e.1 else e.2
  | none => 0

/-- A DATA register of a die's window: what it reads and the step of its index. -/
def State.dieData (s : State) (a : Nat) : Option (Word × State) :=
  let o := a % 0x10000
  let d := winDie a
  let n := (o - 0x1000) / 0x100
  if 0x1000 ≤ o && o < 0x1700 && a = LYR_PAL_DATA d n && 4 ≤ n then some (s.palData d n none)
  else if 0x1000 ≤ o && o < 0x1700 && a = LYR_COEF_DATA d n && n < 4 then some (s.coefData d n none)
  else if 0x1000 ≤ o && o < 0x1700 && a = LYR_LUT_DATA d n then some (s.lutData d n none)
  else if a = LAMP_DYN_DATA d then some (s.dynData d)
  else if a = CAL_TRIM_DATA d then some (s.trimRead d)
  else if a = ECC_REPAIR_DATA1 d then
    some (BitVec.ofNat 32 (s.repairWord d 1), s.setF (ECC_REPAIR_IDX d) ECC_REPAIR_IDX.IDX ((s.f (ECC_REPAIR_IDX d) ECC_REPAIR_IDX.IDX + 1) % 32))
  else none

/-- Registers of a die's window that are views of other state. -/
def State.dieView (s : State) (a : Nat) : Option Nat :=
  let d := winDie a
  let o := a % 0x10000
  if a = DIE_PIN_STATUS d then some (s.pinStatus d)
  else if a = ECC_REPAIR_DATA0 d then some (s.repairWord d 0)
  else if 0x4000 ≤ o && o < 0x5000 && [0x64, 0x68, 0x6C, 0x70].contains (o % 0x100) then some (s.pinfo (laneOf a) ((o % 0x100 - 0x64) / 4))
  else none

/-! ### Fenced dies -/

/-- Registers of a fenced die that go on reporting (R496). -/
def fenceLive (a : Nat) : Bool := a = DIE_ID (winDie a) || a = DIE_SELFTEST (winDie a) || a = DIE_TB_STATUS (winDie a)

/-- The window of `a` is that of a fenced die and reads what it held. (DEDUCED: notes/assumptions/16.md) -/
def State.isFrozen (s : State) (a : Nat) : Bool := 0x10000 ≤ a && s.fenced (winDie a) && !fenceLive a

/-- The registers of die d's window that show other state than a value of their own. -/
def State.viewAddrs (s : State) (d : Nat) : List Nat :=
  [LAMP_DYN_DATA d, CAL_TRIM_DATA d, ECC_REPAIR_DATA0 d, ECC_REPAIR_DATA1 d, DIE_PIN_STATUS d] ++
    ((List.range 7).flatMap fun n => [LYR_PAL_DATA d n, LYR_COEF_DATA d n, LYR_LUT_DATA d n]) ++
    (s.strandList.filter (· / 16 = d)).flatMap fun g => (List.range 4).map fun i => dieBase d + 0x4064 + 0x100 * (g % 16) + 4 * i

/-- What a register of a die's window holds: a view's value, or its own by `v`. -/
def State.heldWord (s : State) (v : Nat → Nat) (a : Nat) : Word :=
  match s.dieData a, s.dieView a with
  | some x, _ => x.1
  | none, some x => BitVec.ofNat 32 x
  | none, none => BitVec.ofNat 32 (v a)

/-- What the registers of die d's window hold when it is fenced (R496): shadow values, and active values for KNOT_PEEK_DATA.
(DEDUCED: notes/assumptions/16.md) -/
def State.freeze (s : State) (d : Nat) : State :=
  let keys := (((s.dev.shadow.map (·.1)) ++ (s.dev.regs.map (·.1))).filter fun a => a / 0x10000 = d + 1) ++ s.viewAddrs d
  let hold (v : Nat → Nat) (m : AMap Word) : AMap Word :=
    keys.foldl (fun (m : AMap Word) a => m.set (resetWord s.dies) a (s.heldWord v a)) m
  { s with
    dev := { s.dev with
      frozen := hold (fun a => s.shadowed a) s.dev.frozen
      frozenAct := hold s.reg s.dev.frozenAct
      frozenShape := s.dev.frozenShape.put none d (some (s.img.layerEn, s.img.strands)) } }

/-- The core of die d stops: what its on-chip memories held is lost (R459): scratchpads and the engines' registers, line memory, tables, the
dynamic list. -/
def State.contentLost (s : State) (d : Nat) : State :=
  let v := s.dev
  { s with
    dev := { v with
      engines := v.engines.filter fun e => e.1 / 128 != d
      comp := { v.comp with
        pal := v.comp.pal.filter fun e => e.1 / palKey 1 0 0 0 != d || e.1 / 512 % 8 = 7
        coef := v.comp.coef.filter fun e => e.1 / coefKey 1 0 0 0 != d
        lut := v.comp.lut.filter fun e => e.1 / lutKey 1 0 0 0 != d
        fetched := v.comp.fetched.filter fun e => e.1 / 2 ^ 40 != d }
      lamp := { v.lamp with
        eotf := v.lamp.eotf.filter fun e => e.1 / eotfKey 1 0 0 0 != d
        od := v.lamp.od.filter fun e => e.1 / odKey 1 0 0 0 0 0 != d
        lg := v.lamp.lg.filter fun e => e.1 / lgKey 1 0 0 0 0 != d
        eotfLoad := v.lamp.eotfLoad.put none d none
        outLoad := v.lamp.outLoad.put none d none
        dyn := v.lamp.dyn.put [] d []
        dynNew := v.lamp.dynNew.put [] d [] } } }

/-- The bits of the register at `a` that read. -/
def readBits (a : Nat) : Nat := match rowAt a with
  | some r => Nat.lor (Nat.lor (Nat.lor r.rw r.rws) (Nat.lor r.w1c r.rc)) r.ro
  | none => 0

end Sys2Proof.Machine
end

