-- ==== Sys2Proof/Machine/Modes.lean ====
section
/-! DEFINITION. The mode machine (R34 to R41): resets, the change of mode with what follows from it, fatal errors, fences of dies,
blocks and cells (R24 to R28, R489 to R492), requests and automatic triggers at the knot line, THERM_CRIT and Dormant. -/
namespace Sys2Proof.Machine

/-- Put the mode machine back. -/
def State.setBoot (s : State) (b : BootSt) : State := { s with dev := { s.dev with boot := b } }

/-- A requester's copy of CHIP_MODE_REQ (R39). -/
def State.req (s : State) : Requester → ReqCopy
  | .host => s.dev.boot.reqHost
  | .mgmt => s.dev.boot.reqMgmt

/-- Write a requester's copy of CHIP_MODE_REQ. -/
def State.setReq (s : State) (who : Requester) (r : ReqCopy) : State :=
  match who with
  | .host => s.setBoot { s.dev.boot with reqHost := r }
  | .mgmt => s.setBoot { s.dev.boot with reqMgmt := r }

/-- A request below a trigger that is performed is dropped (R39). (DEDUCED: notes/assumptions/15.md) -/
def State.dropReq (s : State) (who : Requester) : State :=
  let r := s.req who
  if r.result = 1 then s.setReq who { r with result := 3 } else s

/-- The pending requests of both requesters are dropped: a fatal error or THERM_CRIT acts above them (R39). (DEDUCED:
notes/assumptions/15.md) -/
def State.dropReqs (s : State) : State := (s.dropReq .host).dropReq .mgmt

/-- The REASON of a request (R40). -/
def reqReason : Requester → Nat
  | .host => 1
  | .mgmt => 2

/-! ### Resets (R44, R517) -/

/-- Everything that a reset returns to its reset value. The DRAM cells, what the record store and the drives hold, the partner chips, the
host's memory, the TAP, the pins and the supplies stay. (DESIGN CHOICE: notes/assumptions/11.md, DEDUCED: notes/assumptions/22.md) -/
def State.resetDev (s : State) : State :=
  let v := s.dev
  let b := v.boot
  { s with
    dev := { Dev.reset with
      free := v.free
      boot := { BootSt.reset with supplies := b.supplies, resetL := b.resetL, strapPins := b.strapPins }
      nvm := { NvmSt.reset with secs := v.nvm.secs, cells := v.nvm.cells, bp := v.nvm.bp }
      coil := { CoilSt.reset with disk := v.coil.disk }
      host := { HostSt.reset with mem := v.host.mem, perst := v.host.perst }
      partners := v.partners
      tap := v.tap } }

/-- The part samples the straps and starts the fuse load (R43, R45). -/
def State.fuseStart (s : State) : State :=
  (s.setF CHIP_BOOT_STATUS CHIP_BOOT_STATUS.STAGE 1).setF CHIP_BOOT_STATUS CHIP_BOOT_STATUS.STRAP s.dev.boot.strapPins

/-- A reset entered by request or by a fatal error: REASON keeps the cause, and the straps are sampled at the end of the internal reset
(R40, R44). -/
def State.resetTo (s : State) (reason : Nat) : State :=
  let s := (s.resetDev.setF CHIP_MODE CHIP_MODE.REASON reason).fuseStart
  s.setBoot { s.dev.boot with resample := true }

/-! ### Entering a mode -/

/-- CHIP_MODE shows a new mode, the one before and the reason (R39, R40); BLY_STATUS.ACTIVE follows. (DEDUCED: notes/assumptions/15.md) -/
def State.setMode (s : State) (m : Mode) (reason : Nat) : State :=
  (s.setReg CHIP_MODE (m.code + s.f CHIP_MODE CHIP_MODE.MODE * 2 ^ 8 + reason % 256 * 2 ^ 16)).setB BLY_STATUS BLY_STATUS.ACTIVE (m = .belay)

/-- Pace control of die d. -/
def State.pace (s : State) (d : Nat) : PaceSt := s.dev.cal.pace.look .reset d

/-- Put pace control of die d back. -/
def State.setPace (s : State) (d : Nat) (p : PaceSt) : State := s.setCal { s.dev.cal with pace := s.dev.cal.pace.put .reset d p }

/-- A supply command of die d over AVSBus (R451). -/
def State.supply (s : State) (d code : Nat) : State := s.setPace d { s.pace d with cmd := some code, tries := 0, settling := true }

/-- A calibration run starts: the supplies go to 0.85 V, REF_MODE comes into force (R438, R440). -/
def State.calStart (s : State) : State :=
  let r := s.f CAL_CTL CAL_CTL.REF_MODE
  let s := (s.setF CAL_STATUS CAL_STATUS.BUSY 1).setCal { s.dev.cal with mode := if r = 3 then 0 else r }
  s.onDies fun s d => s.supply d 30

/-- A calibration run ends before its time; THERM_CRIT sets ABORTED (R444). -/
def State.calStop (s : State) (crit : Bool) : State :=
  let s := s.setF CAL_STATUS CAL_STATUS.BUSY 0
  if crit then (s.setF CAL_STATUS CAL_STATUS.ABORTED 1).err ERR_STATUS.CAL else s

/-- The sources that RELOAD_SRC names (R72). -/
def reloadSources : Nat → List ImgSource
  | 0 => [.staged]
  | 1 => [.spiPrimary]
  | 2 => [.store 0, .store 1]
  | _ => [.spiSecondary]

/-- SOURCE and DRIVE of an image source. -/
def ImgSource.codes : ImgSource → Nat × Nat
  | .spiPrimary => (0, 0)
  | .staged => (1, 0)
  | .store d => (2, d)
  | .spiSecondary => (3, 0)

/-- Start of the staging range that the registers name, and CHIP_STAGE_LEN. -/
def State.stageRegs (s : State) : Nat × Nat :=
  (s.pair CHIP_STAGE_BASE_LO CHIP_STAGE_BASE_HI 8 / 4096 * 4096, s.f CHIP_STAGE_LEN CHIP_STAGE_LEN.LEN)

/-- A load begins: the registers of the staging range take effect for it (R67). -/
def State.stageTake (s : State) : State := s.setBoot { s.dev.boot with stageAt := some s.stageRegs, flash := [] }

/-- The staging range (R67): that of the load in progress, else the one that the next load will use. -/
def State.stageBase (s : State) : Nat := (s.dev.boot.stageAt.getD s.stageRegs).1

/-- Length of the staged image of the load in progress. -/
def State.stageLen (s : State) : Nat := (s.dev.boot.stageAt.getD s.stageRegs).2

/-- The loader turns to its next source; with none left a start-up halts in Load (R71) and a Reload ends with the old image (R73). -/
def State.bootNext (s : State) : State :=
  let b := s.dev.boot
  match b.sources with
  | [] =>
    let s := s.setBoot { b with loading := none, stageAt := none, idlePending := s.mode = .reload }
    if s.mode = .reload then s.setF CHIP_BOOT_STATUS CHIP_BOOT_STATUS.STAGE 7
    else (s.setF CHIP_BOOT_STATUS CHIP_BOOT_STATUS.STAGE 0xF).setMode .load 0xB
  | x :: t =>
    let s := s.setBoot { b with sources := t, loading := some x }
    let s := s.setF CHIP_BOOT_STATUS CHIP_BOOT_STATUS.STAGE (if x = .staged then 4 else 3)
    let s := s.setF CHIP_BOOT_STATUS CHIP_BOOT_STATUS.SOURCE x.codes.1
    match x with
    | .store d => s.setF CHIP_BOOT_STATUS CHIP_BOOT_STATUS.DRIVE d
    | _ => s

/-- Dormant is entered (R466, R467): the wake request is cleared, PWR_DORMANT takes effect, the units take their states. -/
def State.dormantEnter (s : State) : State :=
  let s := s.setBoot { s.dev.boot with wake := none, fatalDormant := false, dormStr := s.reg PWR_DORMANT }
  let s := ((s.setF PWR_STATUS PWR_STATUS.DORMANT 1).setF PWR_STATUS PWR_STATUS.WAKE_PEND 0).setF PWR_STATUS PWR_STATUS.TEMP_HOLD 0
  s.pwrAll fun s d u => s.pwrDormant d u

/-- Dormant is left: every unit runs, ended backoff waits go on (R292). -/
def State.dormantLeave (s : State) : State :=
  let s := s.setBoot { s.dev.boot with wake := none, fatalDormant := false }
  let s := ((s.setF PWR_STATUS PWR_STATUS.DORMANT 0).setF PWR_STATUS PWR_STATUS.WAKE_PEND 0).setF PWR_STATUS PWR_STATUS.TEMP_HOLD 0
  (s.pwrAll fun _ _ _ => 0).strandsWake

/-- The part enters mode `m`: a transition of R35 between modes that follow the installation, in frame `n` (at its knot line, or at once),
with everything that the new and the old mode bring with them. (DEDUCED: notes/assumptions/7.md) -/
def State.enterMode (s : State) (m : Mode) (reason n : Nat) : State :=
  let old := s.mode
  let s := (s.setBoot { s.dev.boot with coilFrames := 0, lanyLeft := 0 }).setMode m reason
  let f := s.nextNumber
  let s := if old = .belay then s.setPair BLY_EXIT_LO BLY_EXIT_HI 16 f else s
  let s := if m = .belay then (s.setPair BLY_ENTER_LO BLY_ENTER_HI 16 f).count BLY_CNT else s
  let s := if old = .linkTest then s.strandsLinkTest false else if m = .linkTest then s.strandsLinkTest true else s
  let s := if m = .coil then s.coilEnter n else s
  let s := if m = .calibrate then s.calStart else if old = .calibrate && m != .idle then s.calStop (reason = 7) else s
  let s := if old = .reload && m != .idle then s.setBoot { s.dev.boot with loading := none, sources := [], stageAt := none } else s
  let s := if m = .reload then
      ((s.stageTake).setBoot { s.stageTake.dev.boot with sources := reloadSources (s.f CHIP_BOOT_CTL CHIP_BOOT_CTL.RELOAD_SRC) }).bootNext
    else s
  let s := if m = .dormant then s.dormantEnter else if old = .dormant then s.dormantLeave else s
  let s := if m = .lanyardOnly then s.jobsLanyard else s
  let s := s.sleepAll n
  (if old = .dormant then s.heldWakes else s).pwrClamp

/-! ### Fatal errors and fences -/

/-- Die d is fenced, or is die 0 with a region fault (R28). -/
def State.dieBad (s : State) (d : Nat) : Bool := !s.live d || (d = 0 && s.dev.boot.die0Fault)

/-- The Lanyard path is broken (R28). -/
def State.lanyBroken (s : State) : Bool :=
  s.lanyOn s.reg &&
    (s.dieBad (dieOf ((lanyOf s.reg).bases.getD 0 0)) ||
      (List.range s.dies).any fun d => s.dieBad d && (s.section d).meets (s.lanyRect s.reg))

/-- A fatal error that leads to Lanyard-only leads to Reset instead (R28, R35). -/
def State.fatalReset (s : State) : Bool := s.fenced 0 || s.lanyBroken

/-- The transition of a fatal error to Lanyard-only begins: the requests that were pending are dropped, a load ends, CHIP_MODE.BUSY is 1 for
two frames (R35, R39). (DEDUCED: notes/assumptions/7.md) -/
def State.lanyStart (s : State) : State :=
  if s.dev.boot.lanyLeft != 0 then s
  else
    let s := s.dropReqs
    (s.setBoot { s.dev.boot with lanyLeft := 2, loading := none, sources := [], stageAt := none }).setF CHIP_MODE CHIP_MODE.BUSY 1

/-- A frame ends: the transition to Lanyard-only is complete after two (R35). -/
def State.lanyTick (s : State) : State := match s.dev.boot.lanyLeft with
  | 0 => s
  | 1 => s.enterMode .lanyardOnly 6 s.tbFrame
  | n + 2 => s.setBoot { s.dev.boot with lanyLeft := n + 1 }

/-- A chip-level fault (R28, R36, R489). (DEDUCED: notes/assumptions/16.md) -/
def State.fatal (s : State) (cause : Nat) : State :=
  if s.mode = .reset then s
  else
    let s := (s.setF ERR_FATAL ERR_FATAL.CAUSE cause).err ERR_STATUS.FATAL
    let s := if cause = 1 then s.setBoot { s.dev.boot with die0Fault := true } else s
    if s.mode = .test || s.mode = .load then
      let s := s.setBoot { s.dev.boot with loading := none, sources := [], stageAt := none }
      (((s.setF CHIP_BOOT_STATUS CHIP_BOOT_STATUS.STAGE 0xF).setF CHIP_BOOT_STATUS CHIP_BOOT_STATUS.ERR 0xC).setF CHIP_BOOT_STATUS
        CHIP_BOOT_STATUS.ERR_SECTION 0xFF).setMode s.mode 6
    else if s.fatalReset then s.resetTo 6
    else if s.mode = .dormant then s.setBoot { s.dev.boot with fatalDormant := true }
    else if s.mode = .lanyardOnly then s
    else s.lanyStart

/-- The cells of block `b` of die d that are fenced now. -/
def State.fencedIn (s : State) (d b : Nat) : Nat := ((List.range 16).filter fun c => cellFenced (s.cellsNow d) (16 * b + c)).length

/-- Die d ≠ 0 is fenced (R27, R489, R490). (DEDUCED: notes/assumptions/16.md, DEDUCED: notes/assumptions/41.md) -/
def State.dieFence (s : State) (d cause : Nat) : State :=
  if !s.live d || d = 0 then s
  else
    let s := ((s.freeze d).contentLost d).setBitF CHIP_DIES CHIP_DIES.FENCED d
    let s := (s.loadsFence.setF (ERR_FENCE d) ERR_FENCE.CAUSE cause).errDieBit ERR_STATUS.DIE_FENCE d
    let s := (s.strandList.filter (· / 16 = d)).foldl (fun s g => s.strandFence g) s
    let s := (s.setPins d []).jobsFence d
    let s := { s with dev := { s.dev with mem := { s.dev.mem with merge := s.dev.mem.merge.filter (·.die != d) }, hold := s.dev.hold.filter (·.1 / 16 != d) } }
    let s := if d = 1 then (s.setF NVM_STATUS NVM_STATUS.DIE1_OK 0).membersUpdate else s
    let s := s.setPwr d 8 4
    let s := if s.b KNOT_STATUS KNOT_STATUS.BUSY then s.setKnot { s.dev.knot with dieLost := true } else s
    if (s.mode = .lanyardOnly || s.dev.boot.lanyLeft != 0) && s.lanyBroken then s.resetTo 6 else s

/-- A region fault of die d (R489): fatal on die 0, a fence on another die. -/
def State.regionFault (s : State) (d cause : Nat) : State := if d = 0 then s.fatal 1 else s.dieFence d cause

/-- The engine of a fenced cell stops; its group is processed again elsewhere (R25). -/
def State.engineStop (s : State) (d e : Nat) : State :=
  { s with dev := { s.dev with engines := s.dev.engines.put Engine.zero (d * 128 + e) { s.dev.engines.look Engine.zero (d * 128 + e) with run := .none } } }

/-- Cells of die d are marked fenced. -/
def State.markCells (s : State) (d : Nat) (es : List Nat) : State :=
  es.foldl (fun s e => (s.setReg (PE_FENCE d (e / 32)) (setBit (s.reg (PE_FENCE d (e / 32))) (e % 32))).engineStop d e) s

/-- PE_FENCE_CAUSE of die d shows its last fence (R256). -/
def State.fenceCause (s : State) (d e cause : Nat) : State := s.setReg (PE_FENCE_CAUSE d) (e % 128 * 2 ^ 16 + cause % 8)

/-- Block `b` of die d is fenced, reported with engine `e` (R24, R489); a fifth block is a region fault. -/
def State.blockFence (s : State) (d b e : Nat) : State :=
  if !s.live d || 8 ≤ b || s.fencedIn d b = 16 then s
  else
    let s := (s.markCells d ((List.range 16).map (16 * b + ·))).fenceCause d e 6
    let s := s.leafOf d (·.setF (ERR_DIE d) ERR_DIE.BLOCK 1)
    if 5 ≤ ((List.range 8).filter fun k => s.fencedIn d k = 16).length then s.regionFault d 3 else s

/-- Engine `e` of die d is fenced (R24, R256); a fifth cell fences the block. -/
def State.cellFence (s : State) (d e cause : Nat) : State :=
  if !s.live d || 128 ≤ e || cellFenced (s.cellsNow d) e then s
  else if 4 ≤ s.fencedIn d (e / 16) then s.blockFence d (e / 16) e
  else ((s.markCells d [e]).fenceCause d e cause).leafOf d (·.setF (ERR_DIE d) ERR_DIE.CELL 1)

/-! ### Requests and triggers (R35, R37 to R39) -/

/-- The modes that a request may name from a mode (R35). -/
def Mode.requests : Mode → List Mode
  | .idle => [.live, .coil, .calibrate, .linkTest, .dormant, .reload]
  | .live => [.idle, .reload]
  | .belay => [.idle, .dormant, .reload]
  | .coil => [.live, .idle, .dormant, .reload]
  | .linkTest => [.idle]
  | _ => []

/-- Bytes of the staging range: 64 MiB. -/
def stageSize : Nat := 2 ^ 26

/-- A Reload may start (R72). -/
def State.reloadOk (s : State) : Bool :=
  !(s.f CHIP_BOOT_CTL CHIP_BOOT_CTL.RELOAD_SRC = 0 && s.f CHIP_STAGE_LEN CHIP_STAGE_LEN.LEN = 0) &&
  !((List.range s.dies).any fun d => (s.pins d).any fun p => p.meets s.stageRegs.1 stageSize) &&
  !(s.strandList.any fun g => s.strandActive g && s.b (strReg STR_LINK g) STR_LINK.ANY_L)

/-- A pending request: the mode that it leads to when it is performed, or none with the request refused (R38). -/
def State.tryReq (s : State) (who : Requester) : Option Mode × State :=
  let r := s.req who
  if r.result != 1 then (none, s)
  else match Mode.ofCode r.mode with
    | some m =>
      if s.mode.requests.contains m && (m != .reload || s.reloadOk) then (some m, s.setReq who { r with result := 0 })
      else (none, s.setReq who { r with result := 2 })
    | none => (none, s.setReq who { r with result := 2 })

/-- The source ports that feed an enabled layer. (DEDUCED: notes/assumptions/15.md) -/
def State.fedPorts (s : State) : List Nat := s.liveDies.filter fun d => (List.range 7).any fun n => s.layerOn d n

/-- Port d sleeps. -/
def State.asleep (s : State) (d : Nat) : Bool := s.b (SRC_STATUS d) SRC_STATUS.ASLEEP

/-- The automatic triggers of R37 in frame `n`; `woke`: the ports that woke at this knot line. (DEDUCED: notes/assumptions/15.md) -/
def State.autoTrigger (s : State) (n : Nat) (woke : List Nat) : State :=
  let m := s.mode
  let ports := s.fedPorts
  let quiet := ports.all s.asleep
  let frames := if m = .belay || (m = .idle && quiet) then s.dev.boot.coilFrames + 1 else 0
  let s := s.setBoot { s.dev.boot with coilFrames := frames }
  let belay := s.b CHIP_MODE_CTL CHIP_MODE_CTL.AUTO_BELAY
  let wake := ports.any woke.contains
  if m = .live && belay && !ports.isEmpty && quiet then s.enterMode .belay 3 n
  else if wake && ((m = .belay && belay) || (m = .coil && s.b CHIP_MODE_CTL CHIP_MODE_CTL.COIL_YIELD)) then s.enterMode .live 4 n
  else if (m = .belay || (m = .idle && quiet)) && s.b CHIP_MODE_CTL CHIP_MODE_CTL.AUTO_COIL &&
      decide (s.f CHIP_MODE_CTL CHIP_MODE_CTL.COIL_DELAY ≤ frames) then s.enterMode .coil 5 n
  else s

/-- The evaluation at the knot line of frame `n`: management request, host request, automatic triggers (R37 to R39); none while a
transition is in progress. (DEDUCED: notes/assumptions/15.md) -/
def State.evaluate (s : State) (n : Nat) (woke : List Nat) : State :=
  if s.dev.boot.lanyLeft != 0 then s
  else match s.tryReq .mgmt with
  | (some m, s) => (s.dropReq .host).enterMode m 2 n
  | (none, s) =>
    match s.tryReq .host with
    | (some m, s) => s.enterMode m 1 n
    | (none, s) => s.autoTrigger n woke

/-- A write of CHIP_MODE_REQ.MODE (R38, R39, R41): Reset at once, a reserved code refused at once, else pending. -/
def State.modeReq (s : State) (who : Requester) (code : Nat) : State :=
  if code % 16 = 0 then s.resetTo (reqReason who)
  else if 12 ≤ code % 16 then s.setReq who ⟨code % 16, 2⟩
  else s.setReq who ⟨code % 16, 1⟩

/-! ### THERM_CRIT and Dormant (R448, R467) -/

/-- THERM_CRIT acts; a fatal error whose transition to Lanyard-only is in progress is one recorded in Dormant (R36, R37).
(DEDUCED: notes/assumptions/16.md) -/
def State.thermCrit (s : State) : State :=
  let s := (s.setF CAL_EVT CAL_EVT.THERM_CRIT 1).ev .thermCrit
  let fatal := s.dev.boot.lanyLeft != 0
  if s.mode.operating then
    let s := s.dropReqs.enterMode .dormant 7 s.tbFrame
    s.setBoot { s.dev.boot with fatalDormant := fatal }
  else s

/-- A wake request becomes pending in Dormant. -/
def State.dormantWake (s : State) (reason : Nat) : State :=
  if s.mode != .dormant || s.dev.boot.wake.isSome then s
  else
    let s := s.setBoot { s.dev.boot with wake := some reason }
    (s.setF PWR_STATUS PWR_STATUS.WAKE_PEND 1).setF PWR_STATUS PWR_STATUS.TEMP_HOLD 1

/-- A temperature sample that finds every live die at or below 95 °C (R467, R35, R36). -/
def State.dormantExit (s : State) : State :=
  match s.dev.boot.wake with
  | none => s
  | some r =>
    if s.mode != .dormant then s
    else if s.dev.boot.fatalDormant then (if s.fatalReset then s.resetTo 6 else s.lanyStart)
    else s.enterMode .idle r s.tbFrame

/-! ### Commands -/

/-- A fatal chip error. -/
def execFatalChipError (cause : Nat) (s : State) : Out := .next (s.run (·.fatal cause))

/-- Die d has lost both ends of the control star in this frame: with a second one that is a chip fault (R489). -/
def State.starLoss (s : State) (d : Nat) : State :=
  let l := if s.dev.boot.starLost.contains d then s.dev.boot.starLost else d :: s.dev.boot.starLost
  let s := s.setBoot { s.dev.boot with starLost := l }
  if 2 ≤ l.length && s.rasterOn then s.fatal 3 else s

/-- A region fault; one after the copy command of a knot does not keep the other dies from applying it (R491). -/
def execDieFault (d cause : Nat) (afterCopy : Bool) (s : State) : Out :=
  .next (s.run fun s =>
    if s.mode = .reset then s
    else
      let k := s.dev.knot.dieLost
      let star := s.live d && d != 0 && cause = 1
      let s := s.regionFault d cause
      let s := if star then s.starLoss d else s
      if afterCopy && s.up then s.setKnot { s.dev.knot with dieLost := k } else s)

/-- A block fails its check. -/
def execBlockFault (d b : Nat) (s : State) : Out := .next (s.run fun s => if s.mode = .reset then s else s.blockFence d b (16 * b))

/-- A cell meets a cause of R24. -/
def execCellFault (d e cause : Nat) (s : State) : Out := .next (s.run fun s => if s.mode = .reset then s else s.cellFence d e cause)

/-- The wake timer of Dormant expires; with PWR_WAKE_MS = 0 there is none. -/
def execDormantWakeTimer (s : State) : Out :=
  .next (s.runDev fun s => if s.f PWR_WAKE_MS PWR_WAKE_MS.MS = 0 then s else s.dormantWake 8)

end Sys2Proof.Machine
end

