-- ==== Sys2Proof/Machine/Cal.lean ====
section
/-! DEFINITION. Calibration runs and trim sets (R438 to R445), temperatures (R446 to R448), and pace control: margins, supply steps and
the shed level (R449 to R455). -/
namespace Sys2Proof.Machine

/-- An event of CAL_EVT. -/
def State.calEvt (s : State) (f : Fd) (e : Ev) : State := (s.setF CAL_EVT f 1).ev e

/-- A calibration error: a W1C bit of CAL_STATUS. -/
def State.calErr (s : State) (f : Fd) : State := (s.setF CAL_STATUS f 1).err ERR_STATUS.CAL

/-! ### Trim sets (R445) -/

/-- The set `ws` waits for every strand of die d; without a strand it is taken at once (R443). (DEDUCED: notes/assumptions/17.md) -/
def State.strandTrims (s : State) (d : Nat) (ws : List Word) : State :=
  let gs := s.strandList.filter (· / 16 = d)
  if gs.isEmpty then s.trimTake d rowStrand ws
  else
    let s := s.setCal { s.dev.cal with strNew := s.dev.cal.strNew.put [] d ws }
    gs.foldl (fun s g => s.onStrand g fun t => { t with trimWait := true }) s

/-- The termination trim of the set `ws` waits for the next rising edge of LINK_UP of port d (R443). -/
def State.portTrim (s : State) (d : Nat) (ws : List Word) : State :=
  (s.setCal { s.dev.cal with portNew := s.dev.cal.portNew.put [] d ws }).setPort d { s.port d with trimWait := true }

/-- A written trim set of die d whose CRC matches takes effect (R443, R445): the ratios of a set that has been in force are restored, those of
another are free values. -/
def State.trimApply (s : State) (d : Nat) (ws : List Word) : State :=
  let s := s.setCal { s.dev.cal with newTrims := s.dev.cal.newTrims.filter fun e => e.1 / 64 != d }
  let s := match s.ratiosOf d ws with
    | some rs => s.setRatios d rs
    | none =>
      let r := (List.range 8).foldl (fun (x : List Nat × State) _ => let y := x.2.draw; (x.1 ++ [y.1 % 65536], y.2)) ([], s)
      r.2.setRatios d r.1
  let s := s.trimTake d rowDirect ws
  let s := s.setCal { s.dev.cal with sets := (d, ws, (List.range 8).map (s.ratio d)) :: s.dev.cal.sets.filter fun x => !(x.1 = d && x.2.1 = ws) }
  (s.strandTrims d ws).portTrim d ws

/-- The rows `rows` of die d have passed: the bits of the set that hold their trims take new values, which no rule states; they take effect at
once, at a Detect, or with a link (R442, R443). (DEDUCED: notes/assumptions/17.md) -/
def State.redrawTrims (s : State) (d : Nat) (rows : List Nat) : State :=
  let r := (List.range 63).foldl (fun (x : List Word × State) _ => let y := x.2.draw; (x.1 ++ [BitVec.ofNat 32 y.1], y.2)) ([], s)
  let s := r.2
  let ws := mixTrims rows.contains (s.trimTarget d) r.1
  let s := s.trimTake d (fun k => rowDirect k && rows.contains k) ws
  let s := if rows.any rowStrand then s.strandTrims d ws else s
  if rows.any rowPort then s.portTrim d ws else s

/-- A write of CAL_TRIM_DATA of die d; writes are accepted in Idle only (R445). (DEDUCED: notes/assumptions/17.md) -/
def State.trimData (s : State) (d : Nat) (w : Word) : State :=
  let i := s.f (CAL_TRIM_IDX d) CAL_TRIM_IDX.IDX
  let s := if s.mode != Mode.idle then s
      else if i = 63 then
        let ws := (List.range 63).map fun k => (s.dev.cal.newTrims.look none (d * 64 + k)).getD (s.trimWord d k)
        if s.trimCrc d ws = w then s.trimApply d ws else s.calErr CAL_STATUS.TRIM_BAD
      else s.setCal { s.dev.cal with newTrims := s.dev.cal.newTrims.put none (d * 64 + i) (some w) }
  s.setF (CAL_TRIM_IDX d) CAL_TRIM_IDX.IDX ((i + 1) % 64)

/-! ### References and runs (R438 to R444) -/

/-- VREF_EXT and 1.250 / 1.200 of the band-gap differ by more than 2 % (R439), or there is no VREF_EXT (R456); both in 0.1 mV. -/
def refBad (vref bg : Int) : Bool := vref = 0 || decide (2 * 1250 * bg < 100 * (vref * 1200 - 1250 * bg).natAbs)

/-- Two results of row `k` of R441 agree: codes within 1, sensors within 0.5 °C (in 1/256 °C), monitors within 2 mV (in 0.1 mV), ratios
within 1 %. (DEDUCED: notes/assumptions/17.md) -/
def calAgree (k : Nat) (r : Int × Int) : Bool :=
  match k with
  | 1 => (r.1 - r.2).natAbs ≤ 128
  | 2 => (r.1 - r.2).natAbs ≤ 20
  | 6 => decide (100 * ((r.1 - r.2).natAbs : Int) ≤ r.1)
  | _ => (r.1 - r.2).natAbs ≤ 1

/-- A pair of runs: for each row of R441 the two results of each instance. -/
abbrev CalPair := List (List (Int × Int))

/-- Instances of row `k` on a die: 16 sensors, 8 blocks, else one (R441). (DEDUCED: notes/assumptions/17.md) -/
def rowInst (k : Nat) : Nat := if k = 1 then 16 else if k = 6 then 8 else 1

/-- Every instance of row `k` on every live die has a result, and its two agree (R442); the results stand in the order of the dies. -/
def State.rowAgrees (s : State) (k : Nat) (rs : List (Int × Int)) : Bool :=
  decide (s.dies * rowInst k ≤ rs.length) && rs.zipIdx.all fun p => !s.live (p.2 / rowInst k) || calAgree k p.1

/-- The results of row `k` in the first of at most four pairs in which every instance agrees, with the number of pairs up to it.
(DEDUCED: notes/assumptions/17.md) -/
def State.calPass (s : State) (k : Nat) (pairs : List CalPair) : Option (Nat × List (Int × Int)) :=
  ((pairs.take 4).zipIdx.find? fun p => s.rowAgrees k (p.1.getD k [])).map fun p => (p.2 + 1, p.1.getD k [])

/-- The mean of two results, rounded by R11 (R442). -/
def calMean (r : Int × Int) : Int := rdiv (r.1 + r.2) 2

/-- The new trims of row `k` are the means of the results `rs` (R442); those of row 6 are the ratios (R449). -/
def State.keepMeans (s : State) (k : Nat) (rs : List (Int × Int)) : State :=
  rs.zipIdx.foldl (fun s p =>
    if !s.live (p.2 / rowInst k) then s
    else
      let c := s.dev.cal
      let m := calMean p.1
      s.setCal { c with
        means := c.means.put none (k * 4096 + p.2) (some m)
        ratio := if k = 6 then c.ratio.put none p.2 (some m.toNat) else c.ratio }) s

/-- A run reaches its end (R439 to R443): `refs` are VREF_EXT and band-gap of each die, `pairs` the pairs measured.
(DEDUCED: notes/assumptions/7.md, DEDUCED: notes/assumptions/17.md) -/
def State.calRun (s : State) (refs : List (Nat × Nat)) (pairs : List CalPair) : State :=
  if s.mode != .calibrate then s
  else
    let sel := s.f CAL_CTL CAL_CTL.SEL
    let m := s.dev.cal.mode
    let s := if m = 0 then s else s.onDies fun s d => s.setF (CAL_SUPPLY d) CAL_SUPPLY.VREF (refs.getD d (0, 0)).1
    let bad := m != 0 && s.liveDies.any fun d => refBad (refs.getD d (0, 0)).1 (refs.getD d (0, 0)).2
    let rows := if bad then [] else (List.range 7).filter fun k => bitOf sel k && (k != 0 || m = 2)
    let res := rows.map fun k => (k, s.calPass k pairs)
    let fail := (res.filter fun r => r.2.isNone).foldl (fun n r => setBit n r.1) 0
    let count := if fail != 0 then 4 else res.foldl (fun n r => max n ((r.2.map (·.1)).getD 0)) 0
    let s := ((s.setF CAL_STATUS CAL_STATUS.BUSY 0).setF CAL_STATUS CAL_STATUS.PAIRS count).setF CAL_STATUS CAL_STATUS.FAIL fail
    let s := if bad then s.calErr CAL_STATUS.REF_BAD else if m = 0 then s else s.setCal { s.dev.cal with lost := [] }
    let s := if (bad && sel != 0) || fail != 0 then s.calEvt CAL_EVT.CAL_FAIL .calFail else s
    let passed := (res.filter fun r => r.2.isSome).map (·.1)
    let s := res.foldl (fun s r => s.keepMeans r.1 ((r.2.map (·.2)).getD [])) s
    let s := if passed.isEmpty then s else s.onDies fun s d => s.redrawTrims d passed
    if s.dev.boot.lanyLeft = 0 then s.enterMode .idle 0xC s.tbFrame else s

/-- The comparison of references and supplies of every die (R439), every 100 ms outside runs: measured core supply in mV, VREF_EXT and
band-gap in 0.1 mV. -/
def State.vrefCheck (s : State) (xs : List (Nat × Nat × Nat)) : State :=
  if s.mode = .reset then s
  else
    let s := (List.range s.dies).foldl (fun s d =>
      match xs[d]? with
      | some x => (s.setF (CAL_SUPPLY d) CAL_SUPPLY.VCORE (min 65535 x.1)).setF (CAL_SUPPLY d) CAL_SUPPLY.VREF (min 65535 x.2.1)
      | none => s) s
    if s.dev.cal.mode != 1 || s.mode = .calibrate then s
    else s.onDies fun s d =>
      match xs[d]? with
      | some x =>
        if refBad x.2.1 x.2.2 && !s.dev.cal.lost.contains d then
          (s.setCal { s.dev.cal with lost := d :: s.dev.cal.lost }).calErr CAL_STATUS.REF_LOST
        else s
      | none => s

/-! ### Temperatures (R446 to R448) -/

/-- A sample is valid: −40 °C to +150 °C, in 1/256 °C. -/
def tempValid (t : Int) : Bool := decide (-40 * 256 ≤ t) && decide (t ≤ 150 * 256)

/-- A valid sample as s7.8. (DEDUCED: notes/assumptions/18.md) -/
def s78 (t : Int) : Nat := ((clampI (-32767) 32767 t) % 65536).toNat

/-- The temperature of a die from its samples; 110 °C without a valid one. -/
def dieTemp (ts : List Int) : Int :=
  match ts.filter tempValid with
  | [] => 110 * 256
  | t :: r => r.foldl max t

/-- The 16 sensors of each die are sampled. (DEDUCED: notes/assumptions/18.md) -/
def State.tempSample (s : State) (xs : List (List Int)) : State :=
  if s.mode = .reset then s
  else
    let temp (d : Nat) : Int := dieTemp (xs.getD d [])
    let code (d i : Nat) : Nat := let t := (xs.getD d []).getD i (-41 * 256); if tempValid t then s78 t else 0x8000
    let s := (List.range s.dies).foldl (fun s d => (List.range 8).foldl (fun s m =>
      s.setReg (CAL_TEMP d m) (code d (2 * m) + 2 ^ 16 * code d (2 * m + 1))) s) s
    match s.liveDies with
    | [] => s
    | d0 :: ds =>
      let top := ds.foldl (fun m d => if temp m < temp d then d else m) d0
      let t := temp top
      let s := s.setReg CAL_THERM_STAT (top * 2 ^ 16 + s78 t)
      let warn := sext 8 (s.f CAL_THERM CAL_THERM.WARN)
      let hyst : Int := s.f CAL_THERM CAL_THERM.HYST
      let s := if !s.dev.cal.warned && decide (warn * 256 ≤ t) then
          (s.setCal { s.dev.cal with warned := true }).calEvt CAL_EVT.THERM_WARN .thermWarn
        else if s.dev.cal.warned && decide (t < (warn - hyst) * 256) then s.setCal { s.dev.cal with warned := false }
        else s
      let old (d : Nat) : Nat := s.dev.cal.hot.look 0 d
      let hot (d : Nat) : Nat := if temp d < 110 * 256 then 0 else min 3 (old d + 1)
      let crit := (d0 :: ds).any fun d => hot d = 2 || (hot d = 3 && s.mode.operating)
      let s := s.setCal { s.dev.cal with hot := (d0 :: ds).foldl (fun (m : AMap Nat) d => m.put 0 d (hot d)) s.dev.cal.hot }
      let s := if crit then s.thermCrit else s
      if (d0 :: ds).all fun d => temp d ≤ 95 * 256 then s.dormantExit else s

/-! ### Pace control (R449 to R455) -/

/-- The regulator acknowledges the supply step of die d. -/
def State.avsAck (s : State) (d : Nat) : State :=
  let p := s.pace d
  match p.cmd with
  | none => s
  | some c => (s.setPace d { p with cmd := none, tries := 0, failed := none, settling := true }).setF (CAL_PACE_STAT d) CAL_PACE_STAT.VCODE c

/-- The supply step of die d is not acknowledged within 1 ms: retried twice, then AVS_ERR (R455). -/
def State.avsTimeout (s : State) (d : Nat) : State :=
  let p := s.pace d
  match p.cmd with
  | none => s
  | some c =>
    if p.tries < 2 then s.setPace d { p with tries := p.tries + 1 }
    else (s.setPace d { p with cmd := none, tries := 0, failed := some c, settling := false }).leaf d (CAL_PACE_STAT d) CAL_PACE_STAT.AVS_ERR

/-- The handshake period of die d in U8.8 ticks, from the oscillations that each block's chain makes in 1,024 ticks (R449). -/
def State.paceP (s : State) (d : Nat) (chains : List Nat) : Nat :=
  (liveBlocks (s.cellsAt d)).foldl (fun m b =>
    let n := chains.getD b 0
    if n = 0 then m else max m (min 65535 (rdiv (16 * s.ratio d b : Nat) n).toNat)) 0

/-- The groups of a section line (R254). -/
def State.groupsOf (s : State) (d : Nat) : Nat :=
  let q := s.section d
  if q.w = 0 then 0 else (q.x + q.w - 1) / 4 - q.x / 4 + 1

/-- The largest number of groups that a live cell of die d receives (R450). -/
def State.gpcLive (s : State) (d : Nat) : Nat :=
  let es := (List.range (s.groupsOf d)).filterMap fun j => s.engineFor d j
  (List.range 128).foldl (fun m e => max m (es.filter (· = e)).length) 0

/-- Retry a supply step that failed, at a low or high decision (R455). -/
def State.paceRetry (s : State) (d : Nat) : State :=
  match (s.pace d).failed with
  | some c => if (s.pace d).cmd.isNone then s.supply d c else s
  | none => s

/-- A low line of die d (R451): a step up below the top, else the frame is marked. -/
def State.paceLow (s : State) (d : Nat) : State :=
  let p := s.pace d
  let v := s.f (CAL_PACE_STAT d) CAL_PACE_STAT.VCODE
  if p.failed.isSome then (s.setPace d { p with marked := true }).paceRetry d
  else if v < 30 then (if p.settling || p.cmd.isSome then s else s.supply d (v + 1))
  else s.setPace d { p with marked := true }

/-- Control off: the supply of die d goes to 0.85 V and stays there, and no level is requested (R455). -/
def State.paceOff (s : State) (d : Nat) : State :=
  let s := s.setF (CAL_PACE_STAT d) CAL_PACE_STAT.REQ 0
  if s.f (CAL_PACE_STAT d) CAL_PACE_STAT.VCODE != 30 && (s.pace d).cmd.isNone then s.supply d 30 else s

/-- The pace monitor of die d at the start of line `y` (R449 to R455): `us` µs since the last acknowledgement; `slept`: the window of R449
began before the region reached Run. (DEDUCED: notes/assumptions/18.md) -/
def State.paceLine (s : State) (d y : Nat) (chains : List Nat) (us : Nat) (slept : Bool) : State :=
  let p := s.pace d
  let c := if p.cost = 0 then p.costPrev else p.cost
  let s := s.setPace d { p with cost := 0, costPrev := c, settling := p.settling && (p.cmd.isSome || us < s.f (CAL_PACE_CTL d) CAL_PACE_CTL.SETTLE) }
  if s.pwr d 8 != 0 || slept then s
  else
    let P := s.paceP d chains
    let s := s.setF (CAL_PACE_P d) CAL_PACE_P.P P
    let q := s.section d
    let s := if s.b (CAL_PACE_CTL d) CAL_PACE_CTL.EN then s else s.paceOff d
    if !s.composes s.frameMode d || y < q.y || q.y + q.h ≤ y then s
    else
      let work := s.gpcLive d * c + (if s.img.lineEn then s.img.lineCost else 0)
      let lt : Int := s.dev.tb.ras.lineTicks
      let m := clampI (-32768) 32767 (1000 * (256 * lt - (work * P : Nat)) / (256 * lt))
      let mw := (m % 65536).toNat
      let s := (s.setF (CAL_PACE_P d) CAL_PACE_P.WORK (min 65535 work)).setF (CAL_PACE_STAT d) CAL_PACE_STAT.MARGIN mw
      let s := if m < sext 16 (s.f (CAL_PACE_MIN d) CAL_PACE_MIN.MARGIN) then s.setF (CAL_PACE_MIN d) CAL_PACE_MIN.MARGIN mw else s
      if !s.b (CAL_PACE_CTL d) CAL_PACE_CTL.EN then s
      else
        let hi : Int := s.f (CAL_PACE_CTL d) CAL_PACE_CTL.HIGH
        let eff : Int := min (s.f (CAL_PACE_CTL d) CAL_PACE_CTL.LOW + s.f (CAL_PACE_STAT d) CAL_PACE_STAT.REQ * s.f (CAL_PACE_CTL d) CAL_PACE_CTL.RAISE : Nat) (hi - 1)
        let p := s.pace d
        let s := s.setPace d { p with any := true, allHigh := p.allHigh && decide (10 * hi < m) && decide (P ≤ 426) }
        let top := s.f (CAL_PACE_STAT d) CAL_PACE_STAT.VCODE = 30 || p.failed.isSome
        if decide (m < 10 * eff) || (decide (437 < P) && !top) then s.paceLow d else s

/-- The shed order of R452 as bits of LAMP_SHED. -/
def shedItems (n : Nat) : Nat := ([4, 3, 2, 1, 0].take n).foldl setBit 0

/-- The frame start for die d: the level after a marked frame, the step after 64 high frames (R451, R453); with control off neither, and in
Calibrate the supply stays (R455). -/
def State.paceFrame (s : State) (d : Nat) : State :=
  let p := s.pace d
  let clear (h : Nat) : State := s.setPace d { p with marked := false, any := false, allHigh := true, high := h }
  if !s.b (CAL_PACE_CTL d) CAL_PACE_CTL.EN then (clear 0).paceOff d
  else
    let n := s.f (CAL_PACE_STAT d) CAL_PACE_STAT.REQ
    let h := if !p.any || s.mode = .calibrate then p.high else if p.allHigh && !p.marked then p.high + 1 else 0
    let s := clear (if 64 ≤ h then 0 else h)
    if p.marked then (s.setF (CAL_PACE_STAT d) CAL_PACE_STAT.REQ (min 5 (n + 1))).calEvt CAL_EVT.PACE_LOW .paceLow
    else if h < 64 then s
    else
      let v := s.f (CAL_PACE_STAT d) CAL_PACE_STAT.VCODE
      let s := s.paceRetry d
      if n != 0 then s.setF (CAL_PACE_STAT d) CAL_PACE_STAT.REQ (n - 1)
      else if 0 < v && p.cmd.isNone && p.failed.isNone then s.supply d (v - 1)
      else s

/-- The frame start for pace control: every die's level, then the largest on every die (R454). -/
def State.shedFrame (s : State) : State :=
  let s := s.onDies fun s d => s.paceFrame d
  let n := s.liveDies.foldl (fun m d => max m (s.f (CAL_PACE_STAT d) CAL_PACE_STAT.REQ)) 0
  let s := s.setF CAL_SHED CAL_SHED.LEVEL n
  let s := if n = 0 then s else s.count CAL_SHED_CNT
  s.onDies fun s d => s.setF (LAMP_SHED d) LAMP_SHED.ITEMS (shedItems n)

/-! ### Commands -/

/-- A calibration run has measured all that it needs. -/
def execCalRunDone (refs : List (Nat × Nat)) (pairs : List (List (List (Int × Int)))) (s : State) : Out := .next (s.run (·.calRun refs pairs))

/-- The references and supplies are compared. -/
def execVrefCheck (samples : List (Nat × Nat × Nat)) (s : State) : Out := .next (s.runDev (·.vrefCheck samples))

/-- The temperature sensors are sampled. -/
def execTempSample (samples : List (List Int)) (s : State) : Out := .next (s.run (·.tempSample samples))

/-- A supply step is acknowledged. -/
def execAvsAck (d : Nat) (s : State) : Out := .next (s.runDev (·.avsAck d))

/-- A supply step is not acknowledged in time. -/
def execAvsTimeout (d : Nat) (s : State) : Out := .next (s.runDev (·.avsTimeout d))

end Sys2Proof.Machine
end

