-- ==== Sys2Proof/Machine/Pe.lean ====
section
/-! DEFINITION. The pixel engines at work (R240 to R256): the feeder fills slots, a group starts, the engine executes instructions, and
at END its codes, history and carry go to their receivers. An engine is named by d × 128 + 16 b + c. -/
namespace Sys2Proof.Machine

/-- An engine of the part. -/
def State.engine (s : State) (eng : Nat) : Engine := s.dev.engines.look Engine.zero eng

/-- Put an engine back. -/
def State.setEngine (s : State) (eng : Nat) (e : Engine) : State := { s with dev := { s.dev with engines := s.dev.engines.put Engine.zero eng e } }

/-- The engine's cell is neither fenced nor on a die that is. -/
def State.engineLive (s : State) (eng : Nat) : Bool := s.live (eng / 128) && !cellFenced (s.cellsNow (eng / 128)) (eng % 128)

/-- The engine's block is in Run, and no THERM_CRIT has stopped its work (R448, R457). -/
def State.engineGoes (s : State) (eng : Nat) : Bool := s.engineLive eng && s.pwr (eng / 128) (eng % 128 / 16) = 0 && !s.critStop

/-- The engine executes a program. -/
def State.engineRuns (s : State) (eng : Nat) : Bool := s.engineGoes eng && (s.engine eng).run != .none && !(s.engine eng).ended

/-- The command that the engine's program has it execute next: the word at its pc (R244, R248). -/
def State.engineNext (s : State) (eng : Nat) : Option Instr :=
  if s.engineRuns eng then (s.img.prog[(s.engine eng).pc]?).bind fun w => insCommand eng w.toNat else none

/-- The engine executes one instruction, `f`; `ok`: its operands are among those that R244 to R247 define. What it counts goes to
LAMP_CLIP_CNT (R218) and PE_ACC_ERR (R247). (DESIGN CHOICE: notes/assumptions/6.md) -/
def State.onEngine (s : State) (eng : Nat) (ok : Bool) (f : Tabs → Engine → Engine) : State :=
  if !ok || !s.engineRuns eng then s
  else
    let d := eng / 128
    let e := f (s.tabs d (eng % 128 / 16)) { s.engine eng with clips := 0, accErr := 0 }
    ((s.setEngine eng e).countN (LAMP_CLIP_CNT d) e.clips).countN (PE_ACC_ERR d) e.accErr

/-- An undefined opcode, or SAT code 7 (R253). -/
def State.engineUndef (s : State) (eng : Nat) : State := if s.engineRuns eng then s.cellFence (eng / 128) (eng % 128) 3 else s

/-- An instruction with a SAT field: code 7 fences the engine (R247, R253). -/
def State.onEngineSat (s : State) (eng sc : Nat) (ok : Bool) (f : Tabs → Engine → Engine) : State :=
  if sc = 7 then s.engineUndef eng else s.onEngine eng (ok && decide (sc < 7)) f

/-- Register numbers of R244. -/
def isReg (r : Nat) : Bool := r < 16

/-- Lanes whose table entry lies in an unreadable LUT store word count with cause MEM_UE (R368); no rule states the address latched.
(DEDUCED: notes/assumptions/34.md) -/
def State.lutNeutral (s : State) (d n : Nat) : State := if n = 0 then s else s.draw.2.neutral d n (s.draw.1, 0)

/-! ### Feeding and starting (R241, R251, R255) -/

/-- The group index from the left of the section line of die d. -/
def State.groupIdx (s : State) (d g : Nat) : Nat := g - (s.section d).x / 4

/-- The feed slot that the feeder fills next: the one that is not in use and not complete. -/
def Engine.freeSlot (e : Engine) : Option Nat :=
  let first := if e.run = .none then (if e.full.look false e.slot then 1 - e.slot else e.slot) else 1 - e.slot
  if e.full.look false first then none else some first

/-- Write the 512 bytes of a feed slot. -/
def Engine.fillSlot (e : Engine) (k : Nat) (bs : List Byte) : Engine :=
  { e with pad := bs.zipIdx.foldl (fun p b => p.put 0 (0x17C00 + 0x200 * k + b.2) b.1) e.pad, full := e.full.put false k true }

/-- Key of a group in `fed` and `ended`. -/
def groupKey (d g y : Nat) : Nat := d * 2 ^ 32 + y * 2 ^ 16 + g

/-- What supplying a group's data reports, once a frame: table reads, neutral pixels (R213), targets above full drive before the clamp
(LAMP_HI_CNT). An image's own program changes nothing in that: the count is of stages 1 to 3 as this chapter has them (R196).
(DEDUCED: notes/assumptions/34.md) -/
def State.feedReports (s : State) (d g y : Nat) : State :=
  if s.dev.lamp.fed.contains (groupKey d g y) then s
  else
    let s := s.setLamp { s.dev.lamp with fed := groupKey d g y :: s.dev.lamp.fed }
    ((List.range 4).filter fun k => s.laneOk d g y k).foldl (fun s k =>
      let x := 4 * g + k
      let s := s.feedReads d x y
      let s := match s.neutralAt d x y with
        | [] => s
        | e :: _ => s.neutral d 1 e
      s.countN (LAMP_HI_CNT d) ((List.range 3).filter fun r => 0x100000 < s.stage3 d x y r).length) s

/-- The feeder fills a slot of the cell that is to run group g of line y of die d (R241, R243, R256). -/
def State.feedSlot (s : State) (d g y : Nat) : State :=
  let q := s.section d
  if !s.composes s.frameMode d || y < q.y || q.y + q.h ≤ y || g < q.x / 4 || (q.x + q.w - 1) / 4 < g ||
      (s.dev.comp.full.look [] (lineKey d y)).isEmpty then s
  else match s.engineFor d (s.groupIdx d g) with
    | none => s
    | some e =>
      let s := s.blockRun d (e / 16)
      match (s.engine (d * 128 + e)).freeSlot, decide (s.pwr d (e / 16) = 0) with
      | none, _ => s
      | some _, false => s
      | some k, true =>
        let bs := s.slotBytes d g y
        let s := s.feedReports d g y
        s.setEngine (d * 128 + e) ((s.engine (d * 128 + e)).fillSlot k bs)

/-- A program starts at an entry point. -/
def Engine.begin (e : Engine) (r : EngRun) (entry : Nat) : Engine :=
  { e with run := r, pc := entry, hs := 0, pend := [], emits := [], ended := false }

/-- The frame that a slot's FRAME word names: the one in force or the one before. -/
def State.slotFrame (s : State) (t : Tabs) (e : Engine) : Nat := if e.slotRd t 4 4 = s.tbFrame % 2 ^ 32 then s.tbFrame else s.prevFrame.getD s.tbFrame

/-- A cell whose slot is complete and whose group has ended starts the next one, after LINE when that is due (R241, R251). -/
def State.groupStart (s : State) (eng : Nat) : State :=
  let s := if s.engineLive eng && (s.engine eng).run = .none then s.blockRun (eng / 128) (eng % 128 / 16) else s
  let e := s.engine eng
  if !s.engineGoes eng || e.run != .none then s
  else
    let k := if e.full.look false e.slot then e.slot else 1 - e.slot
    if !e.full.look false k then s
    else
      let e := { e with slot := k }
      let t := s.tabs (eng / 128) (eng % 128 / 16)
      let line := (s.slotFrame t e, e.slotRd t 0 4 / 2 ^ 16)
      if s.img.lineEn && e.lineRan != some line then s.setEngine eng ({ e with lineRan := some line }.begin .line s.img.lineEntry)
      else s.setEngine eng (e.begin .group s.img.groupEntry)

/-- END: the LINE program goes on with GROUP; a GROUP program has ended (R248, R251). -/
def State.engineEnd (s : State) (eng : Nat) : State :=
  let s := s.onEngine eng true fun _ e => e.endProg
  let e := s.engine eng
  if e.run = .line && e.ended then s.setEngine eng (e.begin .group s.img.groupEntry) else s

/-! ### The end of a group (R252, R332, R225, R223) -/

/-- The drive code of a lamp as it is sent: 0 where R332 or R169 says so, else the low Wc bits of what was emitted. -/
def State.sentCode (s : State) (n d x y v : Nat) : Nat :=
  let f := s.fReg n
  let off := match s.img.segAt x y with
    | some (_, g) => !bitOf (f (SCAN_GROUP_EN d)) g.group
    | none => false
  let dark := modeOf f = .lanyardOnly && !(s.lanyRect f).has x y
  if off || dark then 0 else v % 2 ^ s.codeW x y

/-- What the groups of frame `n`, the one in force or the one before, have handed over: history values, and the groups that have ended. -/
def State.histIn (s : State) (n : Nat) : AMap Nat := if n = s.tbFrame then s.dev.lamp.histNew else s.dev.lamp.histOld
def State.endedIn (s : State) (n : Nat) : List Nat := if n = s.tbFrame then s.dev.lamp.ended else s.dev.lamp.endedOld

/-- A history value of a lamp in frame `n` (R225). -/
def State.histPut (s : State) (n d x y r v : Nat) : State :=
  let m := (s.histIn n).put 0 (lampKey d x y r) (min 0xFFFF v)
  s.setLamp (if n = s.tbFrame then { s.dev.lamp with histNew := m } else { s.dev.lamp with histOld := m })

/-- A carry value of a dead lamp that has a place in the carry in frame `n`: one of the frame before, whose group has ended after that frame's
end, is in force at once (R223, R252). -/
def State.carryPut (s : State) (n d x y r v : Nat) : State :=
  let l := s.dev.lamp
  if !((if n = s.tbFrame then l.dead else l.deadOld).look [] d).any fun q => q.lends && q.x = x && q.y = y && q.r = r then s
  else if n = s.tbFrame then s.setLamp { l with carryNew := l.carryNew.put none (lampKey d x y r) (some (v % 2 ^ 24)) }
  else s.setLamp { l with carry := l.carry.put none (lampKey d x y r) (some (v % 2 ^ 24)) }

/-- Group g of line y of die d ends in frame `n`. -/
def State.groupMark (s : State) (n d g y : Nat) : State :=
  let l := s.dev.lamp
  s.setLamp (if n = s.tbFrame then { l with ended := groupKey d g y :: l.ended } else { l with endedOld := groupKey d g y :: l.endedOld })

/-- Every group of section line y of die d has ended in frame `n`. -/
def State.lineEnded (s : State) (n d y : Nat) : Bool :=
  (List.range (s.groupsOf d)).all fun j => (s.endedIn n).contains (groupKey d ((s.section d).x / 4 + j) y)

/-- The history surface that this frame writes: the one that does not hold the last completed history (R225).
(DEDUCED: notes/assumptions/34.md) -/
def State.histTarget (s : State) (d : Nat) : Nat := match s.dev.lamp.histLast.look none d with
  | some 0 => 1
  | _ => 0

/-- Groups of line y of die d have ended in frame `n`: a complete block row of the history is written; with the last, the surface is complete,
unless the next frame has begun (R225, R160). -/
def State.histLine (s : State) (n d y : Nat) : State :=
  let q := s.section d
  let r := (y - q.y) / 4
  let ys := (List.range (min 4 (q.h - 4 * r))).map fun i => q.y + 4 * r + i
  if LAMP_CTL.EN_OD.get (s.fReg n (LAMP_CTL d)) = 0 || !ys.all fun y => s.lineEnded n d y then s
  else
    let rows := ys.map fun y => (List.range q.w).map fun i => (List.range 3).map fun l => (s.histIn n).look 0 (lampKey d (q.x + i) y l)
    let k := s.histTarget d
    let s := s.writeBlockRow d (histBase (s.fReg n) d k) (LAMP_OD_HIST_STRIDE.STRIDE.get (s.fReg n (LAMP_OD_HIST_STRIDE d))) q.w r rows
    if n = s.tbFrame && (List.range q.h).all fun i => s.lineEnded n d (q.y + i) then
      s.setLamp { s.dev.lamp with histLast := s.dev.lamp.histLast.put none d (some k) }
    else s

/-- What lane k of a group of frame `n` that has ended hands over for lamp r; a history value while EN_OD is 0 is discarded (R252).
(DEDUCED: notes/assumptions/34.md) -/
def State.laneOut (s : State) (n d x y r : Nat) (code hist carry : Option Word) : State :=
  let s := match code with
    | some w => s.putCode n d x y r (s.sentCode n d x y w.toNat)
    | none => s
  let s := match hist with
    | some w => if LAMP_CTL.EN_OD.get (s.fReg n (LAMP_CTL d)) = 0 then s else s.histPut n d x y r w.toNat
    | none => s
  match carry with
  | some w => s.carryPut n d x y r w.toNat
  | none => s

/-- At END a group's emitted values go to their receivers, and the cell is free (R252, R337); a group of a frame before the last two finds its
deadline past. -/
def State.groupEnd (s : State) (eng : Nat) : State :=
  let e := s.engine eng
  let d := eng / 128
  if !s.engineGoes eng || e.run != .group || !e.ended then s
  else
    let t := s.tabs d (eng % 128 / 16)
    let n := s.slotFrame t e
    let xy := e.slotRd t 0 4
    let x0 := xy % 2 ^ 16
    let y := xy / 2 ^ 16
    let mine := e.slotRd t 4 4 = n % 2 ^ 32
    let out (st r k : Nat) : Option Word := (e.emits.find? fun p => p.1 = 12 * st + 4 * r + k).map (·.2)
    let s := s.setEngine eng { e with run := .none, ended := false, emits := [], full := e.full.put false e.slot false, slot := 1 - e.slot }
    let s := if s.f (PE_COST_MAX d) PE_COST_MAX.COST < e.hs then s.setF (PE_COST_MAX d) PE_COST_MAX.COST (min 65535 e.hs) else s
    let s := s.setPace d { s.pace d with cost := max (s.pace d).cost e.hs }
    if !mine then s
    else
      let s := ((List.range 4).filter (e.valid t)).foldl (fun s k => (List.range 3).foldl (fun s r =>
        s.laneOut n d (x0 + k) y r (out 0 r k) (out 1 r k) (out 2 r k)) s) s
      ((s.groupMark n d (x0 / 4) y).histLine n d y).packLine n d y

/-- Each frame starts with no group supplied and no history value, those of the frame before being kept for its last groups; a change that
R226 names makes both history surfaces invalid. -/
def State.peFrameStart (s : State) : State :=
  let s := s.setLamp { s.dev.lamp with
    fed := [], endedOld := s.dev.lamp.ended, ended := [], histOld := s.dev.lamp.histNew, histNew := [] }
  s.onDies fun s d =>
    let old (a : Nat) : Nat := (s.dev.workOld.get (resetWord s.dies) a).toNat
    let on (v : Nat → Nat) : Bool := LAMP_CTL.EN_OD.get (v (LAMP_CTL d)) = 1
    let moved := [LAMP_OD_HIST_BASE0_LO d, LAMP_OD_HIST_BASE0_HI d, LAMP_OD_HIST_BASE1_LO d, LAMP_OD_HIST_BASE1_HI d, LAMP_OD_HIST_STRIDE d].any
      fun a => s.wReg a != old a
    if (on s.wReg && !on old) || moved || modeOf old = .reload then
      s.setLamp { s.dev.lamp with histLast := s.dev.lamp.histLast.put none d none }
    else s

/-! ### Commands -/

/-- The feeder fills a slot. -/
def execFeedSlotFill (d g y : Nat) (s : State) : Out := .next (s.run (·.feedSlot d g y))

/-- A cell starts its next group. -/
def execGroupStart (eng : Nat) (s : State) : Out := .next (s.runDev (·.groupStart eng))

/-- An ended group is handed over. -/
def execGroupEnd (eng : Nat) (s : State) : Out := .next (s.run (·.groupEnd eng))

/-- NOP. -/
def execNop (eng : Nat) (s : State) : Out := .next (s.runDev (·.onEngine eng true fun _ e => e.nop))

/-- FEED. -/
def execFeed (eng vd size : Nat) (sx : Bool) (shl off : Nat) (s : State) : Out :=
  .next (s.runDev (·.onEngine eng (isReg vd && size < 3 && shl < 4 && off < 512 && off % sizeBytes size = 0) fun t e => e.feed t vd size sx shl off))

/-- FEEDC. -/
def execFeedc (eng vd : Nat) (esel : Bool) (off : Nat) (s : State) : Out :=
  .next (s.runDev (·.onEngine eng (isReg vd && off < 512 && off % 4 = 0) fun t e => e.feedc t vd esel off))

/-- FEEDS. -/
def execFeeds (eng sd off : Nat) (s : State) : Out :=
  .next (s.runDev (·.onEngine eng (isReg sd && off < 512 && off % 4 = 0) fun t e => e.feeds t sd off))

/-- TLD. -/
def execTld (eng vd va size : Nat) (sx : Bool) (disp : Nat) (s : State) : Out :=
  .next (s.runDev (·.onEngine eng (isReg vd && isReg va && size < 3 && disp < 2048) fun t e => e.tld t vd va size sx disp))

/-- TST. -/
def execTst (eng va vb size disp : Nat) (s : State) : Out :=
  .next (s.runDev (·.onEngine eng (isReg va && isReg vb && size < 3 && disp < 2048) fun _ e => e.tst va vb size disp))

/-- TLDS. -/
def execTlds (eng sd sa disp : Nat) (s : State) : Out :=
  .next (s.runDev (·.onEngine eng (isReg sd && isReg sa && disp < 2048) fun t e => e.tlds t sd sa disp))

/-- LUT1. -/
def execLut1 (eng vd va sb sh ef : Nat) (s : State) : Out :=
  .next (s.runDev (·.onEngine eng (isReg vd && isReg va && isReg sb && 1 ≤ sh && sh ≤ 16 && ef < 3) fun t e => e.lut1 t vd va sb sh ef))

/-- ODI. -/
def execOdi (eng vd va vb q : Nat) (s : State) : Out :=
  .next (s.runDev fun s =>
    let ok := isReg vd && isReg va && isReg vb && q < 3
    let bad := if ok && s.engineRuns eng then (s.engine eng).odiBad (s.tabs (eng / 128) (eng % 128 / 16)) vd va vb q else 0
    (s.onEngine eng ok fun t e => e.odi t vd va vb q).lutNeutral (eng / 128) bad)

/-- LGI; the knee is that of primary q in force. -/
def execLgi (eng vd va q : Nat) (s : State) : Out :=
  .next (s.runDev fun s =>
    let ok := isReg vd && isReg va && q < 3
    let kn := s.wReg (LAMP_LG_KNEE (eng / 128)) / 2 ^ (8 * q) % 32
    let bad := if ok && s.engineRuns eng then (s.engine eng).lgiBad (s.tabs (eng / 128) (eng % 128 / 16)) kn vd va q else 0
    (s.onEngine eng ok fun t e => e.lgi t kn vd va q).lutNeutral (eng / 128) bad)

/-- The result of an ODI or LGI to VD arrives. -/
def execOdiLgiResult (eng vd : Nat) (s : State) : Out := .next (s.runDev (·.onEngine eng (isReg vd) fun _ e => e.result vd))

/-- MULA. -/
def execMula (eng va vb : Nat) (ua ub : Bool) (s : State) : Out :=
  .next (s.runDev (·.onEngine eng (isReg va && isReg vb) fun _ e => e.mula va vb ua ub))

/-- MACA. -/
def execMaca (eng va vb : Nat) (ua ub : Bool) (s : State) : Out :=
  .next (s.runDev (·.onEngine eng (isReg va && isReg vb) fun _ e => e.maca va vb ua ub))

/-- ADDA. -/
def execAdda (eng va : Nat) (ua : Bool) (sh : Nat) (s : State) : Out :=
  .next (s.runDev (·.onEngine eng (isReg va && sh ≤ 32) fun _ e => e.adda va ua sh))

/-- RDA. -/
def execRda (eng vd n sat : Nat) (s : State) : Out :=
  .next (s.run (·.onEngineSat eng sat (isReg vd && n < 64) fun _ e => e.rda vd n sat))

/-- MULR. -/
def execMulr (eng vd va vb : Nat) (ua ub : Bool) (n sat : Nat) (s : State) : Out :=
  .next (s.run (·.onEngineSat eng sat (isReg vd && isReg va && isReg vb && n < 64) fun _ e => e.mulr vd va vb ua ub n sat))

/-- ADD: formed exactly, then saturated. -/
def execAdd (eng vd va vb : Nat) (ua : Bool) (sat : Nat) (s : State) : Out :=
  .next (s.run (·.onEngineSat eng sat (isReg vd && isReg va && isReg vb) fun _ e =>
    e.lane2 vd va vb fun a b => Sys2Proof.Machine.sat sat (opnd ua a + opnd ua b)))

/-- SUB: formed exactly, then saturated. -/
def execSub (eng vd va vb : Nat) (ua : Bool) (sat : Nat) (s : State) : Out :=
  .next (s.run (·.onEngineSat eng sat (isReg vd && isReg va && isReg vb) fun _ e =>
    e.lane2 vd va vb fun a b => Sys2Proof.Machine.sat sat (opnd ua a - opnd ua b)))

/-- SHL. -/
def execShl (eng vd va vb : Nat) (byreg : Bool) (amt sat : Nat) (s : State) : Out :=
  .next (s.run (·.onEngineSat eng sat (isReg vd && isReg va && isReg vb && amt < 32) fun _ e => e.shl vd va vb byreg amt sat))

/-- SHR. -/
def execShr (eng vd va vb : Nat) (byreg : Bool) (amt : Nat) (arith rnd : Bool) (sat : Nat) (s : State) : Out :=
  .next (s.run (·.onEngineSat eng sat (isReg vd && isReg va && isReg vb && amt < 32) fun _ e => e.shr vd va vb byreg amt arith rnd sat))

/-- MIN. -/
def execMin (eng vd va vb : Nat) (ua : Bool) (s : State) : Out :=
  .next (s.runDev (·.onEngine eng (isReg vd && isReg va && isReg vb) fun _ e =>
    e.lane2 vd va vb fun a b => if opnd ua b < opnd ua a then b else a))

/-- MAX. -/
def execMax (eng vd va vb : Nat) (ua : Bool) (s : State) : Out :=
  .next (s.runDev (·.onEngine eng (isReg vd && isReg va && isReg vb) fun _ e =>
    e.lane2 vd va vb fun a b => if opnd ua a < opnd ua b then b else a))

/-- CLMP. -/
def execClmp (eng vd va sat : Nat) (cnt : Bool) (s : State) : Out :=
  .next (s.run (·.onEngineSat eng sat (isReg vd && isReg va) fun t e => e.clmp t vd va sat cnt))

/-- AND. -/
def execAnd (eng vd va vb : Nat) (s : State) : Out :=
  .next (s.runDev (·.onEngine eng (isReg vd && isReg va && isReg vb) fun _ e => e.lane2 vd va vb fun a b => a &&& b))

/-- OR. -/
def execOr (eng vd va vb : Nat) (s : State) : Out :=
  .next (s.runDev (·.onEngine eng (isReg vd && isReg va && isReg vb) fun _ e => e.lane2 vd va vb fun a b => a ||| b))

/-- XOR. -/
def execXor (eng vd va vb : Nat) (s : State) : Out :=
  .next (s.runDev (·.onEngine eng (isReg vd && isReg va && isReg vb) fun _ e => e.lane2 vd va vb fun a b => a ^^^ b))

/-- CMP. -/
def execCmp (eng va vb : Nat) (ua : Bool) (cond : Nat) (s : State) : Out :=
  .next (s.runDev (·.onEngine eng (isReg va && isReg vb && cond < 6) fun _ e => e.cmp va vb ua cond))

/-- SEL. -/
def execSel (eng vd va vb : Nat) (s : State) : Out :=
  .next (s.runDev (·.onEngine eng (isReg vd && isReg va && isReg vb) fun _ e => e.sel vd va vb))

/-- VBC. -/
def execVbc (eng vd sa : Nat) (s : State) : Out := .next (s.runDev (·.onEngine eng (isReg vd && isReg sa) fun _ e => e.vbc vd sa))

/-- VLDI. -/
def execVldi (eng vd : Nat) (hi : Bool) (imm : Nat) (s : State) : Out :=
  .next (s.runDev (·.onEngine eng (isReg vd && imm < 65536) fun _ e => e.vldi vd hi imm))

/-- SLDI. -/
def execSldi (eng sd : Nat) (hi : Bool) (imm : Nat) (s : State) : Out :=
  .next (s.runDev (·.onEngine eng (isReg sd && imm < 65536) fun _ e => e.sldi sd hi imm))

/-- SADD. -/
def execSadd (eng sd sa sb : Nat) (s : State) : Out :=
  .next (s.runDev (·.onEngine eng (isReg sd && isReg sa && isReg sb) fun _ e => e.sadd sd sa sb))

/-- DITH. -/
def execDith (eng vd va vb mode : Nat) (s : State) : Out :=
  .next (s.runDev (·.onEngine eng (isReg vd && isReg va && isReg vb && mode < 3) fun t e => e.dith t vd va vb mode))

/-- EMIT. -/
def execEmit (eng va stream lamp : Nat) (deadz : Bool) (s : State) : Out :=
  .next (s.runDev (·.onEngine eng (isReg va && stream < 3 && lamp < 3) fun t e => e.emit t va stream lamp deadz))

/-- SKIP. -/
def execSkip (eng sa bit : Nat) (sense : Bool) (n : Nat) (s : State) : Out :=
  .next (s.runDev (·.onEngine eng (isReg sa && bit < 32 && n < 4096) fun _ e => e.skip sa bit sense n))

/-- END. -/
def execEnd (eng : Nat) (s : State) : Out := .next (s.runDev (·.engineEnd eng))

/-- An undefined opcode. -/
def execUndefinedOpcode (eng : Nat) (s : State) : Out := .next (s.run (·.engineUndef eng))

end Sys2Proof.Machine
end

