-- ==== Sys2Proof/Machine/Wake.lean ====
section
/-! DEFINITION. Waking: the known events of a block and of a region (R461), the timer and the demand that wake a unit (R463), and the hold buffers
in which back blocks wait for a region in Nap or Deep (R464). -/
namespace Sys2Proof.Machine

/-! ### Back blocks (R278, R279, R464) -/

/-- What a back block does once it has passed the crossing FIFO of its lane; `i` is the command of its arrival. -/
def State.backAct (i : Instr) (s : State) : State := match i with
  | .echo g addr tag _ wait rtt => s.backMsg g false (·.fromPartner g addr (·.echo g addr tag wait rtt))
  | .ack g addr tag op result _ data => s.backMsg g false (·.fromPartner g addr (·.ack g addr tag op result data))
  | .decl g addr part excess d => s.backMsg g false (·.declPart g addr part excess d)
  | .status g addr _ temp _ _ flags => s.backMsg g false (·.fromPartner g addr (·.statusMsg g addr temp flags))
  | .fault g addr lamps => s.backMsg g true (·.fromPartner g addr (·.faultMsg g addr ((lamps.take 4).map (·.1))))
  | .wake g addr _ => s.backMsg g false (·.fromPartner g addr (·.wakeAct g))
  | .eq g lane pre post done fom seq => s.eqBlock g lane pre post done fom seq
  | .backTrainBlock g lane phase done inv rev skew fwd back widths => s.backTrain g lane phase done inv rev skew fwd back widths
  | .backInvalidBlock g x => s.backInvalid g x.crc
  | _ => s

/-- The region of die d holds back blocks: it is in Nap or Deep. -/
def State.holdsBack (s : State) (d : Nat) : Bool := s.pwr d 8 = 2 || s.pwr d 8 = 3

/-- The hold buffers of die d pass their blocks on in order (R464). -/
def State.backRelease (s : State) (d : Nat) : State :=
  let l := s.dev.hold
  (l.filter (·.1 / 16 = d)).foldl (fun s e => s.backAct e.2) { s with dev := { s.dev with hold := l.filter (·.1 / 16 != d) } }

/-- The hold buffers of every region that is not in Nap or Deep pass their blocks on. -/
def State.backReleases (s : State) : State := s.onDies fun s d => if s.holdsBack d then s else s.backRelease d

/-- A back block reaches bond lane b of strand g: while the region is in Nap or Deep it waits in the lane's hold buffer of 128 blocks, or is lost
(R464). -/
def State.arrive (s : State) (g b : Nat) (i : Instr) : State :=
  let d := g / 16
  if !s.holdsBack d then (s.backRelease d).backAct i
  else if (s.dev.hold.filter (·.1 = g + b)).length < 128 then { s with dev := { s.dev with hold := s.dev.hold ++ [(g + b, i)] } }
  else s.leafBit d (DIE_XFIFO_ERR d) DIE_XFIFO_ERR.BACK_OVF ((g + b) % 16)

/-! ### Known events (R461) -/

/-- Frame lines, counted from the frame in force, at which a group may start in block b of die d: those of the section, where a cell of the block
takes part, in this frame or the next. -/
def State.blockLines (s : State) (d b : Nat) : List Nat :=
  let q := s.section d
  let next := max q.y s.dev.tb.line
  if !(List.range (s.groupsOf d)).any fun j => (s.engineFor d j).any fun e => e / 16 = b then []
  else if s.composes s.frameMode d && next < q.y + q.h then [next]
  else if s.composes s.mode d then [s.dev.tb.ras.vtotal + q.y]
  else []

/-- The frame line, counted from the frame in force, in which the time `t` of every frame comes next. -/
def State.nextLineOf (s : State) (t : Int) : Nat :=
  let r := s.dev.tb.ras
  let y := (t.emod (r.lineTicks * r.vtotal : Nat)).toNat / max 1 r.lineTicks
  if s.dev.tb.line ≤ y then y else y + r.vtotal

/-- The lines of the next slots that the packer builds on strand g without anything to send: a SYNC every 16 lines while awake, and the launch
marker, with the burst of SYNC_ONLY before it (R89, R271, R314). (DEDUCED: notes/assumptions/19.md) -/
def State.strandLines (s : State) (g : Nat) : List Nat :=
  if !s.strandActive g || s.fwdState g = 2 then []
  else
    let r := s.dev.tb.ras
    let mark := s.nextLineOf ((s.wf TB_LAUNCH TB_LAUNCH.LAUNCH_OFS : Int) - s.lead g - (if s.fwdState g = 1 then 4400 else 0))
    let sync := (s.dev.tb.line + 15) / 16 * 16
    if s.fwdState g = 0 then [mark, min sync r.vtotal] else [mark]

/-- The frame lines in which the known events of unit `u` of die d come next, among them that of the knot line (R461). -/
def State.eventLines (s : State) (d u : Nat) : List Nat :=
  let knot := if s.dev.tb.line ≤ s.knotLine then s.knotLine else s.knotLine + s.dev.tb.ras.vtotal
  knot :: (if u = 8 then (List.range 8).flatMap (s.blockLines d) ++ (List.range 16).flatMap fun n => s.strandLines (16 * d + n)
    else s.blockLines d u)

/-- The time to the next known event of a unit in ticks: `next`, which says where in its line the event falls, kept to the line that the state
gives. Without a raster there is no known event. (DEDUCED: notes/assumptions/19.md) -/
def State.tNext (s : State) (d u next : Nat) : Nat :=
  if !s.rasterOn then next
  else
    let l := (s.eventLines d u).foldl min (2 * s.dev.tb.ras.vtotal)
    let n := l - s.dev.tb.line
    let lt := s.dev.tb.ras.lineTicks
    max (n * lt) (min next ((n + 1) * lt))

/-! ### Waking (R461, R463) -/

/-- The state that R461 chooses for a unit `next` ticks before its next known event: Run while it has work in progress. -/
def State.pwrNext (s : State) (d u next : Nat) (starved : Bool) : Nat :=
  if s.unitWorks d u then 0 else s.pwrChoice d u (s.tNext d u next) starved

/-- Unit `u` of die d wakes after `us` µs in its state and is served; a region passes on what its hold buffers have kept. It then takes the state
that R461 chooses, in Dormant that of R466; a block whose region is in Nap or Deep stays in Nap (R458). (DEDUCED: notes/assumptions/19.md) -/
def State.unitWake (s : State) (d u us next : Nat) (starved demand : Bool) : State :=
  if !s.live d || 8 < u then s
  else
    let s := if u = 8 then
        (let s := s.residency d us
         let s := if demand && s.pwr d 8 != 0 then s.count (PWR_DEMAND_CNT d) else s
         s.backRelease d)
      else s
    if !s.live d then s
    else if s.mode = .dormant then s.setPwr d u (s.pwrDormant d u)
    else if u != 8 && 2 ≤ s.pwr d 8 then s
    else s.setPwr d u (s.pwrNext d u next starved)

/-! ### Commands -/

/-- A unit starts its wake before its next known event. -/
def execUnitWakeTimer (d unit us next : Nat) (starved : Bool) (s : State) : Out := .next (s.runDev (·.unitWake d unit us next starved false))

/-- A request reaches a unit in a low-power state. -/
def execWakeOnDemand (d unit us next : Nat) (starved : Bool) (s : State) : Out := .next (s.runDev (·.unitWake d unit us next starved true))

/-- ECHO. -/
def execEcho (g addr tag seq wait rtt : Nat) (s : State) : Out :=
  .next (s.runDev fun s => s.onLine g (s.holders g addr) (.echo tag seq) (·.arrive g 0 (.echo g addr tag seq wait rtt)))

/-- ACK. -/
def execAck (g addr tag op result reg data : Nat) (s : State) : Out :=
  .next (s.runDev fun s => s.onLine g (s.holders g addr) (.ack op tag result reg data) (·.arrive g 0 (.ack g addr tag op result reg data)))

/-- DECL. -/
def execDecl (g addr part : Nat) (excess : Bool) (d : Decl) (s : State) : Out :=
  .next (s.runDev fun s =>
    s.onLine g (if excess then s.excess g part else s.holders g addr) (.decl part excess) (·.arrive g 0 (.decl g addr part excess d)))

/-- STATUS; `flags`: HELD, BLANK, LOST, FAULT_PEND and LATE_ROW from bit 0. -/
def execStatus (g addr f8 temp rxErr discard flags : Nat) (s : State) : Out :=
  .next (s.runDev fun s => s.onLine g (s.holders g addr) (.status f8 temp rxErr discard flags)
    (·.arrive g 0 (.status g addr f8 temp rxErr discard flags)))

/-- FAULT; each lamp index with whether it is a short. -/
def execFault (g addr : Nat) (lamps : List (Nat × Bool)) (s : State) : Out :=
  .next (s.runDev fun s => s.onLine g (s.holders g addr) (.fault lamps) (·.arrive g 0 (.fault g addr lamps)))

/-- WAKE. -/
def execWake (g addr reason : Nat) (s : State) : Out :=
  .next (s.runDev fun s => if s.mayWake g addr && reason < 256 then s.arrive g 0 (.wake g addr reason) else s)

/-- EQ. -/
def execEq (g lane pre post : Nat) (done : Bool) (fom seq : Nat) (s : State) : Out :=
  .next (s.runDev (·.arrive g lane (.eq g lane pre post done fom seq)))

/-- A back TRAIN block. -/
def execBackTrainBlock (g lane phase : Nat) (done inv rev : Bool) (skew fwd back widths : Nat) (s : State) : Out :=
  .next (s.runDev (·.arrive g lane (.backTrainBlock g lane phase done inv rev skew fwd back widths)))

/-- A back block that fails its check or is of no known type. -/
def execBackInvalidBlock (g : Nat) (x : BadBlock) (s : State) : Out :=
  .next (s.runDev fun s => (s.backLostMsg g x.k).arrive g 0 (.backInvalidBlock g x))

end Sys2Proof.Machine
end

