-- ==== Sys2Proof/Machine/Knot.lean ====
section
/-! DEFINITION. The knot (R171 to R189): commit requests, the view that a knot would make active, fences and pin capacity, applying,
deferring and rejecting, independent layers, the installation's knot (R66), and the start of the knot line (R178). -/
namespace Sys2Proof.Machine

/-! ### Views -/

/-- The layer slot whose register block holds BAR0 offset `a`. -/
def layerOf (a : Nat) : Option Nat :=
  let o := a % 0x10000
  if 0x10000 ≤ a && 0x1000 ≤ o && o < 0x1700 then some ((o - 0x1000) / 0x100) else none

/-- A knot takes the shadow at `a`: of the layers `ls`, and of everything else when the request is part of it. -/
def knotTakes (req : Bool) (ls : List Nat) (a : Nat) : Bool := match layerOf a with
  | some n => ls.contains n
  | none => req

/-- The values that a knot with the request (`req`) and the layers `ls` makes active. -/
def State.knotView (s : State) (req : Bool) (ls : List Nat) (a : Nat) : Nat := if knotTakes req ls a then s.shadowed a else s.reg a

/-! ### Fences -/

/-- Step 6 of R178: the fence of layer n is pending; one of a layer that the commit binds to a port with a buffer D (R108) or to the Coil
stream (R362) counts as given. (DEDUCED: notes/assumptions/28.md) -/
def State.fencePending (s : State) (n : Nat) : Bool :=
  let l := lyrOf (fun a => s.shadowed a) 0 n
  s.liveDies.any (fun d => s.b (LYR_READY d n) LYR_READY.ARMED && !s.b (LYR_READY d n) LYR_READY.SIGNALLED) &&
    !(l.sel = 2) && !(l.sel = 1 && s.sd l.port != 3)

/-- A load runs into the bank that the shadow newly selects (R202, R233). -/
def State.loadWaits (s : State) : Bool :=
  let waits (ctl status : Nat) (f : Fd) : Bool :=
    f.get (s.shadowed ctl) != s.f ctl f && s.b status LAMP_STATUS.LOAD_BUSY && s.f status LAMP_STATUS.LOAD_BANK = f.get (s.shadowed ctl)
  s.liveDies.any fun d => waits (LAMP_CTL d) (LAMP_STATUS d) LAMP_CTL.EOTF_BANK || waits (LAMP_OUT_CTL d) (LAMP_OUT_STATUS d) LAMP_OUT_CTL.OUT_BANK

/-! ### Pin entries (R187 to R189) -/

/-- The entries of the layers that the values `v` make. -/
def State.layerPins (s : State) (v : Nat → Nat) : List Pin :=
  (List.range 7).flatMap fun n =>
    let l := lyrOf v 0 n
    if !bitOf s.img.layerEn n || !l.on || l.sel != 0 then []
    else (⟨l.fmt, l.bases, l.stride0, l.stride1, false, none, none⟩ : Buf).pins (l.sy + l.sh) l.policy (.layer n)

/-- The entries of die d's writeback surfaces (R161). -/
def State.wbPins (s : State) (v : Nat → Nat) (d : Nat) : List Pin :=
  let c := v (DIE_WB_CTL d)
  if DIE_WB_CTL.EN.get c = 0 then []
  else (List.range (DIE_WB_CTL.BUFS.get c + 1)).map fun k =>
    ⟨.wb k, wbBase v d k, wbBase v d k + ((s.section d).h + 3) / 4 * DIE_WB_STRIDE.STRIDE.get (v (DIE_WB_STRIDE d)),
      DIE_WB_CTL.PIN_POLICY.get c, none⟩

/-- The entry of the Coil ring (R361). -/
def ringPins (v : Nat → Nat) : List Pin :=
  if COIL_CTL.EN.get (v COIL_CTL) = 0 then []
  else
    let a := ringAddr v 0
    [⟨.coil 0, a, a + COIL_RING_SLOTS.SLOTS.get (v COIL_RING_SLOTS) * COIL_SLOT_CU.CU.get (v COIL_SLOT_CU) * 4096, 1, none⟩]

/-- The entries of layers and writeback that the values `v` make, none of them empty or on a fenced die. -/
def State.knotPins (s : State) (v : Nat → Nat) : List Pin :=
  (s.layerPins v ++ s.liveDies.flatMap (s.wbPins v)).filter fun p => p.lo < p.hi && s.live (dieOf p.lo)

/-- The knot places and replaces this entry: those of layers and writeback. -/
def PinOwner.ofKnot : PinOwner → Bool
  | .layer .. | .wb _ => true
  | _ => false

/-- An entry of a source port. -/
def PinOwner.ofSrc : PinOwner → Bool
  | .src .. => true
  | _ => false

/-- The counts of R189 on die d for a state with the entries `want`: entries of the new state plus those replaced, and entries that wait
already. -/
def State.pinCounts (s : State) (want : List Pin) (d : Nat) : Nat × Nat :=
  let held := (s.pins d).filter (·.release.isNone)
  let new := (want.filter fun p => dieOf p.lo = d).length + (held.filter (·.owner.ofSrc)).length
  let gone := (held.filter fun p => !p.owner.ofSrc && !want.contains p).length
  (new + gone, ((s.pins d).filter (·.release.isSome)).length)

/-- How the pin table counts of R189 turn out: they fit, they will fit once entries are released, or they cannot fit, with the first die whose
count does not. -/
inductive PinFit where
  | fits
  | waits
  | never (d : Nat)
deriving DecidableEq, Repr

/-- Step 6 of R178 for the values `v` (R189). -/
def State.pinFit (s : State) (v : Nat → Nat) : PinFit :=
  let want := s.knotPins v ++ ringPins v
  match s.liveDies.find? fun d => 64 < (s.pinCounts want d).1 + (s.pinCounts want d).2 with
  | none => .fits
  | some d => if s.liveDies.any fun d => 64 < (s.pinCounts want d).1 then .never d else .waits

/-- The entries of a knot (R188): those unchanged stay, the others get the release frame, new ones are made. -/
def State.pinCommit (s : State) (want : List Pin) : State :=
  let gone (p : Pin) : Bool := p.release.isNone && p.owner.ofKnot && !want.contains p
  let all := (List.range s.dies).flatMap (s.pins ·)
  let changed := (List.range 7).filter fun k => all.any fun p => gone p && (match p.owner with
    | .layer m _ => m = k
    | _ => false)
  let s := s.mapPins fun ps => ps.map fun p => if gone p then { p with release := some s.dev.tb.place } else p
  let s := s.addPins (want.filter fun p => !all.contains p)
  changed.foldl (fun s k => s.setRelease k) s

/-! ### Applying -/

/-- The tick at which the knot line of the frame in force starts. -/
def State.knotTick (s : State) : Nat := s.dev.tb.start + s.knotLine * s.dev.tb.ras.lineTicks

/-- The window of the register at `a` is the chip's or that of a live die. -/
def State.windowLive (s : State) (a : Nat) : Bool := a < 0x10000 || s.live ((a - 0x10000) / 0x10000)

/-- The shadows of a knot become the active values (R175, R171). -/
def State.copyShadows (s : State) (req : Bool) (ls : List Nat) : State :=
  ((s.dev.shadow.map (·.1)) ++ (s.dev.regs.map (·.1))).foldl (fun t a =>
    if knotTakes req ls a && !lanyReg a && rwsBits a != 0 && s.windowLive a then t.setReg a (s.shadowed a) else t) s

/-- PE_BUDGET and PE_NEED of each die with pixels follow the image and the active raster (R254). -/
def State.budgetRegs (s : State) : State :=
  s.onDies fun s d =>
    let r := s.section d
    let some' (v : Nat) : Nat := if r.empty then 0 else v
    (s.setReg (PE_BUDGET d) (some' (availOf s.raster.lineTicks * 2 ^ 12 + gpcMax (Sys2Proof.Machine.groupsOf r) s.img.chunk))).setReg (PE_NEED d)
      (some' (s.img.need r))

/-- A knot of the request (`req`) and the layers `ls` applies in frame `n`; `at'` is the tick at which its window ends.
(DEDUCED: notes/assumptions/28.md) -/
def State.knotApply (s : State) (req : Bool) (ls : List Nat) (n at' : Nat) : State :=
  let old := s.reg
  let want := s.knotPins (s.knotView req ls)
  let s := (s.copyShadows req ls).pinCommit want
  let s := if rasterOf old = s.raster then s else s.setTb { s.dev.tb with changed := true }
  let s := (s.tbOfsApplied at').tbRole (TB_CTL.ROLE.get (old TB_CTL))
  let s := s.onDies fun s d =>
    if DIE_WB_CTL.EN.get (old (DIE_WB_CTL d)) = 0 && s.b (DIE_WB_CTL d) DIE_WB_CTL.EN then s.setF (DIE_WB_STATUS d) DIE_WB_STATUS.VALID 0 else s
  ((s.coilKnot n old).occlude).budgetRegs

/-- The layers `ls` applied with a host knot of frame `n`: fences disarmed, LYR_n_KSTAT (R183, R185). -/
def State.layersApplied (s : State) (ls : List Nat) (n : Nat) : State :=
  ls.foldl (fun s k => s.onDies fun s d => (s.setReg (LYR_READY d k) 0).setReg (LYR_KSTAT d k) (n % 2 ^ 24)) s

/-- The knot of an installation (R66): all shadows, without fences or deferral. -/
def State.knotInstall (s : State) : State := s.knotApply true (List.range 7) s.tbFrame s.knotTick

/-! ### Requests -/

/-- LYR_n_KSTAT.PEND of the layers `ls`. -/
def State.kstatPend (s : State) (ls : List Nat) (on : Bool) : State :=
  ls.foldl (fun s k => s.onDies fun s d => s.setB (LYR_KSTAT d k) LYR_KSTAT.PEND on) s

/-- The layers that KNOT_STATUS.INDEP_PEND shows. -/
def State.indepPend (s : State) : List Nat := (List.range 7).filter fun n => bitOf (s.f KNOT_STATUS KNOT_STATUS.INDEP_PEND) n

/-- A set of layers as a bit mask. -/
def layerMask (ls : List Nat) : Nat := ((List.range 7).filter ls.contains).foldl (fun m n => setBit m n) 0

/-- Drop the pending request and every independent part (R186). -/
def State.knotCancel (s : State) : State :=
  ((((s.kstatPend s.indepPend false).setF KNOT_STATUS KNOT_STATUS.PEND 0).setF KNOT_STATUS KNOT_STATUS.HELD 0)).setF KNOT_STATUS
    KNOT_STATUS.INDEP_PEND 0

/-- A Reload's installation drops what is pending (R180). -/
def State.knotDrop (s : State) : State :=
  if s.b KNOT_STATUS KNOT_STATUS.PEND || !s.indepPend.isEmpty then s.knotCancel.setF KNOT_STATUS KNOT_STATUS.DROPPED 1 else s

/-- A commit request (R174). -/
def State.knotRequest (s : State) : State := (s.setReg KNOT_SEQ ((s.reg KNOT_SEQ + 1) % 2 ^ 32)).setF KNOT_STATUS KNOT_STATUS.PEND 1

/-- A write of KNOT_REQ: the cancel acts first (R186). -/
def State.knotReqWrite (s : State) (v : Nat) : State :=
  let s := if KNOT_REQ.CANCEL.get v = 1 then s.knotCancel else s
  if KNOT_REQ.REQ.get v = 1 then s.knotRequest else s

/-! ### Steps 5 to 7 of R178 -/

/-- A rejection (R179): KNOT_REJECT, BAD_SHADOW, KNOT_DONE. -/
def State.knotReject (s : State) (off cause : Nat) : State :=
  ((s.setF KNOT_STATUS KNOT_STATUS.BAD_SHADOW 1).setReg KNOT_REJECT (cause % 16 * 2 ^ 28 + off % 2 ^ 20)).ev .knotDone

/-- The fault, if any, of the independent layer `n` among the values `v` (R185): the lowest of its own registers at fault; a page sum of
R143 is at fault in the layer's own LYR_n_LMEM. (DEDUCED: notes/assumptions/13.md) -/
def State.partFault (s : State) (v : Nat → Nat) (n : Nat) : Option Nat :=
  let fs := s.shadowFaults s.img v true
  match firstFault (fs.filter fun f => layerOf f.1 = some n) with
  | some f => some f.1
  | none => (firstFault (fs.filter fun f => f.2 = 3)).map fun f => f.1 / 0x10000 * 0x10000 + LYR_LMEM 0 n % 0x10000

/-- The part of layer `n` is dropped, with `off` the register at fault (R185). -/
def State.partDrop (s : State) (n off : Nat) : State :=
  ((s.clrBitF KNOT_STATUS KNOT_STATUS.INDEP_PEND n).kstatPend [n] false).knotReject off 6

/-- The ready independent layers `ls`, each checked with the request and the layers `base` (R185): those that pass, and those that fail with
the register at fault. -/
def State.siftWith (s : State) (base : List Nat) : List Nat → List Nat × List (Nat × Nat)
  | [] => ([], [])
  | n :: t =>
    match s.partFault (s.knotView true (n :: base)) n with
    | none => let r := s.siftWith (n :: base) t; (n :: r.1, r.2)
    | some off => let r := s.siftWith base t; (r.1, (n, off) :: r.2)

/-- The ready independent layers `ls` without a request that applies (R185), one after another, `acc` having been taken: each is checked
with the active state of the others and applies when its entries fit beside those taken; those that apply, those that must wait for the pin
table, and the state, where the part of a layer that fails is dropped. (DEDUCED: notes/assumptions/49.md) -/
def State.siftAlone (s : State) (acc : List Nat) : List Nat → List Nat × List Nat × State
  | [] => (acc, [], s)
  | n :: t =>
    match s.partFault (s.knotView false (n :: acc)) n with
    | some off => (s.partDrop n off).siftAlone acc t
    | none =>
      if s.pinFit (s.knotView false (n :: acc)) = .fits then s.siftAlone (n :: acc) t
      else let r := s.siftAlone acc t; (r.1, n :: r.2.1, r.2.2)

/-- The outcome of steps 5 to 7: whether the request applies, whether it waits for a fence or for the pin table, the rejection (OFFSET and
CAUSE). -/
structure KnotRes where
  applied : Bool
  fence : Bool
  pins : Bool
  reject : Option (Nat × Nat)
deriving DecidableEq, Repr

/-- Steps 5 and 6 for a request that would apply with the layers `ls` (R179, R183, R189); `others`: a fence that defers the whole request is
pending. A request that is rejected is never deferred. -/
def State.judge (s : State) (ls : List Nat) (others : Bool) : KnotRes :=
  let v := s.knotView true ls
  match firstFault (s.shadowFaults s.img v true) with
  | some f => ⟨false, false, false, some f⟩
  | none =>
    let wait := others || s.loadWaits || s.plWaits
    match s.pinFit v with
    | .never d => ⟨false, false, false, some (DIE_PIN_STATUS d, 4)⟩
    | .waits => ⟨false, wait, true, none⟩
    | .fits => ⟨!wait, wait, false, none⟩

/-- Steps 5 to 7 in frame `n` with the window ending at tick `at'`. -/
def State.knotDecide (s : State) (n at' : Nat) : State :=
  let indep := s.indepPend
  let fp := (List.range 7).filter s.fencePending
  let alone := fp.filter fun k => bitOf (s.f KNOT_INDEP KNOT_INDEP.LAYERS) k
  let ready := indep.filter fun k => !fp.contains k
  let base := (List.range 7).filter fun k => !alone.contains k && !ready.contains k
  let req := s.b KNOT_STATUS KNOT_STATUS.PEND
  let g := s.siftWith base ready
  let r : KnotRes := if req then s.judge (base ++ g.1) (fp.any fun k => !alone.contains k) else ⟨false, false, false, none⟩
  let s := match r.reject with
    | some f => s.knotReject f.1 f.2
    | none => s
  let h : List Nat × List Nat × State :=
    if r.applied then (base ++ g.1, [], g.2.foldl (fun s x => s.partDrop x.1 x.2) s) else s.siftAlone [] ready
  let ls := h.1
  let s := h.2.2
  let s := if r.applied || !ls.isEmpty then ((s.knotApply r.applied ls n at').layersApplied ls n).ev .knotDone else s
  let s := if r.applied then
      ((s.setPair KNOT_APPLIED_LO KNOT_APPLIED_HI 16 n).setReg KNOT_APPLIED_SEQ s.dev.knot.seqStart).kstatPend alone true
    else s
  let left := ((List.range 7).filter fun k => bitOf (s.f KNOT_STATUS KNOT_STATUS.INDEP_PEND) k && !ls.contains k) ++ (if r.applied then alone else [])
  let fence := r.fence || left.any (fun k => !h.2.1.contains k)
  let pins := r.pins || !h.2.1.isEmpty
  let pend := req && !r.applied && r.reject.isNone
  let s := (s.setF KNOT_STATUS KNOT_STATUS.INDEP_PEND (layerMask left)).setB KNOT_STATUS KNOT_STATUS.PEND pend
  let s := s.setB KNOT_STATUS KNOT_STATUS.DEFERRED pend
  if !fence && !pins then s
  else (((s.setB KNOT_STATUS KNOT_STATUS.FENCE fence).setB KNOT_STATUS KNOT_STATUS.PIN_WAIT pins).count KNOT_DEFER_COUNT).ev .knotDefer

/-- A mode in which host knots are applied (R180). -/
def Mode.knots : Mode → Bool
  | .idle | .live | .belay | .coil | .calibrate | .linkTest => true
  | _ => false

/-- The shadow transfer window ends at tick `at'` (R175, R180, R491); the accesses held in it follow. -/
def State.windowClose (s : State) (at' : Nat) : State :=
  let any := s.b KNOT_STATUS KNOT_STATUS.PEND || !s.indepPend.isEmpty
  let s := if !any then s
    else if !s.mode.knots then (if s.b KNOT_STATUS KNOT_STATUS.PEND then s.setF KNOT_STATUS KNOT_STATUS.HELD 1 else s)
    else
      let s := s.setF KNOT_STATUS KNOT_STATUS.HELD 0
      if s.dev.knot.dieLost then s else s.knotDecide s.tbFrame at'
  let s := s.onDies fun s d => s.lmKnotLine d
  let s := (s.setF KNOT_STATUS KNOT_STATUS.BUSY 0).setKnot { s.dev.knot with dieLost := false }
  s.afterRelease

/-! ### The start of the knot line -/

/-- The ports' buffers at the end of a Reload (R110). (DEDUCED: notes/assumptions/21.md) -/
def State.portsEnd (s : State) : State :=
  (s.onDies fun s d => (s.setReg (SRC_BUF_STATE d) (s.reg (SRC_BUF_STATE d) / 2 ^ 16 * 2 ^ 16 + 0x3333)).setPort d
    { s.port d with live := none }).retirePins PinOwner.ofSrc

/-- The first knot line after a Reload's load has ended, in frame `n`: the installation's knot whatever the mode is by then, and Idle (R66,
R73). (DEDUCED: notes/assumptions/21.md) -/
def State.reloadEnd (s : State) (n : Nat) : State :=
  let good := s.f CHIP_BOOT_STATUS CHIP_BOOT_STATUS.ERR = 0
  let s := s.setBoot { s.dev.boot with idlePending := false }
  let s := (if good then s.knotInstall else s).portsEnd
  if s.mode = .reload && s.dev.boot.lanyLeft = 0 then s.enterMode .idle (if good then 0xC else 0xB) n else s

/-- The fences of cells and blocks take effect, those requested by the host included (R24, R25). (DEDUCED: notes/assumptions/16.md) -/
def State.fencesTake (s : State) : State :=
  let reqs := s.dev.knot.fenceReq
  let s := s.setKnot { s.dev.knot with fenceReq := [] }
  let s := reqs.foldl (fun s x => s.cellFence x.1 x.2 5) s
  let s := s.onDies fun s d => (List.range 4).foldl (fun s m =>
    s.setLamp { s.dev.lamp with cells := s.dev.lamp.cells.put 0 (d * 4 + m) (s.cellsNow d m) }) s
  s.setComp { s.dev.comp with mask := s.f CHIP_DIES CHIP_DIES.FENCED }

/-- Steps 1 to 4 of R178 and the opening of the window; `noVideo`: the ports at which no video arrived since the last knot line. -/
def State.knotStart (s : State) (noVideo : List Nat) : State :=
  if !s.rasterOn || s.dev.image.isNone || s.b KNOT_STATUS KNOT_STATUS.BUSY then s
  else
    let n := s.tbFrame
    let s := s.unitsRun.backReleases
    let s := if s.dev.boot.idlePending then s.reloadEnd n else s
    let s := s.onDies fun s d => s.srcSleep d (noVideo.contains d)
    let slept := s.liveDies.filter s.asleep
    let s := s.onDies fun s d => s.srcKnotLine d
    let woke := slept.filter fun d => !s.asleep d
    let s := (((s.evaluate n woke).coilSelect.lanyCommit n).refreshSleep (some n)).fencesTake
    if !s.rasterOn then s
    else (s.setF KNOT_STATUS KNOT_STATUS.BUSY 1).setKnot { s.dev.knot with seqStart := s.reg KNOT_SEQ, dieLost := false }

/-! ### Commands -/

/-- The start of the knot line. -/
def execKnotLineStart (noVideo : List Nat) (s : State) : Out := .next (s.run (·.knotStart noVideo))

end Sys2Proof.Machine
end

