-- ==== Sys2Proof/Machine/RegAccess.lean ====
section
/-! DEFINITION. The effect of a register access once it is admitted (R14 to R17, R494 to R496): the pairs of R16, what a write of each
register does, what a read returns and does, snapshots (R191, R192). -/
namespace Sys2Proof.Machine

/-! ### Registers by offset -/

/-- `a` is the `_LO` of a pair that takes writes. -/
def isWriteLo (a : Nat) : Bool :=
  if a < 0x10000 then
    [CHIP_STAGE_BASE_LO, HOST_WIN_BASE_LO, COIL_START_LO, COIL_RING_BASE_LO, LANY_BASE_A_LO, LANY_BASE_B_LO, NVM_VAL_LO 0, NVM_VAL_LO 1].contains a ||
      (List.range 8).any fun r => a = JOB_SQ_BASE_LO r || a = JOB_CQ_BASE_LO r || a = JOB_CQ_WB_LO r
  else
    let d := winDie a
    [DIE_WB_BASE0_LO d, DIE_WB_BASE1_LO d, LAMP_TILE_BASE_LO d, LAMP_PIX_BASE_LO d, LAMP_SEAM_BASE_LO d, LAMP_EOTF_SRC_LO d, LAMP_DEAD_BASE_LO d,
      LAMP_OUT_SRC_LO d, LAMP_OD_HIST_BASE0_LO d, LAMP_OD_HIST_BASE1_LO d].contains a ||
      (List.range 3).any fun k => a = SRC_BUF_LO d k || (List.range 7).any fun n => a = LYR_BASE_LO d n k

/-- `a` is the `_LO` of a pair that only reads. -/
def isReadLo (a : Nat) : Bool :=
  if a < 0x10000 then
    [CHIP_SNAP_FRAME_LO, TB_FRAME_LO, KNOT_APPLIED_LO, KNOT_RELEASED_LO, COIL_ORIGIN_LO, CMP_IN_BYTES_LO, CMP_OUT_BYTES_LO, BLY_ENTER_LO,
      BLY_EXIT_LO, LANY_VIOL_ADDR_LO, LANY_APPLIED_LO].contains a
  else
    let d := winDie a
    [DIE_WB_FRAME_LO d, DIE_PIN_VIOL_ADDR_LO d, LAMP_NEUTRAL_ADDR_LO d, SCAN_DONE_FRAME_LO d, MEM_ADDR_ERR_ADDR_LO d, ECC_CE_LAST_LO d,
      ECC_UE_LAST_LO d, ECC_UE_BG_LAST_LO d].contains a ||
      (List.range 7).any (fun n => a = LYR_RELEASE_LO d n) || (List.range 16).any fun n => a = STR_PRBS_BITS_LO d n

/-- `a` is the `_LO` of a pair (R16). -/
def isLo (a : Nat) : Bool := isWriteLo a || isReadLo a

/-- Key of a requester's half at `a`. -/
def halfKey (who : Requester) (a : Nat) : Nat := (match who with
  | .host => 0
  | .mgmt => 2 ^ 20) + a

/-! ### Writes -/

/-- A write by the class of each bit (R17): RW at once, RWS to the shadow, W1C cleared by ones. -/
def State.plainWrite (s : State) (a v : Nat) : State :=
  match rowAt a with
  | none => s
  | some r =>
    let w := BitVec.ofNat 32 v
    let rw := BitVec.ofNat 32 r.rw
    let x := ((s.regW a &&& ~~~rw) ||| (w &&& rw)) &&& ~~~(w &&& BitVec.ofNat 32 r.w1c)
    let s := s.setReg a x.toNat
    if r.rws = 0 then s
    else s.setSh a ((s.shW a &&& ~~~(BitVec.ofNat 32 r.rws)) ||| (w &&& BitVec.ofNat 32 r.rws)).toNat

/-- Both halves of a pair take effect (R16); the bases of a ring keep their value while the ring is enabled (JOB_ registers, chapter 20). -/
def State.pairWrite (s : State) (lo : Nat) (vlo : Option Nat) (vhi : Nat) : State :=
  if (List.range 8).any fun r => s.ringEn r && (lo = JOB_SQ_BASE_LO r || lo = JOB_CQ_BASE_LO r) then s
  else
    let s := match vlo with
      | some v => s.plainWrite lo v
      | none => s
    s.plainWrite (lo + 4) vhi

/-- Ones written to a status register clear their bits and re-arm their vectors, `base` the vector of bit 0 (R483). -/
def State.irqClear (s : State) (a base v : Nat) : State :=
  let t := s.plainWrite a v
  (List.range 27).foldl (fun t e => if bitOf (s.reg a) e && !bitOf (t.reg a) e then t.msixRearm (base + e) else t) t

/-- A write of an enable register: an event enabled while its bit is set sends its message (R483). -/
def State.irqEnable (s : State) (en stat base v : Nat) : State :=
  let t := s.plainWrite en v
  (List.range 27).foldl (fun t e => if bitOf (t.reg en) e && !bitOf (s.reg en) e && bitOf (t.reg stat) e then t.msix (base + e) else t) t

/-! ### Snapshots (R191, R192) -/

/-- The registers with an RO field called a count, with the bits of that field (R191, R85, R162, R193, R318, R393). (DEDUCED:
notes/assumptions/27.md) -/
def roCounts (dies : Nat) : List (Nat × Nat) :=
  let all (a : Nat) : Nat × Nat := (a, 0xFFFFFFFF)
  let part (a : Nat) (f : Fd) : Nat × Nat := (a, (2 ^ f.w - 1) * 2 ^ f.lsb)
  [all CMP_IN_BYTES_LO, all CMP_IN_BYTES_HI, all CMP_OUT_BYTES_LO, all CMP_OUT_BYTES_HI, all NVM_DIFF, all JOB_QUEUE, all KNOT_SEQ,
    part LANY_STATUS LANY_STATUS.HOST_WR, all TB_FRAME_LO, all TB_FRAME_HI] ++
    (List.range dies).flatMap (fun d => (List.range 16).flatMap fun n => [all (STR_PRBS_BITS_LO d n), all (STR_PRBS_BITS_HI d n)]) ++ (List.range 8).map (fun r => all (JOB_INFLIGHT r)) ++
    (List.range dies).map (fun d => all (DIE_OCCL_TILES d)) ++ (List.range dies).map (fun d => part (ECC_WHIP_STAT d) ECC_WHIP_STAT.UNREP)

/-- The bits of the register at `a` that are an RO count. -/
def countBits (dies a : Nat) : Nat := (((roCounts dies).find? fun x => x.1 = a).map (·.2)).getD 0

/-- The RC bits of the register at `a`. -/
def rcBits (a : Nat) : Nat := match rowAt a with
  | some r => r.rc
  | none => 0

/-- Two values of an RC register as one: counts add and saturate; the largest group cost and the lowest margin stay what they are.
(DEDUCED: notes/assumptions/27.md) -/
def rcJoin (a x y : Nat) : Nat :=
  let o := a % 0x10000
  if 0x10000 ≤ a && o = PE_COST_MAX 0 % 0x10000 then max x y
  else if 0x10000 ≤ a && o = CAL_PACE_MIN 0 % 0x10000 then (if sext 16 x ≤ sext 16 y then x else y)
  else min 0xFFFFFFFF (x + y)

/-- The registers of class RC that differ from their reset value, live or in the snapshot. -/
def State.rcKeys (s : State) : List Nat :=
  (((s.dev.regs.map (·.1)) ++ (s.dev.snap.map (·.1))).filter fun a => rcBits a != 0 && s.windowLive a).eraseDups

/-- What the snapshot holds of the register at `a`. -/
def State.snapVal (s : State) (a : Nat) : Nat := ((s.dev.snap.look none a).getD (resetWord s.dies a)).toNat

/-- The snapshot's values go back into the live counters. -/
def State.snapBack (s : State) : State :=
  let s := s.rcKeys.foldl (fun s a => s.setReg a (rcJoin a (s.reg a) (s.snapVal a))) s
  { s with dev := { s.dev with snap := [] } }

/-- The snapshot that was requested is taken; CHIP_SNAP_FRAME reports the frame of the request. (DEDUCED: notes/assumptions/27.md) -/
def State.snapTake (s : State) : State :=
  if !s.b CHIP_SNAP CHIP_SNAP.BUSY then s
  else
    let s := s.snapBack
    let s := s.rcKeys.foldl (fun (s : State) a =>
      { s with dev := { s.dev with snap := s.dev.snap.put none a (some (s.regW a)) } }.setReg a (resetWord s.dies a).toNat) s
    let s := ((roCounts s.dies).map (·.1)).foldl (fun (s : State) a => { s with dev := { s.dev with snap := s.dev.snap.put none a (some (s.regW a)) } }) s
    ((s.setF CHIP_SNAP CHIP_SNAP.BUSY 0).setF CHIP_SNAP CHIP_SNAP.VIEW 1).setPair CHIP_SNAP_FRAME_LO CHIP_SNAP_FRAME_HI 16 s.dev.knot.snapReq

/-- A return to live reads. -/
def State.snapLive (s : State) : State :=
  if s.b CHIP_SNAP CHIP_SNAP.VIEW then s.snapBack.setF CHIP_SNAP CHIP_SNAP.VIEW 0 else s

/-- A write of CHIP_SNAP. (DEDUCED: notes/assumptions/27.md) -/
def State.snapWrite (s : State) (v : Nat) : State :=
  let s := if CHIP_SNAP.LIVE.get v = 1 then s.snapLive else s
  if CHIP_SNAP.REQ.get v = 1 then (s.setF CHIP_SNAP CHIP_SNAP.BUSY 1).setKnot { s.dev.knot with snapReq := s.tbFrame } else s

/-! ### What each register's write does -/

/-- A write of the management port to the LANY_ block, the lock apart (R163 to R166). -/
def State.lanyWrite (s : State) (a v : Nat) : State :=
  if a = LANY_PAL_DATA then (s.lanyPalData (some (BitVec.ofNat 32 v))).2
  else if a = LANY_PROT_BASE || a = LANY_PROT_LEN then s.lanyProtWrite a v
  else if a = LANY_COMMIT then s.lanyCommitWrite v
  else if a = LANY_LOCK then s.lanyLockWrite v
  else s.plainWrite a v

/-- A write in the record store block; `f`: what goes wrong while a command writes. -/
def State.nvmRegWrite (s : State) (who : Requester) (f : NvmFail) (a v : Nat) : State :=
  let k := (a - 0x1800) / 0x40
  if a = NVM_BP then s.bpWrite who v
  else if a = NVM_BP_LOCK then s.bpLockWrite v
  else if k < 2 && a = NVM_CMD k then
    if NVM_CMD.GO.get v = 1 then s.nvmGo who k (NVM_CMD.OP.get v) f else s.plainWrite a v
  else if k < 2 && a = NVM_DATA k then (s.nvmData k (some (BitVec.ofNat 32 v))).2
  else s.plainWrite a v

/-- A write of a register of the chip window. -/
def State.chipWrite (s : State) (who : Requester) (f : NvmFail) (a v : Nat) : State :=
  if a = CHIP_MODE_REQ then s.modeReq who v
  else if a = CHIP_SNAP then s.snapWrite v
  else if a = KNOT_REQ then s.knotReqWrite v
  else if a = HOST_IRQ_STAT then s.irqClear a 0 v
  else if a = HOST_IRQ_JOB then s.irqClear a 32 v
  else if a = HOST_IRQ_EN then s.irqEnable a HOST_IRQ_STAT 0 v
  else if a = HOST_IRQ_JOB_EN then s.irqEnable a HOST_IRQ_JOB 32 v
  else if a = COIL_CTL then (s.plainWrite a v).plCheck
  else if a = BLY_CTL then (s.plainWrite a v).refreshSleep none
  else if a = PWR_CTL then (s.plainWrite a v).pwrClamp
  else if a = PWR_WAKE_REQ then (if PWR_WAKE_REQ.WAKE.get v = 1 then s.dormantWake 9 else s)
  else if 0x1800 ≤ a && a < 0x1C00 then s.nvmRegWrite who f a v
  else if 0x2C00 ≤ a && a < 0x3000 then s.lanyWrite a v
  else match (List.range 8).find? fun r => a = JOB_CTL r || a = JOB_SIZE r with
    | some r => if a = JOB_CTL r then s.jobCtlWrite r v else if s.ringEn r then s else s.plainWrite a v
    | none => s.plainWrite a v

/-- The strand that lane n of die d belongs to, by its lowest lane: the lane itself when the strand map names none. -/
def State.laneStrand (s : State) (d n : Nat) : Nat :=
  match s.img.strands.find? fun e => e.lane ≤ 16 * d + n && 16 * d + n < e.lane + e.width with
  | some e => e.lane
  | none => 16 * d + n

/-- A write of STR_n_PRBS_INJ: a burst of 0 bits ends at once, another injection when the lane transmits (R320, R323). -/
def State.injRun (s : State) (d n : Nat) : State :=
  let a := STR_PRBS_INJ d n
  if s.f a STR_PRBS_INJ.MODE = 2 && s.f a STR_PRBS_INJ.BURST = 0 then s.injDone d n 2
  else s.injNow (s.laneStrand d n) (16 * d + n - s.laneStrand d n)

/-- A write of a strand or lane register of lane n on die d. -/
def State.strWrite (s : State) (d n a v : Nat) : State :=
  let g := 16 * d + n
  let t := s.plainWrite a v
  if a = STR_CTL d n then (if STR_CTL.RETRAIN.get v = 1 then t.retrain g else if t.strandOk g then t.holding g else t)
  else if a = STR_PCMD d n then (if STR_PCMD.GO.get v = 1 then t.pcmdGo g else t)
  else if a = STR_SLEEP_CTL d n then t.sleepUpdate (t.announceFrame g) g
  else if a = STR_PRBS_CTL d n then (if STR_PRBS_CTL.GO.get v = 1 then t.prbsGo g (STR_PRBS_CTL.PATH.get v) else t)
  else if a = STR_PRBS_INJ d n then t.injRun d n
  else t

/-- A write of a layer register of slot n on die d. (DEDUCED: notes/assumptions/23.md) -/
def State.lyrWrite (s : State) (d n a v : Nat) : State :=
  let w := BitVec.ofNat 32 v
  if a = LYR_PAL_DATA d n && 4 ≤ n then (s.palData d n (some w)).2
  else if a = LYR_COEF_DATA d n && n < 4 then (s.coefData d n (some w)).2
  else if a = LYR_LUT_DATA d n then (s.lutData d n (some w)).2
  else if a = LYR_LUT_IDX d n && 2049 < LYR_LUT_IDX.IDX.get v then s.plainWrite a 0
  else if a = LYR_READY d n then s.readyWrite d n v
  else s.plainWrite a v

/-- A write of a register of die d's window. (DEDUCED: notes/assumptions/23.md) -/
def State.dieWrite (s : State) (d a v : Nat) : State :=
  let o := a % 0x10000
  if a = SRC_CTL d then s.srcCtlWrite d v
  else if 0x1000 ≤ o && o < 0x1700 then s.lyrWrite d ((o - 0x1000) / 0x100) a v
  else if a = LAMP_EOTF_LOAD d then s.eotfGo [d] v
  else if a = LAMP_OUT_LOAD d then s.outGo [d] v
  else if a = LAMP_DYN_CLR d then s.dynClr d v
  else if a = PE_FENCE_REQ d then
    (if PE_FENCE_REQ.GO.get v = 1 then s.setKnot { s.dev.knot with fenceReq := s.dev.knot.fenceReq ++ [(d, PE_FENCE_REQ.ENGINE.get v)] } else s)
  else if 0x4000 ≤ o && o < 0x5000 then s.strWrite d ((o - 0x4000) / 0x100) a v
  else if PCK_POS d 15 ≤ a && a < PCK_POS d 15 + 0x20 then (if s.bound15 s.reg d then s else s.plainWrite a v)
  else if MEM_PROT_BASE d 0 ≤ a && a < MEM_PROT_BASE d 0 + 64 then
    (if o % 8 = 0 then s.protBaseWrite d ((a - MEM_PROT_BASE d 0) / 8) v else s.protLenWrite d ((a - MEM_PROT_BASE d 0) / 8) v)
  else if a = CAL_TRIM_DATA d then s.trimData d (BitVec.ofNat 32 v)
  else if a = PWR_DIE_CTL d then (s.plainWrite a v).pwrClamp
  else s.plainWrite a v

/-- A 32-bit write to the register at `a`, in the chip window or the window of a live die, with the effect of R16 and R17. A `_LO` of a ring's
base that is written while the ring is enabled is held as any other and takes effect with a `_HI` written once EN is 0.
(DEDUCED: notes/assumptions/12.md) -/
def State.regEffect (s : State) (who : Requester) (f : NvmFail) (a v : Nat) : State :=
  if (rowAt a).isNone || !s.present a then s
  else if 0x2C00 ≤ a && a < 0x3000 && s.b LANY_LOCK LANY_LOCK.LOCK && !lanyOpen a then s.setF LANY_STATUS LANY_STATUS.LOCK_WR 1
  else if isWriteLo a then
    { s with dev := { s.dev with heldLo := s.dev.heldLo.put none (halfKey who a) (some (BitVec.ofNat 32 v)) } }
  else if isWriteLo (a - 4) then
    let k := halfKey who (a - 4)
    let lo := s.dev.heldLo.look none k
    let s : State := { s with dev := { s.dev with heldLo := s.dev.heldLo.put none k none } }
    s.pairWrite (a - 4) (lo.map (·.toNat)) v
  else if a < 0x10000 then s.chipWrite who f a v
  else s.dieWrite (winDie a) a v

/-- A register that takes writes only from the management port (R475, cause 0x3). -/
def mgmtOnly (a : Nat) : Bool :=
  a = PWR_WAKE_REQ || a = HOST_MGMT_IRQ_STAT || a = HOST_MGMT_IRQ_EN || (NVM_CMD 1 ≤ a && a < NVM_CMD 2)

/-- The BAR0 offsets that a write to offset `a` reaches: its own, in the window of a live die only (R3, R496); every live die's in the
broadcast window (R495); none in a reserved window (R14). -/
def State.writeTargets (s : State) (a : Nat) : List Nat :=
  if a < 0x10000 then [a]
  else if a < 0x90000 then (if s.live (winDie a) then [a] else [])
  else if 0xF0000 ≤ a && a < 0x100000 then s.liveDies.map fun d => dieBase d + a % 0x10000
  else []

/-- A full 32-bit write by requester `who` to BAR0 offset `a`: what only the management port may write is an access error of the host; a
broadcast GO of a table load is one write for all dies (R201). -/
def State.routeWrite (s : State) (who : Requester) (f : NvmFail) (a v : Nat) : State :=
  if who = .host && a < 0x10000 && (rowAt a).isSome && 0x2C00 ≤ a && a < 0x3000 then
    (s.countF LANY_STATUS LANY_STATUS.HOST_WR 1).accErr 2 a
  else if who = .host && a < 0x10000 && (rowAt a).isSome && mgmtOnly a then s.accErr 3 a
  else if 0xF0000 ≤ a && a % 0x10000 = LAMP_EOTF_LOAD 0 % 0x10000 then s.eotfGo s.liveDies v
  else if 0xF0000 ≤ a && a % 0x10000 = LAMP_OUT_LOAD 0 % 0x10000 then s.outGo s.liveDies v
  else (s.writeTargets a).foldl (fun s a => s.regEffect who f a v) s

/-! ### Reads -/

/-- A DATA register: what it reads and the step of its index. -/
def State.dataReg (s : State) (a : Nat) : Option (Word × State) :=
  if a = NVM_DATA 0 then some (s.nvmData 0 none)
  else if a = NVM_DATA 1 then some (s.nvmData 1 none)
  else if a = LANY_PAL_DATA then some (s.lanyPalData none)
  else if a < 0x10000 then none
  else s.dieData a

/-- Registers that are views of other state. -/
def State.viewReg (s : State) (who : Requester) (a : Nat) : Option Nat :=
  if a < 0x10000 then
    if a = CHIP_MODE_REQ then some ((s.req who).result % 4 * 2 ^ 30 + (s.req who).mode % 16)
    else if ERR_DIE 0 ≤ a && a < ERR_DIE 8 then some (if s.populated ((a - ERR_DIE 0) / 4) then s.errDie ((a - ERR_DIE 0) / 4) else 0)
    else if NVM_ZONE 0 ≤ a && a < NVM_ZONE 4 then some (s.nvmZoneView ((a - NVM_ZONE 0) / 4))
    else if a = NVM_WEAR then some s.nvmWearView
    else none
  else s.dieView a

/-- The snapshot answers for the register at `a`. -/
def State.inSnap (s : State) (a : Nat) : Bool := s.b CHIP_SNAP CHIP_SNAP.VIEW && (rcBits a != 0 || countBits s.dies a != 0)

/-- The value that the register at `a` holds for requester `who`: for RWS bits the shadow, or with `act` the active value; in the window of
a fenced die what it held at the fence (R496). -/
def State.regValue (s : State) (who : Requester) (act : Bool) (a : Nat) : Nat :=
  if (rowAt a).isNone || !s.present a || (0x10000 ≤ a && s.dies ≤ winDie a) then 0
  else if s.isFrozen a then Nat.land ((if act then s.dev.frozenAct else s.dev.frozen).get (resetWord s.dies) a).toNat (readBits a)
  else match s.dataReg a, s.viewReg who a with
    | some x, _ => x.1.toNat
    | none, some x => x
    | none, none =>
      let live := if act then s.reg a else s.shadowed a
      let m := countBits s.dies a
      let v := if !s.inSnap a then live else if m = 0 then s.snapVal a
        else Nat.lor (Nat.land (s.snapVal a) m) (Nat.land live (0xFFFFFFFF - m))
      Nat.land v (readBits a)

/-- The BAR0 offset that a read of `a` reaches: the broadcast window reads die 0 (R495). -/
def readTarget (a : Nat) : Nat := if 0xF0000 ≤ a && a < 0x100000 then a - 0xE0000 else a

/-- What requester `who` sees in the register at `a`, without any effect. -/
def State.seen (s : State) (who : Requester) (a : Nat) : Nat :=
  let a := readTarget a
  if 0x90000 ≤ a then 0
  else if a = KNOT_PEEK_DATA then
    let p := s.reg KNOT_PEEK_ADDR
    let p := if 0x90000 ≤ p && p < 0xF0000 then 0x90000 else readTarget p
    if 0x90000 ≤ p || p = KNOT_PEEK_DATA then 0 else s.regValue who true p
  else s.regValue who false a

/-- The LAST register that a read of the count at `a` arms again (R388, R373, R475). (DEDUCED: notes/assumptions/23.md) -/
def rearms (a : Nat) : Option Nat :=
  let d := winDie a
  if a < 0x10000 then
    if a = HOST_ACC_ERR_CNT then some HOST_ACC_ERR
    else if a = LANY_VIOL_CNT then some LANY_VIOL_ADDR_LO
    else if a = NVM_TIE_CNT then some NVM_TIE_LAST
    else none
  else if a = DIE_PIN_VIOL_CNT d then some (DIE_PIN_VIOL_ADDR_LO d)
  else if a = MEM_ADDR_ERR_CNT d then some (MEM_ADDR_ERR_ADDR_LO d)
  else if a = LAMP_NEUTRAL_CNT d then some (LAMP_NEUTRAL_ADDR_LO d)
  else if a = ECC_CE_CNT d then some (ECC_CE_LAST_LO d)
  else if a = ECC_UE_CNT d || a = ECC_REFUSED_CNT d then some (ECC_UE_LAST_LO d)
  else if a = ECC_UE_BG_CNT d then some (ECC_UE_BG_LAST_LO d)
  else none

/-- A read of a register of class RC clears it, live or in the snapshot (R17, R192). (DEDUCED: notes/assumptions/27.md) -/
def State.rcClear (s : State) (a : Nat) : State :=
  if rcBits a = 0 then s
  else
    let z := resetWord s.dies a
    let s := if s.inSnap a then { s with dev := { s.dev with snap := s.dev.snap.put none a (some z) } } else s.setReg a z.toNat
    match rearms a with
    | some k => s.unlatch k
    | none => s

/-- The effects of an aligned 32-bit read of the register at `a` (R16, R17): RC cleared, `_HI` latched, an index stepped, the fence cause
taken note of. -/
def State.readEffect (s : State) (who : Requester) (a : Nat) : State :=
  let t := readTarget a
  if 0x90000 ≤ t || (rowAt t).isNone || !s.present t || (0x10000 ≤ t && !s.live (winDie t)) then s
  else
    let s := match s.dataReg t with
      | some x => x.2
      | none => s
    let s := if isLo t then
        { s with dev := { s.dev with latchHi := s.dev.latchHi.put none (halfKey who (t + 4)) (some (BitVec.ofNat 32 (s.regValue who false (t + 4)))) } }
      else s
    let s := if who = .host && 0x10000 ≤ t && t = PE_FENCE_CAUSE (winDie t) then
        (s.setF (ERR_DIE (winDie t)) ERR_DIE.CELL 0).setF (ERR_DIE (winDie t)) ERR_DIE.BLOCK 0
      else s
    s.rcClear t

/-- An aligned 32-bit read: the value, which a `_HI` latched by the same requester replaces once (R16), and the state. -/
def State.readOnce (s : State) (who : Requester) (a : Nat) : Nat × State :=
  let t := readTarget a
  match s.dev.latchHi.look none (halfKey who t) with
  | some h => (h.toNat, { s with dev := { s.dev with latchHi := s.dev.latchHi.put none (halfKey who t) none } })
  | none => (s.seen who a, s.readEffect who a)

end Sys2Proof.Machine
end

