-- ==== Sys2Proof/Machine/Scrub.lean ====
section
/-! DEFINITION. Memory upkeep (R368, R384, R387 to R394): an uncorrectable error in an on-chip memory, the scrubber, the whipping units, soft
repair and its record; and the accesses that reach a DRAM controller by themselves. -/
namespace Sys2Proof.Machine

/-- Put the memory upkeep back. -/
def State.setMem (s : State) (m : MemSt) : State := { s with dev := { s.dev with mem := m } }

/-! ### Uncorrectable errors of on-chip memories (R368) -/

/-- The Coil tables are read again (MEMID 0x7). -/
def State.coilReread (s : State) : State :=
  match s.tableDie with
  | none => s
  | some d =>
    let s := s.setCoil { s.dev.coil with clips := s.readClips d }
    match s.plBuf s.dev.coil.act with
    | some p => s.setPlBuf s.dev.coil.act (some (s.readPlaylist d p.idx))
    | none => s

/-- A staged drive packet of strand g is lost: it is not sent and its segment underruns; `k` names it. -/
def State.loseStaged (s : State) (g k : Nat) : State :=
  let q := s.dev.scan.queue.look [] g
  match q[k % max 1 q.length]? with
  | some (.drive n a j i cs ls) =>
    let s := s.setScan { s.dev.scan with queue := s.dev.scan.queue.put [] g (q.filter (· != .drive n a j i cs ls)) }
    match s.img.segs[j]? with
    | some sg => ls.foldl (fun s y => s.drop n j sg y) s
    | none => s
  | _ => s

/-- A word of the strand and lamp buffers of die d is lost (MEMID 0x8). Where staging, carry and dynamic list lie in that memory is not
stated: `k`, a free value, names what the word held. (DEDUCED: notes/assumptions/42.md) -/
def State.loseBuffer (s : State) (d k : Nat) : State :=
  match k % 3 with
  | 0 => s.loseStaged (16 * d + k / 3 % 16) (k / 48)
  | 1 =>
    let ks := (s.dev.lamp.carry.map (·.1)).filter fun x => x / 2 ^ 34 = d
    match ks[k / 3 % max 1 ks.length]? with
    | some x => s.setLamp { s.dev.lamp with carry := s.dev.lamp.carry.put none x none }
    | none => s
  | _ =>
    let l := s.dev.lamp.dyn.look [] d
    s.setLamp { s.dev.lamp with dyn := s.dev.lamp.dyn.put [] d (l.eraseIdx (k / 3 % max 1 l.length)) }

/-- A word of the line memory of die d is lost (MEMID 0x3): the components read from it are 0 until the next fetch rewrites it. Where a
fetched line stands in the line memory is not stated: `k`, a free value, names the word. (DEDUCED: notes/assumptions/42.md) -/
def State.loseLine (s : State) (d k : Nat) : State :=
  let ks := (s.dev.comp.fetched.map (·.1)).filter fun x => x / 2 ^ 40 = d
  match ks[k / 8 % max 1 ks.length]? with
  | some x => match s.dev.comp.fetched.look none x with
    | some l => s.setComp { s.dev.comp with fetched := s.dev.comp.fetched.put none x (some { l with bad := k % 8 :: l.bad }) }
    | none => s
  | none => s

/-- What an uncorrectable error in word `w` of instance `inst` of memory `memid` on die d does. (DEDUCED: notes/assumptions/33.md) -/
def State.sramLost (s : State) (d memid inst w : Nat) : State :=
  match memid with
  | 1 => s.cellFence d inst 2
  | 2 => s.cellFence d inst 1
  | 3 => let x := s.draw; x.2.loseLine d x.1
  | 4 => s.setMem { s.dev.mem with badTable := (d, 4, inst * 2 ^ 20 + w) :: s.dev.mem.badTable }
  | 5 => s.setMem { s.dev.mem with badTable := (d, 5, w) :: s.dev.mem.badTable }
  | 6 => s.regionFault d 2
  | 7 => if d = 0 then s.coilReread else s
  | 8 => let x := s.draw; x.2.loseBuffer d x.1
  | _ => s

/-- Instance `inst` of memory `memid` on die d belongs to a fenced cell: it is no longer read or loaded (R256). -/
def State.cellDead (s : State) (d memid inst : Nat) : Bool := (memid = 1 || memid = 2) && cellFenced (s.cellsNow d) inst

/-- Instance and word of an on-chip memory as the LAST registers hold them (R388). -/
def sramAt (inst w : Nat) : Nat := inst % 2 ^ 12 * 2 ^ 20 + w % 2 ^ 20

/-- The user of an on-chip memory reads word `w` with syndrome `sy`: a correctable word is corrected and counted, an uncorrectable one acts
as R368 says (R239, R387). -/
def State.sramRead (s : State) (d memid inst w sy : Nat) : State :=
  if memid = 0 || 8 < memid || s.cellDead d memid inst then s
  else match eccDecode sy with
  | .ok => s
  | .data _ | .check _ => s.ceEvent d memid sy 0 (sramAt inst w)
  | .ue => (s.ueEvent d memid sy 0 (sramAt inst w)).sramLost d memid inst w

/-! ### Batches of whipping (R392) -/

/-- Batches of a lap of whipping unit `u` on die d: a block unit's, or the region unit's. -/
def whipLap (d u : Nat) : Nat := if u < 8 then 3584 else if d = 0 then 17024 else 16512

/-- The memories that a unit works through, in order: MEMID, its instances, the batches of each macro (R368). -/
def whipMems (d u : Nat) : List (Nat × List Nat × List Nat) :=
  if u < 8 then [(1, (List.range 16).map (16 * u + ·), [64, 64, 64]), (2, (List.range 16).map (16 * u + ·), [32])]
  else
    [(3, List.range 96, [128]), (4, List.range 8, [128, 128, 128, 48]), (5, [0], [128, 128, 128]), (6, [0], [32, 32, 32, 32])] ++
      (if d = 0 then [(7, [0], [128, 128, 128, 128])] else []) ++ [(8, [0], [32, 32, 32, 32, 32, 32, 32, 32])]

/-- The macro and the batch in it of batch `p` of an instance. -/
def macroOf : List Nat → Nat → Nat × Nat
  | [], p => (0, p)
  | n :: t, p => if p < n then (0, p) else ((macroOf t (p - n)).1 + 1, (macroOf t (p - n)).2)

/-- Batch `p` of a lap: MEMID, instance, macro, first of its 4 rows. (DEDUCED: notes/assumptions/42.md) -/
def whipBatch : List (Nat × List Nat × List Nat) → Nat → Nat × Nat × Nat × Nat
  | [], _ => (0, 0, 0, 0)
  | (m, is, ms) :: t, p =>
    let n := ms.sum
    if p < is.length * n then (m, is.getD (p / n) 0, (macroOf ms (p % n)).1, 4 * (macroOf ms (p % n)).2)
    else whipBatch t (p - is.length * n)

/-- First word of a macro in its instance: a macro row holds 16 words (R367). -/
def macroBase (memid mac : Nat) : Nat :=
  let bs := match (whipMems 0 8 ++ whipMems 0 0).find? (·.1 = memid) with
    | some e => e.2.2
    | none => []
  64 * (bs.take mac).sum

/-- The whipping unit of an instance of a memory: a block unit or the region unit. -/
def whipUnit (memid inst : Nat) : Nat := if memid = 1 || memid = 2 then inst / 16 % 8 else 8

/-- Whipping holds word `w` of an instance: it lies in the batch under test (R392). -/
def State.whipHolds (s : State) (d memid inst w : Nat) : Bool :=
  let u := whipUnit memid inst
  let b := whipBatch (whipMems d u) (s.dev.mem.whipPos.look 0 (d * 9 + u))
  let lo := macroBase memid b.2.2.1 + 16 * b.2.2.2
  s.dev.mem.whipBusy.look false (d * 9 + u) && b.1 = memid && b.2.1 = inst && lo ≤ w && w < lo + 64

/-- Rows of macro `mac` of an instance of a memory on die d (R367, R368); none where there is no such macro. -/
def macroRows (d memid inst mac : Nat) : Option Nat :=
  match memid with
  | 1 => if inst < 128 && mac < 3 then some 256 else none
  | 2 => if inst < 128 && mac = 0 then some 128 else none
  | 3 => if inst < 96 && mac = 0 then some 512 else none
  | 4 => if inst < 8 && mac < 3 then some 512 else if inst < 8 && mac = 3 then some 192 else none
  | 5 => if inst = 0 && mac < 3 then some 512 else none
  | 6 => if inst = 0 && mac < 4 then some 128 else none
  | 7 => if d = 0 && inst = 0 && mac < 4 then some 512 else none
  | 8 => if inst = 0 && mac < 8 then some 128 else none
  | _ => none

/-! ### The scrubber -/

/-- The enabled protected regions of die d, as offset ranges. -/
def State.scrubbed (s : State) (d : Nat) : List (Nat × Nat) :=
  ((List.range 8).filter fun k => s.protEn d k).map fun k => (s.protLo d k, s.protLo d k + s.protLen d k)

/-- The lowest protected word of die d at or above offset `o`. -/
def State.scrubAt (s : State) (d o : Nat) : Option Nat :=
  (s.scrubbed d).foldl (fun m r =>
    let x := max o r.1
    if r.2 ≤ x then m else match m with
      | some y => some (min x y)
      | none => some x) none

/-- The next protected word in address order, from the lowest again after the last. -/
def State.scrubNext (s : State) (d : Nat) : Option Nat := (s.scrubAt d (s.dev.mem.scrub.look 0 d)).or (s.scrubAt d 0)

/-- The scrubber has come to the DRAM word at offset `o` of die d: its lap may begin or pass the last word there. -/
def State.lapDram (s : State) (d o : Nat) : State :=
  let m := s.dev.mem
  let first := m.lapFrom.look 0 d = 0
  let wrap := (m.lapWrap.look false d && !first) || (s.scrubAt d (o + 8)).isNone
  s.setMem { m with lapFrom := if first then m.lapFrom.put 0 d (o + 1) else m.lapFrom, lapWrap := m.lapWrap.put false d wrap }

/-- Every protected DRAM word of die d has been read in the lap: there is none, or the scrubber has come round to where the lap began. -/
def State.dramLapped (s : State) (d : Nat) : Bool := match s.scrubNext d with
  | none => true
  | some o => s.dev.mem.lapFrom.look 0 d != 0 && s.dev.mem.lapWrap.look false d && s.dev.mem.lapFrom.look 0 d ≤ o + 1

/-- Key of an SRAM word of a die. -/
def lapKey (d memid inst w : Nat) : Nat := d * 2 ^ 40 + memid * 2 ^ 36 + inst % 2 ^ 12 * 2 ^ 20 + w % 2 ^ 20

/-- Words of an instance of a memory on die d: 16 to a row (R367, R368). -/
def sramWords (d memid inst : Nat) : Nat := ((List.range 8).map fun k => 16 * (macroRows d memid inst k).getD 0).sum

/-- The memories of die d with their instances that are read (R256, R368). -/
def State.sramInsts (s : State) (d : Nat) : List (Nat × Nat) :=
  ((List.range 9).flatMap fun m => (List.range 128).map fun i => (m, i)).filter fun x => sramWords d x.1 x.2 != 0 && !s.cellDead d x.1 x.2

/-- Every SRAM word of die d has been read in the lap. -/
def State.sramLapped (s : State) (d : Nat) : Bool := (s.sramInsts d).all fun x =>
  (s.dev.mem.lapSram.filter fun e => e.1 / 2 ^ 20 = lapKey d x.1 x.2 0 / 2 ^ 20).length = sramWords d x.1 x.2

/-- The scrubber has come to an SRAM word of die d. -/
def State.lapWord (s : State) (d memid inst w : Nat) : State :=
  if w < sramWords d memid inst then s.setMem { s.dev.mem with lapSram := s.dev.mem.lapSram.put false (lapKey d memid inst w) true } else s

/-- A lap of die d that is complete ends, `ms` its duration where the command gives one (R391). -/
def State.lapEnd (s : State) (d : Nat) (ms : Option Nat) : State :=
  if !s.live d || !s.dramLapped d || !s.sramLapped d then s
  else
    let m := s.dev.mem
    let s := s.setMem { m with
      lapFrom := m.lapFrom.put 0 d 0, lapWrap := m.lapWrap.put false d false, lapSram := m.lapSram.filter fun e => e.1 / 2 ^ 40 != d }
    match ms with
    | some n => s.setReg (ECC_SCRUB_LAP_MS d) (n % 2 ^ 32)
    | none => let x := s.draw; x.2.setReg (ECC_SCRUB_LAP_MS d) x.1

/-- The scrubber reads the next protected word of die d, in which the code bits `upset` have flipped (R389, R390).
(DEDUCED: notes/assumptions/42.md, DEDUCED: notes/assumptions/43.md) -/
def State.scrubDram (s : State) (d : Nat) (upset : List Nat) : State :=
  if s.f (ECC_SCRUB_CTL d) ECC_SCRUB_CTL.RATE = 0 then s
  else match s.scrubNext d with
    | none => s
    | some o =>
      let a := d * 2 ^ 37 + o
      let s := (s.setMem { s.dev.mem with scrub := s.dev.mem.scrub.put 0 d (o + 8) }).lapDram d o
      if (s.mergeOf a).isSome then s
      else
        let s := s.upset a upset
        let sy := s.syndrome a
        match eccDecode sy with
        | .ok => s
        | .data _ | .check _ => (s.ceEvent d 0 sy 7 a).putWord a (s.wordVal a)
        | .ue => (s.poison a).ueBgEvent d 0 sy 7 a

/-- The scrubber reads word `w` of an on-chip memory with syndrome `sy`; it skips words that whipping holds (R389), and a fenced cell's
memories are not read (R256). (DEDUCED: notes/assumptions/42.md) -/
def State.scrubSram (s : State) (d memid inst w sy : Nat) : State :=
  if s.cellDead d memid inst || s.whipHolds d memid inst w then s
  else match eccDecode sy with
  | .ok => s
  | .data _ | .check _ => s.ceEvent d memid sy 0 (sramAt inst w)
  | .ue => (s.ueBgEvent d memid sy 0 (sramAt inst w)).sramLost d memid inst w

/-- Unit `u` of die d is in Nap or Deep, where its scrub and whipping are stopped (R457). -/
def State.napping (s : State) (d u : Nat) : Bool := 2 ≤ s.pwr d u

/-- A scrub read on die d; `lap`: the milliseconds of the lap, if it ends with this read (R391). -/
def State.scrubRead (s : State) (d : Nat) (what : ScrubWhat) (lap : Option Nat) : State :=
  if !s.up || !s.live d || !s.b (ECC_SCRUB_CTL d) ECC_SCRUB_CTL.EN then s
  else
    let s := match what with
      | .dram u => if s.napping d 8 then s else s.scrubDram d u
      | .sram m i w y => if 1 ≤ m && m ≤ 8 && !s.napping d (whipUnit m i) then (s.scrubSram d m i w y).lapWord d m i w else s
    s.lapEnd d lap

/-! ### Whipping (R392, R393) -/

/-- A unit of die d starts its next batch. -/
def State.whipStart (s : State) (d u : Nat) : State :=
  if !s.up || !s.live d || 8 < u || s.napping d u || !s.b (ECC_WHIP_CTL d) ECC_WHIP_CTL.EN || s.dev.mem.whipBusy.look false (d * 9 + u) then s
  else s.setMem { s.dev.mem with whipBusy := s.dev.mem.whipBusy.put false (d * 9 + u) true }

/-- An entry of the repair table (R394). -/
def repairEntry (memid inst mac kind addr : Nat) : Nat × Nat := (memid * 2 ^ 28 + inst % 2 ^ 12 * 2 ^ 16 + mac % 256 * 2 ^ 8 + kind, addr % 2 ^ 11)

/-- Every spare assignment in force on die d: the hard repairs of its fuse map, the soft repairs applied at reset, those of self-test and
those of whipping (R47, R49, R393). -/
def State.assigned (s : State) (d : Nat) : List (Nat × Nat) :=
  (s.dev.fuse.look noFuse d).spares ++ s.dev.mem.applied.look [] d ++ s.dev.mem.tested.look [] d ++ s.dev.mem.repairs.look [] d

/-- The macro and the kind that an assignment names. -/
def assignsOf (e : Nat × Nat) : Nat × Nat := (e.1 / 256, e.1 % 2)

/-- Free spares of the kind and the macro that the assignment `e` names, out of 2 rows and 4 columns (R367). -/
def State.freeSpares (s : State) (d : Nat) (e : Nat × Nat) : Nat :=
  match macroRows d (e.1 / 2 ^ 28) (e.1 / 2 ^ 16 % 2 ^ 12) (e.1 / 2 ^ 8 % 2 ^ 8) with
  | none => 0
  | some _ => (if e.1 % 2 = 0 then 2 else 4) - ((s.assigned d).filter fun x => assignsOf x = assignsOf e).length

/-- An assignment of kind `kind` (0 row, 1 column): while a spare of it is free and the table has room, an entry; else an unrepaired
fault, which fences a cell (R393). -/
def State.repairOne (s : State) (d memid inst mac kind addr : Nat) : State :=
  let t := s.dev.mem.repairs.look [] d
  let e := repairEntry memid inst mac kind addr
  if 0 < s.freeSpares d e && t.length < 32 then
    let t := t ++ [e]
    let s := s.setMem { s.dev.mem with repairs := s.dev.mem.repairs.put [] d t, unsaved := if s.dev.mem.unsaved.contains d then s.dev.mem.unsaved else d :: s.dev.mem.unsaved }
    s.setF (ECC_WHIP_STAT d) ECC_WHIP_STAT.REPAIRS t.length
  else
    let s := (s.countF (ECC_WHIP_STAT d) ECC_WHIP_STAT.UNREP 1).leaf d (ECC_STATUS d) ECC_STATUS.WHIP_UNREP
    if memid = 1 then s.cellFence d inst 2 else if memid = 2 then s.cellFence d inst 1 else s

/-- The batch of unit `u` on die d ends: `cells` are its failing bit cells (row in the batch, bit column). A fenced cell's memories are not
tested (R256). (DEDUCED: notes/assumptions/42.md) -/
def State.whipDone (s : State) (d u : Nat) (cells : List (Nat × Nat)) : State :=
  if !s.up || !s.live d || !s.dev.mem.whipBusy.look false (d * 9 + u) then s
  else
    let p := s.dev.mem.whipPos.look 0 (d * 9 + u)
    let (m, i, mac, row) := whipBatch (whipMems d u) p
    let next := (p + 1) % whipLap d u
    let s := s.setMem { s.dev.mem with whipBusy := s.dev.mem.whipBusy.put false (d * 9 + u) false, whipPos := s.dev.mem.whipPos.put 0 (d * 9 + u) next }
    let s := if u = 8 && next = 0 then s.setF (ECC_WHIP_STAT d) ECC_WHIP_STAT.LAPS (s.f (ECC_WHIP_STAT d) ECC_WHIP_STAT.LAPS + 1) else s
    if s.cellDead d m i then s
    else match (cells.map (·.2)).eraseDups with
    | [] => s
    | [c] => s.repairOne d m i mac 1 c
    | _ => ((cells.map (·.1)).eraseDups).foldl (fun s r => s.repairOne d m i mac 0 (row + r)) s

/-- The soft repair record of die d (R394): its entries. -/
def State.repairRecord (s : State) (d : Nat) : List (Nat × Nat) :=
  match s.nvmPeek 0x0040 d with
  | none => []
  | some p => (List.range (wordAt p 0 % 128)).map fun i => (wordAt p (4 + 8 * i), wordAt p (8 + 8 * i))

/-- The repair record of die d is written (R394). -/
def State.repairSave (s : State) (d : Nat) (f : NvmFail) : State :=
  if !s.dev.mem.unsaved.contains d || !s.b (ECC_WHIP_CTL d) ECC_WHIP_CTL.SAVE || !s.up || !s.live d then s
  else
    let s := (s.nvmGet 0x0040 d).2
    let es := ((s.repairRecord d ++ s.dev.mem.repairs.look [] d).eraseDups).take 64
    let s := s.setMem { s.dev.mem with unsaved := s.dev.mem.unsaved.filter (· != d) }
    let r := s.nvmWrite 0x0040 d (leBytes 4 es.length ++ es.flatMap fun e => leBytes 4 e.1 ++ leBytes 4 e.2) f
    if r.1 = .ok then r.2.2 else r.2.2.leaf d (ECC_STATUS d) ECC_STATUS.SAVE_ERR

/-! ### Commands -/

/-- A write reaches the DRAM controller of its address. -/
def execDramWrite (a : Nat) (data : List Byte) (who : DramReq) (s : State) : Out :=
  .next (s.run fun s =>
    let c := who.cls % 8
    if !s.up then s else ((s.demand (dieOf (a % 2 ^ 40))).write ⟨c, false, c = 5 || c = 6, none, who.die % 8⟩ (a % 2 ^ 40) data).1)

/-- A read; `upset` are the code bits that have flipped in its first word, where there is memory, since it was written.
(DEDUCED: notes/assumptions/43.md) -/
def execDramRead (a n : Nat) (who : DramReq) (upset : List Nat) (s : State) : Out :=
  .next (s.run fun s => if !s.up then s else
    let s := s.demand (dieOf (a % 2 ^ 40))
    ((if upset.isEmpty || s.addrBad (wordOf (a % 2 ^ 40)) then s else s.upset (wordOf (a % 2 ^ 40)) upset).read (who.cls % 8) (who.die % 8) (a % 2 ^ 40) n).2.2)

/-- No write has reached the merge entry of the word at `a` for 64 cycles. -/
def execMergeTimeout (a : Nat) (s : State) : Out :=
  .next (s.run fun s => match s.mergeOf (wordOf (a % 2 ^ 40)) with
    | some m => s.leave m
    | none => s)

/-- A scrub read. -/
def execScrubRead (d : Nat) (what : ScrubWhat) (lap : Option Nat) (s : State) : Out := .next (s.run (·.scrubRead d what lap))

/-- No lap within 60 s (R391). (DEDUCED: notes/assumptions/44.md) -/
def execScrubStarved (d : Nat) (s : State) : Out :=
  .next (s.runDev fun s => if !s.up || !s.live d || !s.b (ECC_SCRUB_CTL d) ECC_SCRUB_CTL.EN then s
    else (s.setF (ECC_STATUS d) ECC_STATUS.SCRUB_STARVED 1).ev .scrubStarved)

/-- A whipping batch starts. -/
def execWhipBatchStart (d u : Nat) (s : State) : Out := .next (s.runDev (·.whipStart d u))

/-- A whipping batch ends: failing cells that the upward elements of March C− found, the downward ones and the last (R392, R393). -/
def execWhipBatchDone (d u : Nat) (up down last : List (Nat × Nat)) (s : State) : Out := .next (s.run (·.whipDone d u (up ++ down ++ last)))

/-- The repair record is due. -/
def execRepairSave (d : Nat) (fail : NvmFail) (s : State) : Out := .next (s.runDev (·.repairSave d fail))

end Sys2Proof.Machine
end

