-- ==== Sys2Proof/Machine/Boot.lean ====
section
/-! DEFINITION. Start-up and the structure image's loader (R42 to R76, R504, R505, R517, R520): reset pin and supplies, fuse load,
self-test, image sources, checks, installation, Reload. -/
namespace Sys2Proof.Machine

/-! ### RESET_L and the supplies (R42, R505, R517) -/

/-- A reset by RESET_L or by the supplies: mode Reset, REASON 0x00, RESET_L low. -/
def State.resetPin (s : State) : State :=
  let s := s.resetDev
  s.setBoot { s.dev.boot with resetL := false }

/-- RESET_L rises: the straps are sampled and the fuse load starts (R42, R43). -/
def State.release (s : State) (bootMode : Nat) : State :=
  (s.setBoot { s.dev.boot with resetL := true, strapPins := bootMode % 4 }).fuseStart

/-! ### Fuse load and self-test -/

/-- Die d is fenced at start-up (R46, R52): its window reads reset values, its lanes stay off. (DEDUCED: notes/assumptions/16.md) -/
def State.startFence (s : State) (d : Nat) : State :=
  let s := ((s.setBitF CHIP_DIES CHIP_DIES.FENCED d).setF (ERR_FENCE d) ERR_FENCE.CAUSE 5).errDieBit ERR_STATUS.DIE_FENCE d
  let s := (s.setF (DIE_SELFTEST d) DIE_SELFTEST.DIE_FAIL 1).setPwr d 8 4
  if d = 1 then (s.setF NVM_STATUS NVM_STATUS.DIE1_OK 0).membersUpdate
  else if d = 0 then s.setF NVM_STATUS NVM_STATUS.DIE0_OK 0
  else s

/-- The part halts in Test (R46, R52). (DEDUCED: notes/assumptions/15.md) -/
def State.haltTest (s : State) : State :=
  ((s.setF CHIP_BOOT_STATUS CHIP_BOOT_STATUS.STAGE 0xF).setF CHIP_BOOT_STATUS CHIP_BOOT_STATUS.ERR 0xB).setMode .test 0xA

/-- One entry of die d's soft repair record at reset (R47): applied when its macro has a free spare of its kind, else ignored and counted. -/
def State.applySoft (s : State) (d : Nat) (e : Nat × Nat) : State :=
  if s.freeSpares d e = 0 then s.countF (DIE_SELFTEST d) DIE_SELFTEST.REPAIR_SKIP 1
  else s.setMem { s.dev.mem with applied := s.dev.mem.applied.put [] d (s.dev.mem.applied.look [] d ++ [e]) }

/-- The repairs of die d at reset (R47): the hard ones of its fuse map stand in `fuse`; those of the soft repair record follow in order. -/
def State.applyRepairs (s : State) (d : Nat) : State :=
  let s := (s.nvmGet 0x0040 d).2
  (s.repairRecord d).foldl (fun s e => s.applySoft d e) s

/-- The straps as the part has them after the fuse load: sampled again after an internal reset (R44), else at the rise of RESET_L (R43). -/
def State.sampleStraps (s : State) (straps : Nat) : State :=
  if !s.dev.boot.resample then s
  else
    (s.setBoot { s.dev.boot with resample := false, strapPins := straps % 4 }).setF CHIP_BOOT_STATUS CHIP_BOOT_STATUS.STRAP (straps % 4)

/-- The fuse load ends (R44, R45, R46, R47, R431, R504): `fuses` are the fuse maps of the dies, `straps` the strap pins at that time, `link`
speed and width at which the endpoint's link trains. (DEDUCED: notes/assumptions/22.md, DESIGN CHOICE: notes/assumptions/46.md) -/
def State.fuseDone (s : State) (fuses : List FuseMap) (straps : Nat) (link : Nat × Nat) : State :=
  if s.dev.boot.fused || s.f CHIP_BOOT_STATUS CHIP_BOOT_STATUS.STAGE != 1 then s
  else
    let bad := (List.range s.dies).filter fun d => (fuses.getD d { noFuse with slot := d }).slot != d
    let s := (s.setBoot { s.dev.boot with fused := true }).sampleStraps straps
    let s := (List.range s.dies).foldl (fun (s : State) d =>
      { s with dev := { s.dev with fuse := s.dev.fuse.put noFuse d (fuses.getD d { noFuse with slot := d }) } }) s
    let s := bad.foldl (fun s d => s.startFence d) s
    let s := s.nvmScan
    let s := s.liveDies.foldl (fun s d => s.applyRepairs d) s
    let s := (List.range s.dies).foldl (fun s d => s.supply d 30) s
    let s := if s.dev.host.perst then s else (s.setF HOST_LINK HOST_LINK.SPEED link.1).setF HOST_LINK HOST_LINK.WIDTH link.2
    let s := (s.setF CHIP_BOOT_STATUS CHIP_BOOT_STATUS.STAGE 2).setMode .test (s.f CHIP_MODE CHIP_MODE.REASON)
    if bad.contains 0 then s.haltTest else s

/-- The blocks that a set of failing cells fences: a fifth cell of one block would be fenced (R24). -/
def blocksOf (cells : List Nat) : List Nat := (List.range 8).filter fun b => 5 ≤ (cells.filter fun e => e / 16 = b).length

/-- A die on which self-test finds nothing: the outcome of a die of which the command says nothing. -/
def DieTest.clean : DieTest := ⟨0, [], [], [], [], [], 64, 0xFF, 8533⟩

/-- A fault of item 3 is repaired from a free spare of its macro, which lasts until reset; false: there is none (R49). -/
def State.testRepair (s : State) (d : Nat) (m : MemFault) : Bool × State :=
  let e := repairEntry m.memid m.inst m.mac m.kind m.addr
  if s.freeSpares d e = 0 then (false, s)
  else (true, (s.countF (DIE_SELFTEST d) DIE_SELFTEST.SOFT_REPAIRS 1).setMem
    { s.dev.mem with tested := s.dev.mem.tested.put [] d (s.dev.mem.tested.look [] d ++ [e]) })

/-- Item 3 on die d (R49): the faults that no spare repairs, and the state with the repairs made. -/
def State.marchTest (s : State) (d : Nat) (ms : List MemFault) : List MemFault × State :=
  ms.foldl (fun x m => let r := x.2.testRepair d m; if r.1 then (x.1, r.2) else (x.1 ++ [m], r.2)) ([], s)

/-- A pace monitor chain measured at `m` is within ±25 % of its fused nominal `n` (R48, item 6). -/
def chainOk (m n : Nat) : Bool := 3 * n ≤ 4 * m && 4 * m ≤ 5 * n

/-- The items of R48 that fail on die d, as FAIL_ITEM: bit k − 1 for item k; `left` are the faults of item 3 that stay. -/
def State.failItems (s : State) (d : Nat) (t : DieTest) (left : List MemFault) : Nat :=
  let nom := (s.fuseMap d).nominal
  let fails : List Bool :=
    [bitOf t.items 0, bitOf t.items 1, !left.isEmpty, !t.sram.all checkerPasses, bitOf t.items 4 || !t.dram.all checkerPasses || t.chOk % 256 != 255,
      (List.range nom.length).any (fun i => !chainOk (t.chains.getD i (nom.getD i 0)) (nom.getD i 0)), t.engines.any (· < 128)]
  (List.range 7).foldl (fun n k => if fails.getD k false then n + 2 ^ k else n) 0

/-- The cells of die d that items 3 and 7 fence (R48, R49). -/
def testCells (t : DieTest) (left : List MemFault) : List Nat :=
  (((left.filter fun m => m.memid = 1 || m.memid = 2).map (·.inst) ++ t.engines).filter (· < 128)).eraseDups

/-- Self-test fences the die: an item that fences it (`items`, as FAIL_ITEM), a memory fault outside the cells, or a fifth block (R48, R49,
R24). -/
def dieTestFails (items : Nat) (left : List MemFault) (cells : List Nat) : Bool :=
  [1, 2, 4, 5, 6].any (fun k => bitOf items (k - 1)) || left.any (fun m => m.memid != 1 && m.memid != 2) || 5 ≤ (blocksOf cells).length

/-- Self-test of die d ends (R48, R49, DIE_SELFTEST, MEM_SIZE). (DEDUCED: notes/assumptions/18.md) -/
def State.dieTested (s : State) (d : Nat) (t : DieTest) : State :=
  let r := s.marchTest d t.faults
  let items := s.failItems d t r.1
  let bad := testCells t r.1
  let s := r.2
  let blocks := blocksOf bad
  let cells := (List.range 128).filter fun e => bad.contains e || blocks.contains (e / 16)
  let s := ((s.setF (MEM_SIZE d) MEM_SIZE.MT_S t.mts).setF (MEM_SIZE d) MEM_SIZE.CH_OK t.chOk).setF (MEM_SIZE d) MEM_SIZE.GIB (min 64 t.gib)
  let s := s.markCells d cells
  let s := match bad.getLast? with
    | none => s
    | some e =>
      let s := s.fenceCause d e (if blocks.contains (e / 16) then 6 else 4)
      s.leafOf d fun s =>
        let s := if bad.any (fun e => !blocks.contains (e / 16)) then s.setF (ERR_DIE d) ERR_DIE.CELL 1 else s
        if blocks.isEmpty then s else s.setF (ERR_DIE d) ERR_DIE.BLOCK 1
  let a := DIE_SELFTEST d
  let s := ((s.setF a DIE_SELFTEST.DONE 1).setF a DIE_SELFTEST.FAIL_ITEM items).setF a DIE_SELFTEST.BLOCKS_FENCED blocks.length
  let s := s.setF a DIE_SELFTEST.CELLS_FENCED cells.length
  if dieTestFails items r.1 bad then s.startFence d else s

/-- The sources that the sampled straps name, in order (R43). -/
def strapSources : Nat → List ImgSource
  | 0 => [.spiPrimary, .spiSecondary]
  | 1 => []
  | 2 => [.store 0, .store 1]
  | _ => [.spiPrimary, .spiSecondary, .store 0, .store 1]

/-- Self-test has ended on all dies (R52): Test halts when die 0 failed, else Load begins. (DEDUCED: notes/assumptions/7.md) -/
def State.selftestDone (s : State) (results : List DieTest) : State :=
  if s.mode != .test || s.f CHIP_BOOT_STATUS CHIP_BOOT_STATUS.STAGE != 2 || (List.range s.dies).any (fun d => (s.pace d).cmd.isSome) then s
  else
    let s := (List.range s.dies).foldl (fun s d => if s.live d then s else s.setF (DIE_SELFTEST d) DIE_SELFTEST.DONE 1) s
    let s := s.liveDies.foldl (fun s d => s.dieTested d (results.getD d DieTest.clean)) s
    if s.fenced 0 then s.haltTest
    else
      let s := s.setMode .load (s.f CHIP_MODE CHIP_MODE.REASON)
      let strap := s.f CHIP_BOOT_STATUS CHIP_BOOT_STATUS.STRAP
      if strap = 1 then s.setF CHIP_BOOT_STATUS CHIP_BOOT_STATUS.STAGE 8
      else
        let s := s.stageTake
        (s.setBoot { s.dev.boot with sources := strapSources strap }).bootNext

/-! ### Installation (R65, R66, R74) -/

/-- What stands behind the LYR_ and LAMP_ registers is as their reset values show it (R74): palettes of slots 4 to 6 0, standard
coefficients, identity tables, an empty dynamic list, no load in progress; the overdrive history starts again (R226). -/
def State.tablesReset (s : State) : State :=
  let v := s.dev
  { s with
    dev := { v with
      comp := { v.comp with pal := v.comp.pal.filter (·.1 / 512 % 8 = 7), coef := [], lut := [] }
      lamp := { v.lamp with eotfLoad := [], outLoad := [], dyn := [], dynNew := [], dynClr := [], histLast := [] } } }

/-- The register blocks of a die window that an installation in Reload returns to their reset values: SRC_, LYR_, LAMP_, PE_, SCAN_, PCK_
(R74). The cells and blocks that are fenced stay fenced, and PE_FENCE_m shows them. -/
def reloadBlock (a : Nat) : Bool :=
  let o := a % 0x10000
  0x10000 ≤ a && ((0x400 ≤ o && o < 0x800) || (0x1000 ≤ o && o < 0x2000) || (0x2000 ≤ o && o < 0x4000 && !(PE_FENCE 0 0 % 0x10000 ≤ o && o < PE_FENCE 0 4 % 0x10000)) ||
    (0x5000 ≤ o && o < 0x5800))

/-- The registers that a Reload returns to their reset values, with the processes behind them (R74, R226). `_LO` halves held for these
registers are dropped; `_HI` halves that a read has latched stay. (DEDUCED: notes/assumptions/21.md) -/
def State.reloadReset (s : State) : State :=
  let s := s.onDies fun s d => s.srcCtlWrite d 0
  let v := s.dev
  let s : State := { s with
    dev := { v with
      regs := v.regs.filter fun e => !reloadBlock e.1
      shadow := v.shadow.filter fun e => !reloadBlock e.1
      heldLo := v.heldLo.filter fun e => !reloadBlock (e.1 % 2 ^ 20)
      latched := v.latched.filter fun e => !reloadBlock e.1 } }.tablesReset
  s.onDies fun s d => s.setB (SRC_STATUS d) SRC_STATUS.NO_RECORD (s.port d).payload.isNone

/-- An engine after an installation: V, S, ACC and P are 0, the scratchpad keeps its content (R237). (DEDUCED: notes/assumptions/20.md) -/
def Engine.installed (e : Engine) : Engine := { Engine.zero with pad := e.pad }

/-- The image's register defaults, in order, with the effect of host writes (R59); in Reload those of the TB_ block are skipped and counted
(R74). (DEDUCED: notes/assumptions/20.md) -/
def State.applyDefaults (s : State) (es : List (Nat × Nat)) (reload : Bool) : State :=
  let s := s.setF CHIP_BOOT_STATUS CHIP_BOOT_STATUS.SKIPPED 0
  es.foldl (fun s e =>
    if reload && 0x400 ≤ e.1 && e.1 < 0x800 then s.countF CHIP_BOOT_STATUS CHIP_BOOT_STATUS.SKIPPED 1
    else s.routeWrite .host nvmNoFail e.1 e.2) s

/-- The sections of an image are placed and its register defaults applied (R65, R74). -/
def State.place (s : State) (bs : List Byte) (reload : Bool) : State :=
  let im := parseImage s.dies bs
  let bound := s.boundDies
  let s := if reload then s.reloadReset else s
  let v := s.dev
  let s : State := { s with
    dev := { v with
      image := some im
      engines := v.engines.foldl (fun (m : AMap Engine) e => m.put Engine.zero e.1 e.2.installed) [] } }
  let s := s.setReg CHIP_IMG_VER (wordAt bs 16)
  let dg := imgDigest bs
  let s := (List.range 8).foldl (fun s k => s.setReg (CHIP_DIGEST k) (wordAt dg (4 * k))) s
  let s := s.onDies fun s d =>
    (s.setReg (PE_STATUS d) (2 ^ 31 + (if im.lineEn then 2 ^ 30 else 0) + im.groupCost * 2 ^ 16 + im.lineCost)).setReg (PE_CHUNK d) im.chunk
  ((s.budgetRegs).applyDefaults (imgDefaults bs) reload).rebind bound

/-- The strands after an installation in Reload (R74, R322): those with the same lanes, width and partner count go on, every other
retrains. (DEDUCED: notes/assumptions/21.md) -/
def State.strandsReload (s : State) (old : List StrandEnt) : State :=
  let same (e : StrandEnt) : Bool := s.img.strands.any fun x => x.lane = e.lane && x.width = e.width && x.chain.length = e.chain.length
  let gone := old.filter fun e => !e.chain.isEmpty && !same e && s.live (e.lane / 16)
  let s := gone.foldl (fun s e =>
    if s.strandList.contains e.lane then s.retrain e.lane
    else
      let s := if s.strState e.lane = 10 then (s.leaveActive e.lane 9).strandDown e.lane else s.dropCmds e.lane
      s.setStrand e.lane StrandSt.reset) s
  s.strandsPlace.strandsStart

/-- The loader ends with an accepted image: STAGE 7, no error. -/
def State.loadAccept (s : State) : State :=
  let s := s.setBoot { s.dev.boot with loading := none, sources := [], stageAt := none }
  ((s.setF CHIP_BOOT_STATUS CHIP_BOOT_STATUS.STAGE 7).setF CHIP_BOOT_STATUS CHIP_BOOT_STATUS.ERR 0).setF CHIP_BOOT_STATUS
    CHIP_BOOT_STATUS.ERR_SECTION 0xFF

/-- The active values become those in force for the work of the frame (R177). (DEDUCED: notes/assumptions/20.md) -/
def State.takeWork (s : State) : State := { s with dev := { s.dev with workOld := s.dev.work, work := s.dev.regs } }

/-- Installation at start-up (R65, R66, R78, R102, R110): the knot, the raster, Idle, the strands. (DEDUCED: notes/assumptions/20.md) -/
def State.installBoot (s : State) (bs : List Byte) : State :=
  let s := ((s.place bs false).knotInstall.tbRasterStart).takeWork
  let s := s.onDies fun s d => s.srcReadRecord d
  let s := (s.loadAccept.strandsPlace).setMode .idle 0xC
  s.strandsStart

/-- Installation in Reload (R65, R74, R180): pending requests are dropped; the knot follows at the next knot line (R66).
(DEDUCED: notes/assumptions/21.md) -/
def State.installReload (s : State) (bs : List Byte) : State :=
  let old := s.img.strands
  let s := ((s.place bs true).knotDrop).loadAccept
  let s := s.setBoot { s.dev.boot with idlePending := true }
  s.strandsReload old

/-! ### The loader (R62 to R64, R67 to R71) -/

/-- Image lock and the trusted digests (R63, R64), as a read of the record finds them. -/
def State.imageLock (s : State) : Bool × List (List Byte) × State :=
  let r := s.nvmGet 0x0021 0
  match r.1 with
  | none => (false, [], r.2)
  | some x =>
    if digestWellFormed x.payload then
      (bits (wordAt x.payload 0) 0 0 = 1,
        (List.range (bits (wordAt x.payload 0) 10 8)).map fun i => (x.payload.drop (4 + 32 * i)).take 32, r.2)
    else (true, [], r.2)

/-- Checks 8 and 9 of R62 on an image that has passed checks 1 to 7 (R63, R83, R520). -/
def State.imageContentFault (s : State) (lock : Bool) (trusted : List (List Byte)) (bs : List Byte) (reload : Bool) : Option (Nat × Nat) :=
  if lock && !trusted.contains (imgDigest bs) then some (8, 0xFF)
  else
    let t := s.place bs reload
    let v := t.knotView true (List.range 7)
    let r := rasterOf v
    match imgContent s.dies r.lineTicks r.hactStart (TB_LAUNCH.LAUNCH_OFS.get (v TB_LAUNCH)) r.vtotal bs with
    | some e => some e
    | none => if (t.shadowFaults t.img v false).isEmpty then none else some (9, secOf bs 7)

/-- A source fails with ERR `err` and ERR_SECTION `sec`; the next one is tried (R62, R71). -/
def State.loadFail (s : State) (err sec : Nat) : State :=
  ((s.setF CHIP_BOOT_STATUS CHIP_BOOT_STATUS.ERR err).setF CHIP_BOOT_STATUS CHIP_BOOT_STATUS.ERR_SECTION sec).bootNext

/-- The bytes `bs` of an image are checked and installed (R62, R65); `len` is CHIP_STAGE_LEN for a staged image, `bad`: the source did not
deliver the bytes beyond the section table. -/
def State.checkImage (s : State) (len : Option Nat) (bs : List Byte) (bad : Bool) : State :=
  let reload := s.mode = .reload
  let k := s.imageLock
  let s := k.2.2.setB CHIP_BOOT_STATUS CHIP_BOOT_STATUS.LOCKED k.1
  match imgCheck1to7 s.dies len bs with
  | some e => if bad && 5 < e.1 then s.loadFail 0xA 0xFF else s.loadFail e.1 e.2
  | none =>
    if bad then s.loadFail 0xA 0xFF
    else match s.imageContentFault k.1 k.2.1 bs reload with
      | some e => s.loadFail e.1 e.2
      | none => if reload then s.installReload bs else s.installBoot bs

/-- Write image bytes into the staging range (R67); false when the memory does not take them. (DEDUCED: notes/assumptions/20.md) -/
def State.stage (s : State) (o : Nat) (bs : List Byte) : State × Bool :=
  let w := s.write ⟨6, false, false, none, 0⟩ ((s.stageBase + o) % 2 ^ 40) bs
  (w.1, w.2 = .ok)

/-- What a source has delivered: the bytes, CHIP_STAGE_LEN for a staged image, and whether the bytes beyond the section table are missing. -/
structure Delivery where
  len : Option Nat
  bytes : List Byte
  short : Bool
  deriving DecidableEq, Repr

/-- The first 4 KiB of an image are written to the staging range, then, when checks 1 to 5 pass, the rest (R67, R68); nothing is delivered
when the memory does not take them. (DEDUCED: notes/assumptions/20.md) -/
def State.stageAll (s : State) (bs : List Byte) (short : Bool) : Option Delivery × State :=
  let x : Delivery := ⟨none, bs, short⟩
  let a := s.stage 0 (bs.take 4096)
  if !a.2 then (none, a.1)
  else
    match imgCheck1to7 s.dies none (bs.take 4096) with
    | some e => if e.1 ≤ 5 then (some x, a.1) else
      let b := a.1.stage 4096 ((bs.take (imgLen bs)).drop 4096)
      (if b.2 then some x else none, b.1)
    | none => (some x, a.1)

/-- Flash address of the image of a source (R68). -/
def flashBase : ImgSource → Option Nat
  | .spiPrimary => some 0
  | .spiSecondary => some 0x4000000
  | _ => none

/-- The read of the first 4 KiB (R68, step 1). -/
def headRead (base : Nat) : FlashRead := ⟨base, 4096, 0x13, 1, 0, 12500⟩

/-- Command and lanes of the width code of header word 3 (R54, R68); 0b11 is treated as 0b00. -/
def spiWidth : Nat → Nat × Nat
  | 1 => (0x6C, 4)
  | 2 => (0x7C, 8)
  | _ => (0x0C, 1)

/-- The clock code of header word 3, in kHz (R54); 0b11 is treated as 0b00. -/
def spiClock : Nat → Nat
  | 1 => 25000
  | 2 => 50000
  | _ => 12500

/-- The read of the rest of an image of `len` bytes with header word 3 `w3` (R68, step 3). -/
def restRead (base len w3 : Nat) : FlashRead :=
  let w := spiWidth (bits w3 5 4)
  ⟨base + 4096, len - 4096, w.1, w.2, 8, spiClock (bits w3 1 0)⟩

/-- The reads that the loader makes of the flash for the image at `base` whose first bytes are `bs`: the rest is read when checks 1 to 5 pass
and the image is longer than 4 KiB. -/
def flashReads (dies base : Nat) (bs : List Byte) : List FlashRead :=
  let more := imgLen bs ≤ 4096 || match imgCheck1to7 dies none (bs.take 4096) with
    | some e => e.1 ≤ 5
    | none => false
  if more then [headRead base] else [headRead base, restRead base (imgLen bs) (wordAt bs 12)]

/-- The loader has read the flash. -/
def State.noteReads (s : State) (rs : List FlashRead) : State := s.setBoot { s.dev.boot with flash := s.dev.boot.flash ++ rs }

/-- Bytes that a flash delivers for an image, erased beyond their end (R68). (DEDUCED: notes/assumptions/20.md) -/
def flashBytes (bs : List Byte) : List Byte :=
  bs ++ List.replicate (max 4096 (min 0x4000000 (imgLen bs)) - bs.length) 0xFF

/-- The boot image on the drive of die d (R70). (DEDUCED: notes/assumptions/20.md) -/
def State.storeImage (s : State) (d : Nat) : Option (List Byte) :=
  if !s.driveReady d then none
  else match s.findSuper d with
    | none => none
    | some b => if b.bootLen = 0 || 0x4000000 < b.bootLen then none else some (s.diskRead d (b.bootCu * 4096) b.bootLen)

/-- The staged image is read from the staging range (R69, R72). -/
def State.readStaged (s : State) : Option Delivery × State :=
  let h := s.read 6 0 s.stageBase 544
  let n := imgLen h.1
  if h.2.1 then (none, h.2.2)
  else if n ≤ 544 || 0x4000000 < n then (some ⟨some s.stageLen, h.1, false⟩, h.2.2)
  else
    let r := h.2.2.read 6 0 ((s.stageBase + 544) % 2 ^ 40) (n - 544)
    (some ⟨some s.stageLen, h.1 ++ r.1, r.2.1⟩, r.2.2)

/-- The source `x` delivers its image to the staging range, or does not: `bytes` are what the flash delivers at the image's position, or
none when the flash or the drive fails (R68 to R70). (DEDUCED: notes/assumptions/20.md) -/
def State.deliver (s : State) (x : ImgSource) (bytes : Option (List Byte)) : Option Delivery × State :=
  match x with
  | .staged => s.readStaged
  | .store d =>
    match bytes, s.storeImage d with
    | some _, some bs => s.stageAll bs (bs.length < imgLen bs)
    | _, _ => (none, s)
  | x =>
    let base := (flashBase x).getD 0
    match bytes with
    | some bs => (s.noteReads (flashReads s.dies base (flashBytes bs))).stageAll (flashBytes bs) false
    | none => (none, s.noteReads [headRead base])

/-- What a source has delivered is checked and installed; where it has delivered nothing the next one is tried (R62, R71). -/
def State.takeDelivery (s : State) : Option Delivery → State
  | none => s.loadFail 0xA 0xFF
  | some x => s.checkImage x.len x.bytes x.short

/-- The source in progress delivers its image, or does not. -/
def State.sourceDone (s : State) (bytes : Option (List Byte)) : State :=
  match s.dev.boot.loading with
  | none => s
  | some x =>
    let r := s.deliver x bytes
    r.2.takeDelivery r.1

/-- CHIP_BOOT_CTL.GO (R69, R71, R76). -/
def State.bootGo (s : State) : State :=
  let st := s.f CHIP_BOOT_STATUS CHIP_BOOT_STATUS.STAGE
  if s.mode != .load || (st != 8 && st != 0xF) || s.f CHIP_BOOT_STATUS CHIP_BOOT_STATUS.ERR = 0xC ||
      s.f CHIP_STAGE_LEN CHIP_STAGE_LEN.LEN = 0 then s
  else
    let s := s.stageTake
    let r := ((s.setBoot { s.dev.boot with sources := [], loading := none }).setF CHIP_BOOT_STATUS CHIP_BOOT_STATUS.SOURCE 1).readStaged
    r.2.takeDelivery r.1

/-- A Reload's load and check end (R73): its sources are tried in turn. (DEDUCED: notes/assumptions/21.md) -/
def State.reloadLoad (s : State) (bytes : Option (List Byte)) : State :=
  if s.mode != .reload then s
  else (List.range (s.dev.boot.sources.length + 1)).foldl (fun s _ => if s.mode = .reload then s.sourceDone bytes else s) s

/-! ### Commands -/

/-- A low pulse on RESET_L (R517). (DEDUCED: notes/assumptions/22.md) -/
def execResetLAssert (pulseNs : Nat) (s : State) : Out :=
  if pulseNs < 1000 then .next (s.runDev id)
  else if pulseNs < 10000 then .refused .undefinedPulse
  else .next (s.runDev (·.resetPin))

/-- RESET_L is released (R42, R43). -/
def execResetLRelease (bootMode : Nat) (refclk : Bool) (s : State) : Out :=
  if s.dev.boot.resetL then .next (s.runDev id)
  else if !s.dev.boot.supplies || !refclk then .refused .undefinedRelease
  else .next (s.runDev (·.release bootMode))

/-- The supplies rise with RESET_L low (R505). -/
def execPowerUp (s : State) : Out :=
  .next (s.runDev fun s => if s.dev.boot.supplies then s else
    let s := s.resetPin
    { s with dev := { s.dev with boot := { s.dev.boot with supplies := true }, tap := .reset } })

/-- A record store write is in progress: a command of a channel has been cut short (R430). -/
def State.nvmCut (s : State) : Bool := (List.range 2).any fun k => s.b (NVM_STAT k) NVM_STAT.BUSY

/-- The supplies fall (R505): DRAM loses what it held. With RESET_L high that has no defined effect but during a record store write, whose
effect is that of R430. (DESIGN CHOICE: notes/assumptions/5.md) -/
def execPowerDown (s : State) : Out :=
  if !s.dev.boot.supplies then .next (s.runDev id)
  else if s.dev.boot.resetL && !s.nvmCut then .refused .undefinedSupply
  else
    let t := s.runDev fun s =>
      let s := s.resetPin
      s.setBoot { s.dev.boot with supplies := false }
    .next { t with dram := [] }

/-- The fuse load ends. -/
def execFuseLoadDone (fuses : List FuseMap) (straps speed width : Nat) (s : State) : Out :=
  .next (s.runDev (·.fuseDone fuses straps (speed, width)))

/-- Self-test ends. -/
def execSelftestDone (results : List DieTest) (s : State) : Out := .next (s.runDev (·.selftestDone results))

/-- An image source finishes delivering an image. -/
def execImageSourceReadDone (bytes : Option (List Byte)) (s : State) : Out := .next (s.run (·.sourceDone bytes))

/-- A content store drive is not ready within 1,000 ms or does not answer within 500 ms (R70). -/
def execNvmeDriveTimeout (s : State) : Out :=
  .next (s.runDev fun s => match s.dev.boot.loading with
    | some (.store _) => s.loadFail 0xA 0xFF
    | _ => s)

/-- The Reload load and check end. -/
def execReloadDone (bytes : Option (List Byte)) (s : State) : Out := .next (s.run (·.reloadLoad bytes))

end Sys2Proof.Machine
end

