-- ==== Sys2Proof/Machine/Access.lean ====
section
/-! DEFINITION. Register accesses as they arrive: what answers when (R45), narrow accesses (R15), the accesses that the shadow transfer
window holds (R176), and the commands that are one register access. -/
namespace Sys2Proof.Machine

/-! ### Admission -/

/-- BAR0 offsets that answer from the end of the fuse load until Idle (R45). -/
def bootReg (who : Requester) (a : Nat) : Bool :=
  [CHIP_ID, CHIP_DIES, CHIP_MODE, CHIP_BOOT_STATUS, CHIP_BOOT_CTL, CHIP_STAGE_BASE_LO, CHIP_STAGE_BASE_HI, CHIP_STAGE_LEN, CHIP_IMG_VER].contains a ||
    (List.range 8).any (fun k => a = CHIP_DIGEST k) || (0x10000 ≤ a && a < 0x90000 && a = DIE_SELFTEST (winDie a)) ||
    (who = .mgmt && ((NVM_CMD 1 ≤ a && a < NVM_CMD 2) || a = NVM_STATUS || a = NVM_BP || a = NVM_BP_LOCK))

/-- The port of requester `who` works: after the fuse load, and for the host with its link up (R45, R471). -/
def State.portOn (s : State) (who : Requester) : Bool := s.dev.boot.fused && (who = .mgmt || s.hostOn)

/-- The register at BAR0 offset `a` answers requester `who` (R45). -/
def State.answers (s : State) (who : Requester) (a : Nat) : Bool := s.portOn who && (s.up || bootReg who (readTarget a))

/-- The register index lists `a`, in a window that is there (R15, R494). -/
def State.listed (s : State) (a : Nat) : Bool :=
  if a < 0x10000 then (rowAt a).isSome
  else if a < 0x90000 then s.populated (winDie a) && (rowAt a).isSome
  else 0xF0000 ≤ a && a < 0x100000 && (rowAt (a - 0xE0000)).isSome

/-- An access of `n` bytes at `a` is an aligned 32-bit access. -/
def aligned32 (a n : Nat) : Bool := n = 4 && a % 4 = 0

/-- A register access at `a` is held in the window besides every write (R176): a read of an RWS field, of KNOT_PEEK_DATA or of a bank DATA
register. -/
def holdsRead (a : Nat) : Bool :=
  let t := readTarget (a / 4 * 4)
  let o := t % 0x10000
  t < 0x90000 &&
    (match rowAt t with
    | some r => r.rws != 0
    | none => false) || t = KNOT_PEEK_DATA || t = LANY_PAL_DATA ||
    (0x10000 ≤ t && t < 0x90000 && 0x1000 ≤ o && o < 0x1700 &&
      (let n := (o - 0x1000) / 0x100
       t = LYR_PAL_DATA (winDie t) n || t = LYR_COEF_DATA (winDie t) n || t = LYR_LUT_DATA (winDie t) n))

/-! ### Writes -/

/-- A write of `n` bytes takes effect (R15, R45); one that is not an aligned 32-bit access, misaligned ones of 4 bytes included, is discarded.
(DEDUCED: notes/assumptions/23.md) -/
def State.applyWrite (s : State) (who : Requester) (f : NvmFail) (a n v : Nat) : State :=
  if !s.answers who (a / 4 * 4) then s
  else if !aligned32 a n then (if s.listed (a / 4 * 4) then s.accErr 1 a else s)
  else if a = CHIP_BOOT_CTL then
    let s := s.routeWrite who f a v
    if CHIP_BOOT_CTL.GO.get v = 1 then s.bootGo else s
  else s.routeWrite who f a v

/-- A write of `n` bytes by requester `who` arrives at BAR0 offset `a`: held during the shadow transfer window (R176). -/
def State.writeReg (s : State) (who : Requester) (f : NvmFail) (a n v : Nat) : State :=
  if !s.portOn who then s
  else if s.b KNOT_STATUS KNOT_STATUS.BUSY then
    s.setKnot { s.dev.knot with held := s.dev.knot.held ++ [.write who a n (BitVec.ofNat 32 v) f] }
  else s.applyWrite who f a n v

/-- An aligned 32-bit write. -/
def State.wr (s : State) (who : Requester) (a v : Nat) : State := s.writeReg who nvmNoFail a 4 v

/-! ### Reads -/

/-- What the last read returned. -/
def State.setRead (s : State) (bs : List Byte) : State :=
  { s with dev := { s.dev with host := { s.dev.host with rdData := bs, rdPoison := false } } }

/-- A read of the 32-bit register at `a`: its value, 0 where nothing answers, and the state. -/
def State.read32 (s : State) (who : Requester) (a : Nat) : Nat × State :=
  if s.answers who a then s.readOnce who a else (0, s)

/-- A read of `n` bytes is answered (R15): a narrow one has no effect. One of a `_HI` that its `_LO` has latched shows the `_HI` as it
stands, and the latch stays for the next 32-bit read (R16). (DEDUCED: notes/assumptions/23.md) -/
def State.applyRead (s : State) (who : Requester) (a n : Nat) : State :=
  if !s.portOn who then s
  else if aligned32 a n then
    let r := s.read32 who a
    r.2.setRead (leBytes 4 r.1)
  else
    let v := if s.answers who (a / 4 * 4) then s.seen who (a / 4 * 4) else 0
    s.setRead (leBytes (min n (4 - a % 4)) (v / 256 ^ (a % 4)))

/-- A read of `n` bytes by requester `who` arrives. -/
def State.readReg (s : State) (who : Requester) (a n : Nat) : State :=
  if s.portOn who && s.b KNOT_STATUS KNOT_STATUS.BUSY && holdsRead a then
    s.setKnot { s.dev.knot with held := s.dev.knot.held ++ [.read who a n] }
  else s.applyRead who a n

/-! ### Management frames: answers -/

/-- What the part sent on MGMT_MISO in the last frame. -/
def State.setMiso (s : State) (bs : List Byte) : State := { s with dev := { s.dev with host := { s.dev.host with miso := bs } } }

/-- Start byte, data and its CRC, low byte first (R486, R269). -/
def frameData (bs : List Byte) : List Byte := 0xA5 :: (bs ++ leBytes 2 (crc16 bs).toNat)

/-- `n` consecutive registers from `a` are read for the management port. -/
def State.readWords (s : State) (a : Nat) : Nat → List Byte × State
  | 0 => ([], s)
  | n + 1 =>
    let r := s.read32 .mgmt a
    let t := r.2.readWords (a + 4) n
    (leBytes 4 r.1 ++ t.1, t.2)

/-- A register read frame of `n` words is answered. -/
def State.applyFrame (s : State) (a n : Nat) : State :=
  let r := s.readWords a n
  r.2.setMiso (frameData r.1)

/-! ### The end of the window -/

/-- An access held in the window takes effect (R176). -/
def State.release1 (s : State) : Held → State
  | .write who a n v f => s.applyWrite who f a n v.toNat
  | .read who a n => s.applyRead who a n
  | .frame a n => s.applyFrame a n
  | .signal l => s.fenceSignal l

/-- The shadow transfer window ends `ticks` after the start of the knot line (R175, R176). -/
def State.knotWindowEnd (s : State) (ticks : Nat) : State :=
  if !s.b KNOT_STATUS KNOT_STATUS.BUSY then s
  else
    let held := s.dev.knot.held
    let s := (s.setKnot { s.dev.knot with held := [] }).windowClose (s.knotTick + ticks)
    held.foldl (fun s h => s.release1 h) s

/-! ### Commands: any register -/

/-- The shadow transfer window ends. -/
def execKnotWindowEnd (ticks : Nat) (s : State) : Out := .next (s.run (·.knotWindowEnd ticks))

/-- A host write of `bytes` bytes. -/
def execRegWrite (addr bytes : Nat) (val : Word) (s : State) : Out :=
  .next (s.run (·.writeReg .host nvmNoFail (addr % 0x100000) bytes val.toNat))

/-- A host read of a register of class RC, or of any other. -/
def execRcRead (addr bytes : Nat) (s : State) : Out := .next (s.runDev (·.readReg .host (addr % 0x100000) bytes))

/-- A host read of a `_LO` register. -/
def execLoRead (addr : Nat) (s : State) : Out := .next (s.runDev (·.readReg .host (addr % 0x100000) 4))

/-- A read of KNOT_PEEK_DATA. -/
def execKnotPeekDataRead (who : Requester) (s : State) : Out := .next (s.runDev (·.readReg who KNOT_PEEK_DATA 4))

/-! ### Commands: mode requests (R38, R39, R41, R69) -/

/-- CHIP_BOOT_CTL.GO, RELOAD_SRC as it stands. -/
def execBootGo (who : Requester) (s : State) : Out :=
  .next (s.run fun s => s.wr who CHIP_BOOT_CTL (s.reg CHIP_BOOT_CTL / 2 * 2 + 1))

/-- A mode request by its code. -/
def State.reqWrite (s : State) (who : Requester) (code : Nat) : State := s.wr who CHIP_MODE_REQ code

def execReqReset (who : Requester) (s : State) : Out := .next (s.run (·.reqWrite who 0))
def execReqIdle (who : Requester) (s : State) : Out := .next (s.run (·.reqWrite who 3))
def execReqLive (who : Requester) (s : State) : Out := .next (s.run (·.reqWrite who 4))
def execReqCoil (who : Requester) (s : State) : Out := .next (s.run (·.reqWrite who 6))
def execReqCalibrate (who : Requester) (s : State) : Out := .next (s.run (·.reqWrite who 8))
def execReqLinkTest (who : Requester) (s : State) : Out := .next (s.run (·.reqWrite who 9))
def execReqDormant (who : Requester) (s : State) : Out := .next (s.run (·.reqWrite who 10))
def execReqReload (who : Requester) (s : State) : Out := .next (s.run (·.reqWrite who 11))

/-- A request of a reserved mode; a code that is not reserved is the request of that mode. -/
def execReqReservedMode (who : Requester) (code : Nat) (s : State) : Out := .next (s.run (·.reqWrite who (code % 16)))

/-! ### Commands: knot, fences, snapshots -/

/-- KNOT_REQ.REQ. -/
def execKnotReq (who : Requester) (s : State) : Out := .next (s.run (·.wr who KNOT_REQ 1))

/-- KNOT_REQ.CANCEL. -/
def execKnotCancel (who : Requester) (s : State) : Out := .next (s.run (·.wr who KNOT_REQ 2))

/-- A write of the register at `addr` when it is the one that `is` names in a die window or in the broadcast window. -/
def State.wrAt (s : State) (who : Requester) (is : Nat → Bool) (addr v : Nat) : State :=
  if 0x10000 ≤ addr && addr < 0x100000 && is (addr % 0x10000) then s.wr who addr v else s

/-- The offset of an LYR_n_READY register. -/
def isReady (o : Nat) : Bool := (List.range 7).any fun n => o = LYR_READY 0 n % 0x10000

/-- LYR_n_READY.ARM. -/
def execReadyArm (who : Requester) (addr : Nat) (s : State) : Out := .next (s.run (·.wrAt who isReady addr (2 ^ 31)))

/-- LYR_n_READY.DISARM. -/
def execReadyDisarm (who : Requester) (addr : Nat) (s : State) : Out := .next (s.run (·.wrAt who isReady addr (2 ^ 30)))

/-- LYR_n_READY.SIGNAL. -/
def execReadySignal (who : Requester) (addr : Nat) (s : State) : Out := .next (s.run (·.wrAt who isReady addr (2 ^ 29)))

/-- CHIP_SNAP.REQ. -/
def execSnapReq (who : Requester) (s : State) : Out := .next (s.run (·.wr who CHIP_SNAP 1))

/-- CHIP_SNAP.LIVE. -/
def execSnapLive (who : Requester) (s : State) : Out := .next (s.run (·.wr who CHIP_SNAP 2))

/-- The snapshot is taken at a frame start. -/
def execSnapshotTake (s : State) : Out := .next (s.runDev (·.snapTake))

/-! ### Commands: DATA registers (R134, R152, R222, R394, R431, R445) -/

/-- A host access of the DATA register at `addr`, of the kind that `is` names: a write of `wr`, or a read. -/
def State.dataAt (s : State) (is : Nat → Bool) (addr : Nat) (wr : Option Word) : State :=
  if 0x10000 ≤ addr && addr < 0x100000 && is (addr % 0x10000) then
    match wr with
    | some v => s.wr .host addr v.toNat
    | none => s.readReg .host addr 4
  else s

/-- The offset of a palette, coefficient or table DATA register. -/
def isPalData (o : Nat) : Bool := (List.range 7).any fun n => o = LYR_PAL_DATA 0 n % 0x10000
def isCoefData (o : Nat) : Bool := (List.range 7).any fun n => o = LYR_COEF_DATA 0 n % 0x10000
def isLutData (o : Nat) : Bool := (List.range 7).any fun n => o = LYR_LUT_DATA 0 n % 0x10000

/-- A PAL_DATA access. -/
def execPalData (addr : Nat) (wr : Option Word) (s : State) : Out := .next (s.run (·.dataAt isPalData addr wr))

/-- A COEF_DATA access. -/
def execCoefData (addr : Nat) (wr : Option Word) (s : State) : Out := .next (s.run (·.dataAt isCoefData addr wr))

/-- A LUT_DATA access. -/
def execLutData (addr : Nat) (wr : Option Word) (s : State) : Out := .next (s.run (·.dataAt isLutData addr wr))

/-- A management access of LANY_PAL_DATA. -/
def execLanyPalData (wr : Option Word) (s : State) : Out :=
  .next (s.run fun s => match wr with
    | some v => s.wr .mgmt LANY_PAL_DATA v.toNat
    | none => s.readReg .mgmt LANY_PAL_DATA 4)

/-- A read of LAMP_DYN_DATA of die d. -/
def execLampDynData (d : Nat) (s : State) : Out := .next (s.runDev fun s => if d < 8 then s.readReg .host (LAMP_DYN_DATA d) 4 else s)

/-- A read of ECC_REPAIR_DATA1 of die d. -/
def execEccRepairData1 (d : Nat) (s : State) : Out := .next (s.runDev fun s => if d < 8 then s.readReg .host (ECC_REPAIR_DATA1 d) 4 else s)

/-- An access of CAL_TRIM_DATA of die d. -/
def execCalTrimData (d : Nat) (wr : Option Word) (s : State) : Out :=
  .next (s.run fun s => if 8 ≤ d then s else match wr with
    | some v => s.wr .host (CAL_TRIM_DATA d) v.toNat
    | none => s.readReg .host (CAL_TRIM_DATA d) 4)

/-- An access of NVM_k_DATA. -/
def execNvmData (who : Requester) (k : Nat) (wr : Option Word) (s : State) : Out :=
  .next (s.run fun s => if 2 ≤ k then s else match wr with
    | some v => s.wr who (NVM_DATA k) v.toNat
    | none => s.readReg who (NVM_DATA k) 4)

/-- A host read of PE_FENCE_CAUSE of die d (R492). -/
def execPeFenceCauseRead (d : Nat) (s : State) : Out := .next (s.runDev fun s => if d < 8 then s.readReg .host (PE_FENCE_CAUSE d) 4 else s)

/-! ### Commands: source ports, lamp tables, fences -/

/-- A host write of SRC_CTL at `addr` (R104). -/
def execSrcCtlWrite (addr : Nat) (v : Word) (s : State) : Out :=
  .next (s.run (·.wrAt .host (fun o => o = SRC_CTL 0 % 0x10000) addr v.toNat))

/-- LAMP_EOTF_LOAD.GO. -/
def execEotfLoadGo (who : Requester) (addr : Nat) (s : State) : Out :=
  .next (s.run (·.wrAt who (fun o => o = LAMP_EOTF_LOAD 0 % 0x10000) addr 1))

/-- LAMP_OUT_LOAD.GO. -/
def execOutLoadGo (who : Requester) (addr : Nat) (s : State) : Out :=
  .next (s.run (·.wrAt who (fun o => o = LAMP_OUT_LOAD 0 % 0x10000) addr 1))

/-- LAMP_DYN_CLR. -/
def execLampDynClr (who : Requester) (addr : Nat) (s : State) : Out :=
  .next (s.run (·.wrAt who (fun o => o = LAMP_DYN_CLR 0 % 0x10000) addr 1))

/-- PE_FENCE_REQ.GO for engine `eng` (R259). -/
def execPeFenceReq (who : Requester) (addr eng : Nat) (s : State) : Out :=
  .next (s.run (·.wrAt who (fun o => o = PE_FENCE_REQ 0 % 0x10000) addr (2 ^ 31 + eng % 128)))

/-! ### Commands: strands (R290, R296, R318 to R320) -/

/-- A command through STR_n_PCMD of strand g: operation, partner, register. -/
def State.pcmd (s : State) (who : Requester) (g op addr reg : Nat) : State :=
  if g < 128 then s.wr who (strReg STR_PCMD g) (2 ^ 31 + op * 2 ^ 29 + addr % 1024 * 2 ^ 8 + reg % 256) else s

/-- OP CFG_RD. -/
def execPcmdCfgRd (who : Requester) (g addr reg : Nat) (s : State) : Out := .next (s.run (·.pcmd who g 0 addr reg))

/-- OP CFG_WR, with the data that STR_n_PCMD_WDATA holds. -/
def execPcmdCfgWr (who : Requester) (g addr reg : Nat) (s : State) : Out := .next (s.run (·.pcmd who g 1 addr reg))

/-- STR_n_CTL.RETRAIN with the other fields of `v`. -/
def execStrRetrain (who : Requester) (g : Nat) (v : Word) (s : State) : Out :=
  .next (s.run fun s => if g < 128 then s.wr who (strReg STR_CTL g) (v.toNat % 2 ^ 31 + 2 ^ 31) else s)

/-- A PRBS GO of strand g. -/
def State.prbs (s : State) (who : Requester) (g path pattern addr : Nat) : State :=
  if g < 128 then s.wr who (strReg STR_PRBS_CTL g) (2 ^ 31 + pattern % 8 * 2 ^ 28 + path * 2 ^ 26 + addr % 1024 * 2 ^ 16) else s

/-- PATH near end. -/
def execPrbsNearEnd (who : Requester) (g pattern : Nat) (s : State) : Out := .next (s.run (·.prbs who g 0 pattern 0))

/-- PATH far forward. -/
def execPrbsFarForward (who : Requester) (g pattern addr : Nat) (s : State) : Out := .next (s.run (·.prbs who g 1 pattern addr))

/-- PATH back. -/
def execPrbsBack (who : Requester) (g pattern addr : Nat) (s : State) : Out := .next (s.run (·.prbs who g 2 pattern addr))

/-- A write of STR_n_PRBS_INJ of lane n on die d with MODE `m` and the other fields of `v`. -/
def State.inject (s : State) (who : Requester) (d n m : Nat) (v : Word) : State :=
  if d < 8 && n < 16 then s.wr who (STR_PRBS_INJ d n) (v.toNat % 2 ^ 30 + m * 2 ^ 30) else s

/-- Single mode. -/
def execInjSingle (who : Requester) (d n : Nat) (v : Word) (s : State) : Out := .next (s.run (·.inject who d n 1 v))

/-- Burst mode. -/
def execInjBurst (who : Requester) (d n : Nat) (v : Word) (s : State) : Out := .next (s.run (·.inject who d n 2 v))

/-- Rate mode. -/
def execInjRate (who : Requester) (d n : Nat) (v : Word) (s : State) : Out := .next (s.run (·.inject who d n 3 v))

/-! ### Commands: protected regions (R382) -/

/-- The offset of a MEM_PROT_k_BASE register. -/
def isProtBase (o : Nat) : Bool := (List.range 8).any fun k => o = MEM_PROT_BASE 0 k % 0x10000

/-- MEM_PROT_k_BASE.EN = 1 with BASE `base`. -/
def execProtEnable (who : Requester) (addr base : Nat) (s : State) : Out :=
  .next (s.run (·.wrAt who isProtBase addr (2 ^ 31 + base % 2 ^ 16)))

/-- MEM_PROT_k_BASE.EN = 0 with BASE `base`. -/
def execProtDisable (who : Requester) (addr base : Nat) (s : State) : Out := .next (s.run (·.wrAt who isProtBase addr (base % 2 ^ 16)))

/-- The check bytes of region k of die d are written. -/
def execProtInitDone (d k : Nat) (s : State) : Out := .next (s.run fun s => if d < 8 && k < 8 then s.protInit d k else s)

/-! ### Commands: jobs, record store, management only -/

/-- JOB_r_CTL.ABORT, EN as it stands. -/
def execJobAbort (who : Requester) (r : Nat) (v : Word) (s : State) : Out :=
  .next (s.run fun s => if r < 8 then s.wr who (JOB_CTL r) (s.reg (JOB_CTL r) / 2 ^ 31 * 2 ^ 31 + 2 ^ 30 + v.toNat % 2 ^ 30) else s)

/-- JOB_r_CTL.EN = 0. -/
def execJobRingDisable (who : Requester) (r : Nat) (v : Word) (s : State) : Out :=
  .next (s.run fun s => if r < 8 then s.wr who (JOB_CTL r) (v.toNat % 2 ^ 31) else s)

/-- JOB_r_CTL.EN = 1. -/
def execJobRingEnable (who : Requester) (r : Nat) (v : Word) (s : State) : Out :=
  .next (s.run fun s => if r < 8 then s.wr who (JOB_CTL r) (v.toNat % 2 ^ 31 + 2 ^ 31) else s)

/-- A command of the record store: NVM_k_CMD with GO and the operation (R431). -/
def State.nvmCmd (s : State) (who : Requester) (k op : Nat) (f : NvmFail) : State :=
  if k < 2 then s.writeReg who f (NVM_CMD k) 4 (2 ^ 31 + op * 2 ^ 24) else s

/-- READ through channel k. -/
def execNvmRead (who : Requester) (k : Nat) (s : State) : Out := .next (s.run (·.nvmCmd who k 1 nvmNoFail))

/-- WRITE through channel k. -/
def execNvmWrite (who : Requester) (k : Nat) (fail : NvmFail) (s : State) : Out := .next (s.run (·.nvmCmd who k 2 fail))

/-- DELETE through channel k. -/
def execNvmDelete (who : Requester) (k : Nat) (fail : NvmFail) (s : State) : Out := .next (s.run (·.nvmCmd who k 3 fail))

/-- CTR_READ through channel k. -/
def execCtrRead (who : Requester) (k : Nat) (s : State) : Out := .next (s.run (·.nvmCmd who k 4 nvmNoFail))

/-- CTR_ADD through channel k. -/
def execCtrAdd (who : Requester) (k : Nat) (fail : NvmFail) (s : State) : Out := .next (s.run (·.nvmCmd who k 5 fail))

/-- CTR_SET through channel k. -/
def execCtrSet (who : Requester) (k : Nat) (fail : NvmFail) (s : State) : Out := .next (s.run (·.nvmCmd who k 6 fail))

/-- A write of NVM_BP (R436). -/
def execNvmBpWrite (who : Requester) (v : Word) (s : State) : Out := .next (s.run (·.wr who NVM_BP v.toNat))

/-- A write of NVM_BP_LOCK (R436). -/
def execNvmBpLockWrite (who : Requester) (v : Word) (s : State) : Out := .next (s.run (·.wr who NVM_BP_LOCK v.toNat))

/-- PWR_WAKE_REQ.WAKE through the management port (R467). -/
def execPwrWakeReq (s : State) : Out := .next (s.run (·.wr .mgmt PWR_WAKE_REQ 1))

/-- LANY_COMMIT.REQ with buffer `buf` through the management port (R163). -/
def execLanyCommitReq (buf : Nat) (s : State) : Out := .next (s.run (·.wr .mgmt LANY_COMMIT (buf % 2 * 2 + 1)))

/-- A management write of LANY_PROT_BASE (`len` false) or LANY_PROT_LEN (R165). -/
def execLanyProtWrite (len : Bool) (v : Word) (s : State) : Out :=
  .next (s.run (·.wr .mgmt (if len then LANY_PROT_LEN else LANY_PROT_BASE) v.toNat))

/-- A management write of LANY_LOCK (R166). -/
def execLanyLockWrite (v : Word) (s : State) : Out := .next (s.run (·.wr .mgmt LANY_LOCK v.toNat))

end Sys2Proof.Machine
end

