-- ==== Sys2Proof/Machine/Frame.lean ====
section
/-! DEFINITION. The raster's own steps: frame start (R81, R85, R177, R222, R226, R454), line start (R86, R115, R271, R449), vertical blank
(R338, R91). -/
namespace Sys2Proof.Machine

/-- A frame starts. -/
def State.frameStart (s : State) : State :=
  if !s.rasterOn || s.dev.image.isNone then s
  else
    let ran := s.liveDies.filter fun d => s.composes s.frameMode d
    let s := s.rowsEnd.emptyDone.lanyTick
    let s := ((s.setBoot { s.dev.boot with starLost := [] }).tbFrameStart).takeWork.coilFetch
    let s := ((s.peFrameStart.compFrameStart).wbFrameStart).scanFrameStart
    let s := (s.bands s.tbFrame).belayFrameStart s.wReg
    s.shedFrame.onDies fun s d => s.lampFrameStart ran d

/-- A line start on die d: the phase measurement (R86), receive errors of partners (R288), what the FIFOs have lost (R31), and the bit
errors of the on-chip memories (R368). -/
def State.lineDie (s : State) (d y : Nat) (l : LineDie) : State :=
  let e := if d = 0 then 0 else clampI (-128) 127 l.lockErr
  let ok := d = 0 || l.lockErr.natAbs ≤ 3
  let s := s.setReg (DIE_TB_STATUS d) (y % 2 ^ 16 * 2 ^ 16 + (e % 256).toNat * 2 ^ 8 + (if ok then 1 else 0))
  let n := if ok then 0 else s.dev.tb.lockBad.look 0 d + 1
  let s := s.setTb { s.dev.tb with lockBad := s.dev.tb.lockBad.put 0 d n }
  let s := l.rxBad.foldl (fun s e => s.onPartner (16 * d + e.1 % 16) e.2 (·.rxError)) s
  if !s.live d then s
  else
    let s := if l.tbOvf then s.leaf d (DIE_XFIFO_ERR d) DIE_XFIFO_ERR.TB_OVF else s
    let s := (List.range 16).foldl (fun s i => if bitOf l.backOvf i then s.leafBit d (DIE_XFIFO_ERR d) DIE_XFIFO_ERR.BACK_OVF i else s) s
    let s := if 16 ≤ n then s.regionFault d 4 else s
    l.sram.foldl (fun s e => if s.live d then s.sramRead d e.1 e.2.1 e.2.2.1 e.2.2.2 else s) s

/-- Compose canvas line y on die d; a line whose source lines have not arrived comes from buffer D (R115).
(DEDUCED: notes/assumptions/28.md) -/
def State.lineCompose (s : State) (d y : Nat) (late : Bool) : State :=
  let l := lyrOf s.wReg d 0
  let streams := l.on && l.sel = 1 && l.port = d && (s.liveBuf l).isSome && l.dy ≤ y && y < l.dy + l.dh
  if late && streams then
    let s := (s.srcEvt d SRC_EVT.LM_LATE).setPort d { s.port d with lmFault := true }
    let s := s.composeDie d y
    s.setPort d { s.port d with lmFault := false }
  else s.composeDie d y

/-- A line starts: tick 0 of the next line of the frame; `ds` is what it finds on each die. -/
def State.lineStart (s : State) (ds : List LineDie) : State :=
  let y := s.dev.tb.line
  if !s.rasterOn || s.dev.image.isNone || s.dev.tb.ras.vtotal ≤ y then s
  else
    let at' (d : Nat) : LineDie := ds.getD d ⟨0, [], 0, false, false, false, 0, [], []⟩
    let s := s.setTb { s.dev.tb with line := y + 1 }
    let s := (List.range s.dies).foldl (fun s d => s.lineDie d y (at' d)) s
    let s := s.onDies fun s d => s.paceLine d y (at' d).chains (at' d).us (at' d).slept
    ((s.rowsLine y |>.syncLine y).onDies fun s d => s.lineCompose d y (at' d).late).backReleases

/-- The vertical blank starts: VB_START on every die, trims due on every strand. -/
def State.blank (s : State) : State :=
  let s := s.vbStart
  if s.rasterOn then s.strandList.foldl (fun s g => s.sendTrims g) s else s

/-! ### Commands -/

/-- A frame starts. -/
def execFrameStart (s : State) : Out := .next (s.run (·.frameStart))

/-- A line starts. -/
def execLineStart (ds : List LineDie) (s : State) : Out := .next (s.run (·.lineStart ds))

/-- The vertical blank starts. -/
def execVbStart (s : State) : Out := .next (s.runDev (·.blank))

end Sys2Proof.Machine
end

