-- ==== Sys2Proof/Machine/Host.lean ====
section
/-! DEFINITION. The host's side beyond registers (R470 to R473, R475, R483, R515): the BAR2 window, the link, configuration space, the MSI-X
table. -/
namespace Sys2Proof.Machine

/-- Put the endpoint back. -/
def State.setHost (s : State) (h : HostSt) : State := { s with dev := { s.dev with host := h } }

/-! ### BAR2 (R472, R69) -/

/-- The device address of BAR2 offset `o`. -/
def State.bar2Addr (s : State) (o : Nat) : Nat :=
  let base := if s.mode = .load then s.stageBase
    else (s.pair HOST_WIN_BASE_LO HOST_WIN_BASE_HI 8) / 2 ^ 30 * 2 ^ 30
  (base + o % 2 ^ 36) % 2 ^ 40

/-- A host write through BAR2: an address error, or a refusal by the Lanyard range, is an access error.
(DEDUCED: notes/assumptions/23.md) -/
def State.bar2Write (s : State) (o : Nat) (data : List Byte) : State :=
  if !s.portOn .host then s
  else
    let a := s.bar2Addr o
    let w := s.write ⟨6, false, true, none, 0⟩ a data
    if w.2 = .addr || w.2 = .lany then w.1.accErr 4 (a / 2 ^ 20) else w.1

/-- AER: a poisoned completion (R472). (PRESUMED: notes/assumptions/14.md) -/
def aerStatus : Nat := 0x104

/-- A host read through BAR2: data 0 and an access error for an address error; an uncorrectable word as stored, poisoned. -/
def State.bar2Read (s : State) (o n : Nat) : State :=
  if !s.portOn .host then s
  else
    let a := s.bar2Addr o
    let bad := s.rangeBad a n
    let r := s.read 6 0 a n
    let s := r.2.2.setRead r.1
    if n = 0 then s
    else if bad then s.accErr 4 (a / 2 ^ 20)
    else if r.2.1 then
      let h := s.dev.host
      s.setHost { h with rdPoison := true, cfg := h.cfg.put 0 aerStatus (h.cfg.look 0 aerStatus ||| BitVec.ofNat 32 (2 ^ 12)) }
    else s

/-! ### The link (R471, R515) -/

/-- What resets the endpoint's configuration space: a hot reset, a link-down, EP_PERST_L, D3hot. (DEDUCED: notes/assumptions/26.md) -/
def State.cfgReset (s : State) : State :=
  s.setHost { s.dev.host with busMaster := false, memSpace := false, msixEn := false, funcMask := false, cfg := [] }

/-- The link goes down, or the function enters D3hot; completions that still wait then cannot be written: `kind` 0 hot reset, 1 link-down, 2
EP_PERST_L asserted, 3 D3hot. (DEDUCED: notes/assumptions/26.md) -/
def State.linkDown (s : State) (kind : Nat) : State :=
  let s := s.cfgReset
  let s := if 3 ≤ kind then s.setHost { s.dev.host with d3 := true }
    else ((s.setF HOST_LINK HOST_LINK.SPEED 0).setF HOST_LINK HOST_LINK.WIDTH 0).setHost { s.dev.host with d3 := false }
  let s := if kind = 2 then s.setHost { s.dev.host with perst := true } else s
  if s.dev.boot.fused then s.ringsOff.jobRecords else s

/-- The link trains at `speed` and `width`, or EP_PERST_L is deasserted; before the end of the fuse load only the latter shows.
(DEDUCED: notes/assumptions/26.md) -/
def State.linkUp (s : State) (speed width : Nat) : State :=
  let s := s.setHost { s.dev.host with perst := false }
  if !s.dev.boot.fused then s
  else (s.setF HOST_LINK HOST_LINK.SPEED speed).setF HOST_LINK HOST_LINK.WIDTH width

/-! ### Configuration space (R470) -/

/-- The fixed bits of the configuration word at `o`; capability offsets are PRESUMED: notes/assumptions/14.md. -/
def cfgFixed (dies o : Nat) : Nat :=
  match o with
  | 0x00 => (0x8A00 + dies) * 2 ^ 16 + 0x1D7A
  | 0x04 => 2 ^ 20
  | 0x08 => 0x038000B0
  | 0x10 => 0x4
  | 0x18 => 0xC
  | 0x20 => 0x4
  | 0x2C => 0x00011D7A
  | 0x34 => 0x40
  | 0x40 => 0x00035001
  | 0x50 => 0x0002B010
  | 0x54 => 0x2
  | 0x5C => 0x884
  | 0xB0 => 0x003F0011
  | 0xB4 => 0x1004
  | 0xB8 => 0x1804
  | 0x100 => 0x00020001
  | _ => 0

/-- The bits of the configuration word at `o` that a write changes: command, cache line, BARs, interrupt line, power state, device and link
control, MSI-X control, AER masks. (PRESUMED: notes/assumptions/14.md) -/
def cfgMask (o : Nat) : Nat :=
  match o with
  | 0x04 => 0x0547
  | 0x0C => 0xFF
  | 0x10 => 0xFFF00000
  | 0x14 => 0xFFFFFFFF
  | 0x1C => 0xFFFFFFF0
  | 0x20 => 0xFFFFE000
  | 0x24 => 0xFFFFFFFF
  | 0x3C => 0xFF
  | 0x44 => 0x3
  | 0x58 => 0x7FFF
  | 0x60 => 0x0FFF
  | 0xB0 => 0xC0000000
  | 0x108 => 0x07FFF030
  | 0x10C => 0x07FFF030
  | 0x114 => 0x0000F1C1
  | _ => 0

/-- The configuration word at `o` as a read returns it. -/
def State.cfgRead (s : State) (o : Nat) : Nat :=
  let h := s.dev.host
  let link := s.f HOST_LINK HOST_LINK.SPEED + s.f HOST_LINK HOST_LINK.WIDTH * 16
  let live := if o = 0x44 then (if h.d3 then 3 else 0) else if o = 0x60 then link * 2 ^ 16 else 0
  Nat.lor (Nat.lor (cfgFixed s.dies o) (h.cfg.look 0 o).toNat) live

/-- A write of the configuration word at `o`: the bytes that `be` enables; what has waited for Bus Master Enable is sent (R470, R471, R476,
R483). (PRESUMED: notes/assumptions/14.md) -/
def State.cfgWrite (s : State) (o be v : Nat) : State :=
  let lanes := (List.range 4).foldl (fun m i => if bitOf be i then m + 255 * 256 ^ i else m) 0
  let k := BitVec.ofNat 32 (Nat.land lanes (cfgMask o))
  let w := BitVec.ofNat 32 v
  let h := s.dev.host
  let old := h.cfg.look 0 o
  let new := if o = aerStatus then old &&& ~~~(w &&& BitVec.ofNat 32 lanes) else (old &&& ~~~k) ||| (w &&& k)
  if o = 0x44 then
    if k = 0 then s
    else if new.toNat % 4 = 3 then s.linkDown 3
    else s.setHost { h with d3 := false }
  else
    let h := { h with cfg := h.cfg.put 0 o new }
    let h := if o = 0x04 then { h with memSpace := bitOf new.toNat 1, busMaster := bitOf new.toNat 2 } else h
    let h := if o = 0xB0 then { h with msixEn := bitOf new.toNat 31, funcMask := bitOf new.toNat 30 } else h
    ((s.setHost h).msixFlush).jobRecords

/-- A configuration request: a read, or a write of `wr` with byte enables `be`. -/
def State.cfgRequest (s : State) (off be : Nat) (wr : Option Word) : State :=
  if !s.dev.boot.fused || s.f HOST_LINK HOST_LINK.SPEED = 0 then s
  else match wr with
    | some v => s.cfgWrite (off % 4096 / 4 * 4) be v.toNat
    | none => s.setRead (leBytes 4 (s.cfgRead (off % 4096 / 4 * 4)))

/-! ### MSI-X table (R470, R483) -/

/-- A 32-bit write to BAR4 outside the doorbells. (DEDUCED: notes/assumptions/23.md) -/
def State.tableWrite (s : State) (off v : Nat) : State :=
  if !s.portOn .host || off < 0x40 then s
  else if 0x1000 ≤ off && off < 0x1400 then
    let k := (off - 0x1000) / 16
    let h := s.dev.host
    let e := h.vectors.look MsixVec.dflt k
    let e := match (off - 0x1000) % 16 / 4 with
      | 0 => { e with addr := e.addr / 2 ^ 32 * 2 ^ 32 + v % 2 ^ 32 / 4 * 4 }
      | 1 => { e with addr := e.addr % 2 ^ 32 + v % 2 ^ 32 * 2 ^ 32 }
      | 2 => { e with data := v % 2 ^ 32 }
      | _ => { e with masked := bitOf v 0 }
    (s.setHost { h with vectors := h.vectors.put MsixVec.dflt k e }).msixFlush
  else s.accErr 5 off

/-! ### Commands -/

/-- A host write through BAR2. -/
def execBar2Write (o : Nat) (data : List Byte) (s : State) : Out := .next (s.run (·.bar2Write o data))

/-- A host read through BAR2. -/
def execBar2Read (o n : Nat) (s : State) : Out := .next (s.run (·.bar2Read o n))

/-- The host link goes down, or the function enters D3hot. -/
def execHostLinkDown (kind : Nat) (s : State) : Out := .next (s.run (·.linkDown kind))

/-- The host link trains. -/
def execHostLinkUp (speed width : Nat) (s : State) : Out := .next (s.runDev (·.linkUp speed width))

/-- A configuration request. -/
def execConfigurationRequest (off be : Nat) (wr : Option Word) (s : State) : Out := .next (s.run (·.cfgRequest off be wr))

/-- A write of the MSI-X table. -/
def execMsixTableWrite (off : Nat) (v : Word) (s : State) : Out := .next (s.runDev (·.tableWrite off v.toNat))

/-- Dd_RC_PERST_L of die 0 or 1 (no other die has a root port, R21) is released, 100 ms after the port's clock has started (R515). (DEDUCED:
notes/assumptions/26.md) -/
def execRcPerstLRelease (d : Nat) (s : State) : Out :=
  .next (s.runDev fun s =>
    if s.dev.boot.fused && d < 2 && d < s.dies then s.setHost { s.dev.host with rcPerst := s.dev.host.rcPerst.put false d true } else s)

end Sys2Proof.Machine
end

