-- ==== Sys2Proof/Machine/Jtag.lean ====
section
/-! DEFINITION. The JTAG port (R516): the TAP of IEEE 1149.1 through the populated dies. The spec gives IDCODE; what BYPASS does is IEEE
1149.1's; the length and the codes of an instruction register, and what any other instruction captures, are free values. -/
namespace Sys2Proof.Machine

/-- The next state of the TAP controller. (PRESUMED: notes/assumptions/25.md) -/
def TapState.next (t : TapState) (tms : Bool) : TapState :=
  match t, tms with
  | .reset, true => .reset
  | .reset, false => .idle
  | .idle, true => .selDr
  | .idle, false => .idle
  | .selDr, true => .selIr
  | .selDr, false => .capDr
  | .capDr, true => .ex1Dr
  | .capDr, false => .shDr
  | .shDr, true => .ex1Dr
  | .shDr, false => .shDr
  | .ex1Dr, true => .updDr
  | .ex1Dr, false => .pauDr
  | .pauDr, true => .ex2Dr
  | .pauDr, false => .pauDr
  | .ex2Dr, true => .updDr
  | .ex2Dr, false => .shDr
  | .updDr, true => .selDr
  | .updDr, false => .idle
  | .selIr, true => .reset
  | .selIr, false => .capIr
  | .capIr, true => .ex1Ir
  | .capIr, false => .shIr
  | .shIr, true => .ex1Ir
  | .shIr, false => .shIr
  | .ex1Ir, true => .updIr
  | .ex1Ir, false => .pauIr
  | .pauIr, true => .ex2Ir
  | .pauIr, false => .pauIr
  | .ex2Ir, true => .updIr
  | .ex2Ir, false => .shIr
  | .updIr, true => .selDr
  | .updIr, false => .idle

/-- IDCODE of every die. -/
def tapIdcode : Nat := 0xB1A5B6F7

/-- Bits of one die's instruction register: at least the two that Capture-IR fixes. (DESIGN CHOICE: notes/assumptions/25.md) -/
def tapIrLen : Nat := max 2 Config.tapIrBits

/-- The instruction of a code: all ones is BYPASS. (PRESUMED: notes/assumptions/25.md) -/
def TapInstr.ofBits (ir : List Bool) : TapInstr :=
  if ir.all id then .bypass else if ir = Config.tapIdcodeIr then .idcode else .other ir

/-- `n` free bits. -/
def State.freeBits (s : State) (n : Nat) : List Bool × State :=
  (List.range n).foldl (fun (a : List Bool × State) _ => let r := a.2.draw; (a.1 ++ [bitOf r.1 0], r.2)) ([], s)

/-- What Capture-DR loads into the data register that an instruction selects, the bit next to TDO first. (PRESUMED: notes/assumptions/25.md) -/
def TapInstr.capture (i : TapInstr) (s : State) : List Bool × State :=
  match i with
  | .idcode => ((List.range 32).map fun b => bitOf tapIdcode b, s)
  | .bypass => ([false], s)
  | .other ir => s.freeBits (max 1 (Config.tapDrBits ir))

/-- The dies of the chain from TDO to TDI: it runs through the populated dies in increasing die number (R516). -/
def State.chain (s : State) : List Nat := (List.range s.dies).reverse

/-- The instruction of die d. -/
def TapSt.instr (t : TapSt) (d : Nat) : TapInstr := t.instrs.getD d .idcode

/-- Capture-DR: the registers that the instructions select, in the order of the chain. -/
def State.captureDr (s : State) : List Bool × State :=
  s.chain.foldl (fun (a : List Bool × State) d =>
    let r := (s.dev.tap.instr d).capture a.2
    (a.1 ++ r.1, r.2)) ([], s)

/-- Capture-IR: 01 in the two bits next to TDO of each die's register, 1 first; the others are free. (PRESUMED: notes/assumptions/25.md) -/
def State.captureIr (s : State) : List Bool × State :=
  s.chain.foldl (fun (a : List Bool × State) _ =>
    let r := a.2.freeBits (tapIrLen - 2)
    (a.1 ++ [true, false] ++ r.1, r.2)) ([], s)

/-- The instructions that Update-IR makes of the shift path, by die. -/
def State.updateIr (s : State) : List TapInstr :=
  (List.range s.dies).map fun d => .ofBits ((s.dev.tap.ir.drop (tapIrLen * (s.dies - 1 - d))).take tapIrLen)

/-- One shift of a path towards TDO. -/
def shiftIn (path : List Bool) (tdi : Bool) : List Bool := if path.isEmpty then [] else path.drop 1 ++ [tdi]

/-- Put the TAP back. -/
def State.setTap (s : State) (t : TapSt) : State := { s with dev := { s.dev with tap := t } }

/-- A rising edge of TCK: the state left decides what happens (shift, capture), then the controller moves. (PRESUMED: notes/assumptions/25.md) -/
def State.tapRise (s : State) (tms tdi : Bool) : State :=
  let t := s.dev.tap
  let move (x : TapSt) : TapSt := { x with st := t.st.next tms }
  match t.st with
  | .capDr => let r := s.captureDr; r.2.setTap (move { t with path := r.1 })
  | .capIr => let r := s.captureIr; r.2.setTap (move { t with ir := r.1 })
  | .shDr => s.setTap (move { t with path := shiftIn t.path tdi })
  | .shIr => s.setTap (move { t with ir := shiftIn t.ir tdi })
  | _ => s.setTap (move t)

/-- A falling edge of TCK: Update acts, TDO changes. (PRESUMED: notes/assumptions/25.md) -/
def State.tapFall (s : State) : State :=
  let t := s.dev.tap
  match t.st with
  | .reset => s.setTap { t with instrs := [], tdo := none }
  | .updIr => s.setTap { t with instrs := s.updateIr, tdo := none }
  | .shDr => s.setTap { t with tdo := t.path.head? }
  | .shIr => s.setTap { t with tdo := t.ir.head? }
  | _ => s.setTap { t with tdo := none }

/-- An edge of TCK; `trst`: TRST_L is low, which holds the TAP in Test-Logic-Reset. -/
def execTckEdge (rise tms tdi trst : Bool) (s : State) : Out :=
  .next (s.runDev fun s =>
    if !s.dev.boot.supplies then s
    else if trst then s.setTap .reset
    else if rise then s.tapRise tms tdi
    else s.tapFall)

end Sys2Proof.Machine
end

