-- ==== Sys2Proof/Machine/Mgmt.lean ====
section
/-! DEFINITION. The SPI management target (R485 to R488): frames and their results. -/
namespace Sys2Proof.Machine

/-- RESULT codes of R487. -/
inductive FrameRes where
  | ok | crc | ovf | badFrame | denied
deriving DecidableEq, Repr

/-- The code of a RESULT. -/
def FrameRes.code : FrameRes → Nat
  | .ok => 0 | .crc => 1 | .ovf => 2 | .badFrame => 3 | .denied => 4

/-- A big-endian number from its bytes (R485). -/
def beNat (bs : List Byte) : Nat := bs.foldl (fun n b => 256 * n + b.toNat) 0

/-- The check of a frame with command `cmd`: `body` follows CMD; `alen` address bytes, `lim` the largest N, `wr`: data words follow the
address. The result, the word count, the address, the data. (DEDUCED: notes/assumptions/24.md) -/
def frameParse (cmd alen lim : Nat) (wr : Bool) (body : List Byte) : FrameRes × Nat × Nat × List Byte :=
  let n := (body.getD 0 0).toNat
  let len := 1 + alen + (if wr then 4 * (n + 1) else 0) + 2
  let a := beNat ((body.drop 1).take alen)
  if body.length < 1 + alen + 2 || lim < n || body.length != len then (.badFrame, 0, 0, [])
  else if (crc16 (BitVec.ofNat 8 cmd :: body.take (len - 2))).toNat != leNat (body.drop (len - 2)) then (.crc, n + 1, a, [])
  else if a % 4 != 0 then (.badFrame, n + 1, a, [])
  else (.ok, n + 1, a, (body.drop (1 + alen)).take (if wr then 4 * (n + 1) else 0))

/-- RESULT of a write frame; one that is not OK is an access error (R487, R475). -/
def State.mgmtDone (s : State) (r : FrameRes) (a : Nat) : State :=
  let s : State := { s with dev := { s.dev with host := { s.dev.host with frameRes := r.code, miso := [] } } }
  if r = .ok then s else s.accErr 6 (a % 2 ^ 20)

/-- The receive FIFO has overflowed (R31). -/
def State.spiOvf (s : State) : State := (s.leaf 0 (DIE_XFIFO_ERR 0) DIE_XFIFO_ERR.SPI_OVF).mgmtDone .ovf 0

/-- The word at place `i` of a frame's data. -/
def frameWord (data : List Byte) (i : Nat) : Nat := leNat ((data.drop (4 * i)).take 4)

/-- A frame with an unknown CMD: BAD_FRAME, an access error, no other effect (R487). -/
def State.unknownFrame (s : State) : State := s.mgmtDone .badFrame 0

/-- A register write frame (R486, R487, R176); without a body it is a frame whose CMD the part does not know.
(DEDUCED: notes/assumptions/24.md) -/
def State.regFrame (s : State) (body : List Byte) (ovf : Bool) : State :=
  if !s.dev.boot.fused then s.setMiso []
  else if ovf then s.spiOvf
  else if body.isEmpty then s.unknownFrame
  else
    let p := frameParse 0x02 3 13 true body
    if p.1 != .ok then s.mgmtDone p.1 p.2.2.1
    else
      let s := (List.range p.2.1).foldl (fun s i => s.wr .mgmt (p.2.2.1 + 4 * i) (frameWord p.2.2.2 i)) s
      if s.dev.boot.fused then s.mgmtDone .ok 0 else s

/-- A memory write frame (R487, R488). (DEDUCED: notes/assumptions/24.md) -/
def State.memFrame (s : State) (body : List Byte) (ovf : Bool) : State :=
  if !s.dev.boot.fused then s.setMiso []
  else if ovf then s.spiOvf
  else
    let p := frameParse 0x12 5 12 true body
    let a := p.2.2.1
    if p.1 != .ok then s.mgmtDone p.1 a
    else match (List.range p.2.1).find? fun i => s.rangeBad (a + 4 * i) 4 with
    | some i => (s.addrError 0 (a + 4 * i)).mgmtDone .denied a
    | none =>
      let r := (List.range p.2.1).foldl (fun (acc : State × Bool) i =>
        let w := acc.1.write ⟨6, true, true, none, 0⟩ ((a + 4 * i) % 2 ^ 40) ((p.2.2.2.drop (4 * i)).take 4)
        (w.1, acc.2 || w.2 = .pin)) (s, false)
      r.1.mgmtDone (if r.2 then .denied else .ok) a

/-- A read frame that the part does not answer with data: before the end of the fuse load, with a header that fails, or (`late`) where the
data is not ready within 64 wait bytes, in which case the read is not performed (R486). (DEDUCED: notes/assumptions/24.md) -/
def State.readRefused (s : State) (p : FrameRes) (late : Bool) : Option State :=
  if !s.dev.boot.fused then some (s.setMiso (if s.f CHIP_BOOT_STATUS CHIP_BOOT_STATUS.STAGE = 1 then [0xE1] else []))
  else if p != .ok then some (s.setMiso [0xEC])
  else if late then some (s.setMiso [0xE1])
  else none

/-- A register read frame (R486, R176). (DEDUCED: notes/assumptions/24.md) -/
def State.regReadFrame (s : State) (body : List Byte) (late : Bool) : State :=
  let p := frameParse 0x0B 3 13 false body
  match s.readRefused p.1 late with
  | some t => t
  | none =>
    let a := p.2.2.1
    if s.b KNOT_STATUS KNOT_STATUS.BUSY && (List.range p.2.1).any fun i => holdsRead (a + 4 * i) then
      s.setKnot { s.dev.knot with held := s.dev.knot.held ++ [.frame a p.2.1] }
    else s.applyFrame a p.2.1

/-- A memory read frame (R486, R488). -/
def State.memReadFrame (s : State) (body : List Byte) (late : Bool) : State :=
  let p := frameParse 0x1B 5 12 false body
  match s.readRefused p.1 late with
  | some t => t
  | none =>
    let r := s.read 6 0 p.2.2.1 (4 * p.2.1)
    r.2.2.setMiso (frameData r.1)

/-- A write of the last frame still waits (R176). -/
def Held.byMgmt : Held → Bool
  | .write .mgmt .. => true
  | _ => false

/-- The status byte (R487). (DEDUCED: notes/assumptions/24.md) -/
def State.statusByte (s : State) : Nat :=
  (if s.dev.knot.held.any (·.byMgmt) then 128 else 0) + (if s.intLow then 64 else 0) + s.dev.host.frameRes % 16

/-- The command of the opcode table that a frame is, from its bytes as the master sends them; `ovf`: the receive FIFO overflowed, `late`: the
data is not ready within 64 wait bytes. An unknown CMD acts as a write frame without a body (R486, R487). (DEDUCED: notes/assumptions/24.md) -/
def spiCommand (ovf late : Bool) : List Byte → Option Instr
  | [] => none
  | c :: body => match c.toNat with
    | 0x02 => some (.registerWrite body ovf)
    | 0x0B => some (.registerRead ⟨body, late⟩)
    | 0x12 => some (.memoryWrite body ovf)
    | 0x1B => some (.memoryRead ⟨body, late⟩)
    | 0x05 => some .statusFrame
    | 0x9F => some .identify
    | _ => some (.registerWrite [] ovf)

/-! ### Commands -/

/-- A register write frame; `body` follows CMD, `ovf`: the receive FIFO overflowed. -/
def execRegisterWrite (body : List Byte) (ovf : Bool) (s : State) : Out := .next (s.run (·.regFrame body ovf))

/-- A register read frame. -/
def execRegisterRead (x : ReadFrame) (s : State) : Out := .next (s.runDev (·.regReadFrame x.body x.late))

/-- A memory write frame. -/
def execMemoryWrite (body : List Byte) (ovf : Bool) (s : State) : Out := .next (s.run (·.memFrame body ovf))

/-- A memory read frame. -/
def execMemoryRead (x : ReadFrame) (s : State) : Out := .next (s.run (·.memReadFrame x.body x.late))

/-- A status frame. -/
def execStatusFrame (s : State) : Out :=
  .next (s.runDev fun s => s.setMiso (if s.dev.boot.fused then [BitVec.ofNat 8 s.statusByte] else []))

/-- An identify frame. -/
def execIdentify (s : State) : Out := .next (s.runDev fun s => s.setMiso (if s.dev.boot.fused then leBytes 4 (s.reg CHIP_ID) else []))

end Sys2Proof.Machine
end

