-- ==== Sys2Proof/Machine/Dispatch.lean ====
section
/-! DEFINITION. One arm for each command: the meaning it calls. -/
namespace Sys2Proof.Machine

def exec (i : Instr) (s : State) : Host.Outcome State Fault Refusal :=
  match i with
  | .resetLAssert pulseNs => Sys2Proof.Machine.execResetLAssert pulseNs s
  | .resetLRelease bootMode refclk => Sys2Proof.Machine.execResetLRelease bootMode refclk s
  | .powerUp => Sys2Proof.Machine.execPowerUp s
  | .powerDown => Sys2Proof.Machine.execPowerDown s
  | .fuseLoadDone fuses straps speed width => Sys2Proof.Machine.execFuseLoadDone fuses straps speed width s
  | .selftestDone results => Sys2Proof.Machine.execSelftestDone results s
  | .imageSourceReadDone bytes => Sys2Proof.Machine.execImageSourceReadDone bytes s
  | .nvmeDriveTimeout => Sys2Proof.Machine.execNvmeDriveTimeout s
  | .bootGo who => Sys2Proof.Machine.execBootGo who s
  | .reqReset who => Sys2Proof.Machine.execReqReset who s
  | .reqIdle who => Sys2Proof.Machine.execReqIdle who s
  | .reqLive who => Sys2Proof.Machine.execReqLive who s
  | .reqCoil who => Sys2Proof.Machine.execReqCoil who s
  | .reqCalibrate who => Sys2Proof.Machine.execReqCalibrate who s
  | .reqLinkTest who => Sys2Proof.Machine.execReqLinkTest who s
  | .reqDormant who => Sys2Proof.Machine.execReqDormant who s
  | .reqReload who => Sys2Proof.Machine.execReqReload who s
  | .reqReservedMode who code => Sys2Proof.Machine.execReqReservedMode who code s
  | .reloadDone bytes => Sys2Proof.Machine.execReloadDone bytes s
  | .fatalChipError cause => Sys2Proof.Machine.execFatalChipError cause s
  | .dieFault d cause afterCopy => Sys2Proof.Machine.execDieFault d cause afterCopy s
  | .blockFault d b => Sys2Proof.Machine.execBlockFault d b s
  | .cellFault d e cause => Sys2Proof.Machine.execCellFault d e cause s
  | .frameStart => Sys2Proof.Machine.execFrameStart s
  | .lineStart ds => Sys2Proof.Machine.execLineStart ds s
  | .vbStart => Sys2Proof.Machine.execVbStart s
  | .lineMatch d k => Sys2Proof.Machine.execLineMatch d k s
  | .knotLineStart noVideo => Sys2Proof.Machine.execKnotLineStart noVideo s
  | .knotWindowEnd ticks => Sys2Proof.Machine.execKnotWindowEnd ticks s
  | .knotReq who => Sys2Proof.Machine.execKnotReq who s
  | .knotCancel who => Sys2Proof.Machine.execKnotCancel who s
  | .readyArm who addr => Sys2Proof.Machine.execReadyArm who addr s
  | .readyDisarm who addr => Sys2Proof.Machine.execReadyDisarm who addr s
  | .readySignal who addr => Sys2Proof.Machine.execReadySignal who addr s
  | .snapReq who => Sys2Proof.Machine.execSnapReq who s
  | .snapshotTake => Sys2Proof.Machine.execSnapshotTake s
  | .snapLive who => Sys2Proof.Machine.execSnapLive who s
  | .regWrite addr bytes val => Sys2Proof.Machine.execRegWrite addr bytes val s
  | .rcRead addr bytes => Sys2Proof.Machine.execRcRead addr bytes s
  | .loRead addr => Sys2Proof.Machine.execLoRead addr s
  | .knotPeekDataRead who => Sys2Proof.Machine.execKnotPeekDataRead who s
  | .palData addr wr => Sys2Proof.Machine.execPalData addr wr s
  | .coefData addr wr => Sys2Proof.Machine.execCoefData addr wr s
  | .lutData addr wr => Sys2Proof.Machine.execLutData addr wr s
  | .lanyPalData wr => Sys2Proof.Machine.execLanyPalData wr s
  | .lampDynData d => Sys2Proof.Machine.execLampDynData d s
  | .eccRepairData1 d => Sys2Proof.Machine.execEccRepairData1 d s
  | .calTrimData d wr => Sys2Proof.Machine.execCalTrimData d wr s
  | .nvmData who k wr => Sys2Proof.Machine.execNvmData who k wr s
  | .syncOutPulse n => Sys2Proof.Machine.execSyncOutPulse n s
  | .syncInPulse high word t => Sys2Proof.Machine.execSyncInPulse high word t s
  | .syncHoldover => Sys2Proof.Machine.execSyncHoldover s
  | .stampMeasure g => Sys2Proof.Machine.execStampMeasure g s
  | .frameSyncDeparture g m => Sys2Proof.Machine.execFrameSyncDeparture g m s
  | .frameDone d frame ticks => Sys2Proof.Machine.execFrameDone d frame ticks s
  | .segmentDeadline seg line frame => Sys2Proof.Machine.execSegmentDeadline seg line frame s
  | .sourceFrameStart d ofs enc bpc col rows => Sys2Proof.Machine.execSourceFrameStart d ofs enc bpc col rows s
  | .sourceFrameEnd d ovf => Sys2Proof.Machine.execSourceFrameEnd d ovf s
  | .auxTransaction d native wr a data n => Sys2Proof.Machine.execAuxTransaction d native wr a data n s
  | .dpLinkLoss d => Sys2Proof.Machine.execDpLinkLoss d s
  | .srcCtlWrite addr v => Sys2Proof.Machine.execSrcCtlWrite addr v s
  | .hpdLowExpiry d => Sys2Proof.Machine.execHpdLowExpiry d s
  | .wbSurfaceComplete d => Sys2Proof.Machine.execWbSurfaceComplete d s
  | .eotfLoadGo who addr => Sys2Proof.Machine.execEotfLoadGo who addr s
  | .eotfLoadDone d => Sys2Proof.Machine.execEotfLoadDone d s
  | .outLoadGo who addr => Sys2Proof.Machine.execOutLoadGo who addr s
  | .outLoadDone d => Sys2Proof.Machine.execOutLoadDone d s
  | .lampDynClr who addr => Sys2Proof.Machine.execLampDynClr who addr s
  | .feedSlotFill d g y => Sys2Proof.Machine.execFeedSlotFill d g y s
  | .groupStart eng => Sys2Proof.Machine.execGroupStart eng s
  | .groupEnd eng => Sys2Proof.Machine.execGroupEnd eng s
  | .nop eng => Sys2Proof.Machine.execNop eng s
  | .feed eng vd size sx shl off => Sys2Proof.Machine.execFeed eng vd size sx shl off s
  | .feedc eng vd esel off => Sys2Proof.Machine.execFeedc eng vd esel off s
  | .feeds eng sd off => Sys2Proof.Machine.execFeeds eng sd off s
  | .tld eng vd va size sx disp => Sys2Proof.Machine.execTld eng vd va size sx disp s
  | .tst eng va vb size disp => Sys2Proof.Machine.execTst eng va vb size disp s
  | .tlds eng sd sa disp => Sys2Proof.Machine.execTlds eng sd sa disp s
  | .lut1 eng vd va sb sh ef => Sys2Proof.Machine.execLut1 eng vd va sb sh ef s
  | .odi eng vd va vb q => Sys2Proof.Machine.execOdi eng vd va vb q s
  | .lgi eng vd va q => Sys2Proof.Machine.execLgi eng vd va q s
  | .odiLgiResult eng vd => Sys2Proof.Machine.execOdiLgiResult eng vd s
  | .mula eng va vb ua ub => Sys2Proof.Machine.execMula eng va vb ua ub s
  | .maca eng va vb ua ub => Sys2Proof.Machine.execMaca eng va vb ua ub s
  | .adda eng va ua sh => Sys2Proof.Machine.execAdda eng va ua sh s
  | .rda eng vd n sat => Sys2Proof.Machine.execRda eng vd n sat s
  | .mulr eng vd va vb ua ub n sat => Sys2Proof.Machine.execMulr eng vd va vb ua ub n sat s
  | .add eng vd va vb ua sat => Sys2Proof.Machine.execAdd eng vd va vb ua sat s
  | .sub eng vd va vb ua sat => Sys2Proof.Machine.execSub eng vd va vb ua sat s
  | .shl eng vd va vb byreg amt sat => Sys2Proof.Machine.execShl eng vd va vb byreg amt sat s
  | .shr eng vd va vb byreg amt arith rnd sat => Sys2Proof.Machine.execShr eng vd va vb byreg amt arith rnd sat s
  | .min eng vd va vb ua => Sys2Proof.Machine.execMin eng vd va vb ua s
  | .max eng vd va vb ua => Sys2Proof.Machine.execMax eng vd va vb ua s
  | .clmp eng vd va sat cnt => Sys2Proof.Machine.execClmp eng vd va sat cnt s
  | .and eng vd va vb => Sys2Proof.Machine.execAnd eng vd va vb s
  | .or eng vd va vb => Sys2Proof.Machine.execOr eng vd va vb s
  | .xor eng vd va vb => Sys2Proof.Machine.execXor eng vd va vb s
  | .cmp eng va vb ua cond => Sys2Proof.Machine.execCmp eng va vb ua cond s
  | .sel eng vd va vb => Sys2Proof.Machine.execSel eng vd va vb s
  | .vbc eng vd sa => Sys2Proof.Machine.execVbc eng vd sa s
  | .vldi eng vd hi imm => Sys2Proof.Machine.execVldi eng vd hi imm s
  | .sldi eng sd hi imm => Sys2Proof.Machine.execSldi eng sd hi imm s
  | .sadd eng sd sa sb => Sys2Proof.Machine.execSadd eng sd sa sb s
  | .dith eng vd va vb mode => Sys2Proof.Machine.execDith eng vd va vb mode s
  | .emit eng va stream lamp deadz => Sys2Proof.Machine.execEmit eng va stream lamp deadz s
  | .skip eng sa bit sense n => Sys2Proof.Machine.execSkip eng sa bit sense n s
  | .end_ eng => Sys2Proof.Machine.execEnd eng s
  | .undefinedOpcode eng => Sys2Proof.Machine.execUndefinedOpcode eng s
  | .peFenceReq who addr eng => Sys2Proof.Machine.execPeFenceReq who addr eng s
  | .enum g k count decl => Sys2Proof.Machine.execEnum g k count decl s
  | .stamp g addr rx seq => Sys2Proof.Machine.execStamp g addr rx seq s
  | .trim g addr rx trim => Sys2Proof.Machine.execTrim g addr rx trim s
  | .cfgWr g addr rx reg val => Sys2Proof.Machine.execCfgWr g addr rx reg val s
  | .cfgRd g addr rx reg => Sys2Proof.Machine.execCfgRd g addr rx reg s
  | .row g rx => Sys2Proof.Machine.execRow g rx s
  | .rowTOn g k => Sys2Proof.Machine.execRowTOn g k s
  | .fwdState g rx st frame => Sys2Proof.Machine.execFwdState g rx st frame s
  | .backState g rx off aux => Sys2Proof.Machine.execBackState g rx off aux s
  | .test g addr rx pattern dir mask us => Sys2Proof.Machine.execTest g addr rx pattern dir mask us s
  | .testResult g addr rx lane runs => Sys2Proof.Machine.execTestResult g addr rx lane runs s
  | .drive g bad => Sys2Proof.Machine.execDrive g bad s
  | .frameSync g k frame lead rx => Sys2Proof.Machine.execFrameSync g k frame lead rx s
  | .keep g k frame addr launch lead rx => Sys2Proof.Machine.execKeep g k frame addr launch lead rx s
  | .partnerLaunch g x => Sys2Proof.Machine.execPartnerLaunch g x s
  | .partnerOwnLaunch g x t => Sys2Proof.Machine.execPartnerOwnLaunch g x t s
  | .partnerLinkLoss g k training => Sys2Proof.Machine.execPartnerLinkLoss g k training s
  | .echo g addr tag seq wait rtt => Sys2Proof.Machine.execEcho g addr tag seq wait rtt s
  | .ack g addr tag op result reg data => Sys2Proof.Machine.execAck g addr tag op result reg data s
  | .decl g addr part excess d => Sys2Proof.Machine.execDecl g addr part excess d s
  | .status g addr f8 temp rxErr discard flags => Sys2Proof.Machine.execStatus g addr f8 temp rxErr discard flags s
  | .fault g addr lamps => Sys2Proof.Machine.execFault g addr lamps s
  | .wake g addr reason => Sys2Proof.Machine.execWake g addr reason s
  | .eq g lane pre post done fom seq => Sys2Proof.Machine.execEq g lane pre post done fom seq s
  | .backTrainBlock g lane phase done inv rev skew fwd back widths => Sys2Proof.Machine.execBackTrainBlock g lane phase done inv rev skew fwd back widths s
  | .backInvalidBlock g x => Sys2Proof.Machine.execBackInvalidBlock g x s
  | .invalidHeaderLimit g => Sys2Proof.Machine.execInvalidHeaderLimit g s
  | .cmdTimeout g addr tag => Sys2Proof.Machine.execCmdTimeout g addr tag s
  | .pcmdCfgRd who g addr reg => Sys2Proof.Machine.execPcmdCfgRd who g addr reg s
  | .pcmdCfgWr who g addr reg => Sys2Proof.Machine.execPcmdCfgWr who g addr reg s
  | .blockLock g lanes inv => Sys2Proof.Machine.execBlockLock g lanes inv s
  | .trainAttemptTimeout g => Sys2Proof.Machine.execTrainAttemptTimeout g s
  | .capSwitch g => Sys2Proof.Machine.execCapSwitch g s
  | .goCountdownEnd g => Sys2Proof.Machine.execGoCountdownEnd g s
  | .backoffExpiry g => Sys2Proof.Machine.execBackoffExpiry g s
  | .backSignalLost g => Sys2Proof.Machine.execBackSignalLost g s
  | .strRetrain who g v => Sys2Proof.Machine.execStrRetrain who g v s
  | .adaptFreeze g lane => Sys2Proof.Machine.execAdaptFreeze g lane s
  | .readaptWindowEnd g lane => Sys2Proof.Machine.execReadaptWindowEnd g lane s
  | .primerStamp g => Sys2Proof.Machine.execPrimerStamp g s
  | .backWakeTimeout g => Sys2Proof.Machine.execBackWakeTimeout g s
  | .prbsNearEnd who g pattern => Sys2Proof.Machine.execPrbsNearEnd who g pattern s
  | .prbsFarForward who g pattern addr => Sys2Proof.Machine.execPrbsFarForward who g pattern addr s
  | .prbsBack who g pattern addr => Sys2Proof.Machine.execPrbsBack who g pattern addr s
  | .prbsWindowEnd g runs => Sys2Proof.Machine.execPrbsWindowEnd g runs s
  | .injSingle who d n v => Sys2Proof.Machine.execInjSingle who d n v s
  | .injBurst who d n v => Sys2Proof.Machine.execInjBurst who d n v s
  | .injRate who d n v => Sys2Proof.Machine.execInjRate who d n v s
  | .nvmeCompletion d status => Sys2Proof.Machine.execNvmeCompletion d status s
  | .nvmeCmdTimeout d => Sys2Proof.Machine.execNvmeCmdTimeout d s
  | .driveReset d => Sys2Proof.Machine.execDriveReset d s
  | .driveUp d x bad => Sys2Proof.Machine.execDriveUp d x bad s
  | .ringFillDone err => Sys2Proof.Machine.execRingFillDone err s
  | .playlistLoaded => Sys2Proof.Machine.execPlaylistLoaded s
  | .bar2Write o data => Sys2Proof.Machine.execBar2Write o data s
  | .bar2Read o n => Sys2Proof.Machine.execBar2Read o n s
  | .dramWrite a data who => Sys2Proof.Machine.execDramWrite a data who s
  | .dramRead a n who upset => Sys2Proof.Machine.execDramRead a n who upset s
  | .mergeTimeout a => Sys2Proof.Machine.execMergeTimeout a s
  | .scrubRead d what lap => Sys2Proof.Machine.execScrubRead d what lap s
  | .scrubStarved d => Sys2Proof.Machine.execScrubStarved d s
  | .whipBatchStart d u => Sys2Proof.Machine.execWhipBatchStart d u s
  | .whipBatchDone d u up down last => Sys2Proof.Machine.execWhipBatchDone d u up down last s
  | .repairSave d fail => Sys2Proof.Machine.execRepairSave d fail s
  | .protEnable who addr base => Sys2Proof.Machine.execProtEnable who addr base s
  | .protDisable who addr base => Sys2Proof.Machine.execProtDisable who addr base s
  | .protInitDone d k => Sys2Proof.Machine.execProtInitDone d k s
  | .sqDoorbell r v => Sys2Proof.Machine.execSqDoorbell r v s
  | .cqDoorbell r v => Sys2Proof.Machine.execCqDoorbell r v s
  | .descriptorFetch desc => Sys2Proof.Machine.execDescriptorFetch desc s
  | .copy j => Sys2Proof.Machine.execCopy j s
  | .fill j => Sys2Proof.Machine.execFill j s
  | .hostRd j data => Sys2Proof.Machine.execHostRd j data s
  | .hostWr j ok => Sys2Proof.Machine.execHostWr j ok s
  | .zbcEncode j => Sys2Proof.Machine.execZbcEncode j s
  | .zbcDecode j => Sys2Proof.Machine.execZbcDecode j s
  | .zlcCompress j => Sys2Proof.Machine.execZlcCompress j s
  | .zlcDecompress j => Sys2Proof.Machine.execZlcDecompress j s
  | .storeWr j fail => Sys2Proof.Machine.execStoreWr j fail s
  | .storeRd j fail => Sys2Proof.Machine.execStoreRd j fail s
  | .storeFlush j fail => Sys2Proof.Machine.execStoreFlush j fail s
  | .jobComplete j => Sys2Proof.Machine.execJobComplete j s
  | .jobAbort who r v => Sys2Proof.Machine.execJobAbort who r v s
  | .jobRingDisable who r v => Sys2Proof.Machine.execJobRingDisable who r v s
  | .jobRingEnable who r v => Sys2Proof.Machine.execJobRingEnable who r v s
  | .hostLinkDown kind => Sys2Proof.Machine.execHostLinkDown kind s
  | .nvmRead who k => Sys2Proof.Machine.execNvmRead who k s
  | .nvmWrite who k fail => Sys2Proof.Machine.execNvmWrite who k fail s
  | .nvmDelete who k fail => Sys2Proof.Machine.execNvmDelete who k fail s
  | .ctrRead who k => Sys2Proof.Machine.execCtrRead who k s
  | .ctrAdd who k fail => Sys2Proof.Machine.execCtrAdd who k fail s
  | .ctrSet who k fail => Sys2Proof.Machine.execCtrSet who k fail s
  | .nvmBpWrite who v => Sys2Proof.Machine.execNvmBpWrite who v s
  | .nvmBpLockWrite who v => Sys2Proof.Machine.execNvmBpLockWrite who v s
  | .calRunDone refs pairs => Sys2Proof.Machine.execCalRunDone refs pairs s
  | .vrefCheck samples => Sys2Proof.Machine.execVrefCheck samples s
  | .tempSample samples => Sys2Proof.Machine.execTempSample samples s
  | .avsAck d => Sys2Proof.Machine.execAvsAck d s
  | .avsTimeout d => Sys2Proof.Machine.execAvsTimeout d s
  | .unitWakeTimer d unit us next starved => Sys2Proof.Machine.execUnitWakeTimer d unit us next starved s
  | .wakeOnDemand d unit us next starved => Sys2Proof.Machine.execWakeOnDemand d unit us next starved s
  | .dormantWakeTimer => Sys2Proof.Machine.execDormantWakeTimer s
  | .pwrWakeReq => Sys2Proof.Machine.execPwrWakeReq s
  | .lanyCommitReq buf => Sys2Proof.Machine.execLanyCommitReq buf s
  | .lanyProtWrite len v => Sys2Proof.Machine.execLanyProtWrite len v s
  | .lanyLockWrite v => Sys2Proof.Machine.execLanyLockWrite v s
  | .registerWrite body ovf => Sys2Proof.Machine.execRegisterWrite body ovf s
  | .registerRead x => Sys2Proof.Machine.execRegisterRead x s
  | .memoryWrite body ovf => Sys2Proof.Machine.execMemoryWrite body ovf s
  | .memoryRead x => Sys2Proof.Machine.execMemoryRead x s
  | .statusFrame => Sys2Proof.Machine.execStatusFrame s
  | .identify => Sys2Proof.Machine.execIdentify s
  | .srcLinkUp d lanes rate => Sys2Proof.Machine.execSrcLinkUp d lanes rate s
  | .irqHpdEnd d => Sys2Proof.Machine.execIrqHpdEnd d s
  | .trainBlindEnd g => Sys2Proof.Machine.execTrainBlindEnd g s
  | .hostLinkUp speed width => Sys2Proof.Machine.execHostLinkUp speed width s
  | .rcPerstLRelease d => Sys2Proof.Machine.execRcPerstLRelease d s
  | .peFenceCauseRead d => Sys2Proof.Machine.execPeFenceCauseRead d s
  | .msixTableWrite off v => Sys2Proof.Machine.execMsixTableWrite off v s
  | .configurationRequest off be wr => Sys2Proof.Machine.execConfigurationRequest off be wr s
  | .cstsCfs d => Sys2Proof.Machine.execCstsCfs d s
  | .tckEdge rise tms tdi trst => Sys2Proof.Machine.execTckEdge rise tms tdi trst s

end Sys2Proof.Machine
end

