-- ==== Sys2Proof/Machine/Step.lean ====
section
/-! DEFINITION. One step of the block: the command at the front of the queue takes effect. A step on an empty queue changes nothing
(notes/assumptions/4.md). -/
namespace Sys2Proof.Machine

/-- One step: the command at the front of the queue, with the rest of the queue still waiting. (DESIGN CHOICE: notes/assumptions/4.md) -/
def step (s : State) : Host.Outcome State Fault Refusal :=
  match s.pending with
  | [] => .next s
  | c :: cs => exec c { s with pending := cs }

/-- The state with the command that a word spells at the front of its queue; the opcode table gives no row bits, so no word spells
one. (DESIGN CHOICE: notes/assumptions/6.md) -/
def State.withFetchWord (s : State) (nbits w : Nat) : State :=
  match decodeTableWord nbits w with
  | some c => { s with pending := c :: s.pending }
  | none => s

end Sys2Proof.Machine
end

