-- ==== Sys2Proof/Safety.lean ====
section
/-! DEFINITION. The words that the statements are made of: a command that completes with an effect, and what a command leaves
unchanged. -/
namespace Sys2Proof.Machine

/-- The command answers a next state, and that state has the effect `e`. -/
def Completes (c : Instr) (s : State) (e : State → Prop) : Prop := ∃ t, exec c s = .next t ∧ e t

/-- The byte of DRAM at a device address. -/
def State.dramByte (s : State) (a : Nat) : Byte := AMap.get (fun _ => (0 : Byte)) s.dram a

/-- DRAM in its canonical form: addresses strictly rising, no entry equal to what an unlisted address reads as.
(DESIGN CHOICE: notes/assumptions/5.md) -/
abbrev Memory.wf (m : List Host.Cell) : Prop := AMap.wf (fun _ => (0 : Byte)) m = true

/-- Every byte of DRAM reads as before. -/
def KeepsDram (s t : State) : Prop := ∀ a, t.dramByte a = s.dramByte a

/-- Every register of BAR0 but those listed has the current value that it had. -/
def KeepsRegs (s t : State) (but : List Nat) : Prop := ∀ a, a ∉ but → t.regW a = s.regW a

/-- DRAM, the die count, the waiting commands and every register but those listed are as before, and of everything else only what `f`
puts back has changed. -/
def Keeps (s t : State) (but : List Nat) (f : Dev → Dev) : Prop :=
  KeepsDram s t ∧ KeepsRegs s t but ∧ t.dies = s.dies ∧ t.pending = s.pending ∧
    { f t.dev with regs := s.dev.regs } = s.dev

/-- Only engine `eng` and the registers listed have changed. -/
def KeepsButEngine (s t : State) (eng : Nat) (but : List Nat) : Prop :=
  Keeps s t but (fun d => { d with engines := s.dev.engines }) ∧ ∀ x, x ≠ eng → t.engine x = s.engine x

/-- Only the registers listed have changed. -/
def KeepsButRegs (s t : State) (but : List Nat) : Prop := Keeps s t but id

/-- The engine as it is once the pending results for `srcs` have arrived (R249). -/
def State.waited (s : State) (eng : Nat) (srcs : List Nat) : Engine := (s.engine eng).await srcs

/-- The instruction `c` of engine `eng` waits for `srcs`, takes `cost` handshakes and steps to the next instruction; of the engine only
what `f` puts back changes besides, of the part only the registers listed, and `e` holds of the engine after it. -/
def EngineStep (c : Instr) (s : State) (eng : Nat) (srcs : List Nat) (cost : Nat) (but : List Nat) (f : Engine → Engine)
    (e : Engine → Prop) : Prop :=
  Completes c s fun t =>
    (t.engine eng).pc = (s.engine eng).pc + 1 ∧ (t.engine eng).hs = (s.waited eng srcs).hs + cost ∧
    { f (t.engine eng) with
      pc := (s.waited eng srcs).pc
      hs := (s.waited eng srcs).hs
      clips := (s.waited eng srcs).clips
      accErr := (s.waited eng srcs).accErr } = s.waited eng srcs ∧
    KeepsButEngine s t eng but ∧ e (t.engine eng)

/-- An instruction that writes the four lanes of VD with `lane` and no other vector register. -/
def VectorResult (c : Instr) (s : State) (eng vd : Nat) (srcs : List Nat) (cost : Nat) (but : List Nat) (lane : Nat → Word) : Prop :=
  EngineStep c s eng srcs cost but (fun e => { e with v := (s.waited eng srcs).v }) fun e =>
    (∀ k, k < 4 → e.vl vd k = lane k) ∧ ∀ r k, r ≠ vd → k < 4 → e.vl r k = (s.waited eng srcs).vl r k

/-- An instruction that writes scalar SD with `w` and no other scalar register. -/
def ScalarResult (c : Instr) (s : State) (eng sd : Nat) (cost : Nat) (but : List Nat) (w : Word) : Prop :=
  EngineStep c s eng [] cost but (fun e => { e with sc := (s.engine eng).sc }) fun e =>
    e.sr sd = w ∧ ∀ r, r ≠ sd → e.sr r = (s.engine eng).sr r

/-- An instruction that writes the four accumulators, saturated to 64 bits (R237). -/
def AccResult (c : Instr) (s : State) (eng : Nat) (srcs : List Nat) (cost : Nat) (lane : Nat → Int) : Prop :=
  EngineStep c s eng srcs cost [] (fun e => { e with acc := (s.waited eng srcs).acc }) fun e =>
    ∀ k, k < 4 → e.al k = clampI (-(2 ^ 63)) (2 ^ 63 - 1) (lane k)

/-- The lane of a TST, if any, whose element is the last to land on scratchpad byte `x`; `a` gives each lane's address. -/
def lastStore (a : Nat → Nat) (n x : Nat) : Option Nat :=
  [3, 2, 1, 0].find? fun k => padStoreOk (a k) n && decide (a k ≤ x) && decide (x < a k + n)

/-- A register access of requester `who` at BAR0 offset `a` is answered at once: the port works, `a` answers in this stage of the start-up
(R45), and no shadow transfer window is open (R176). -/
abbrev State.admits (s : State) (who : Requester) (a : Nat) : Prop := s.answers who a = true ∧ s.b KNOT_STATUS KNOT_STATUS.BUSY = false

/-- A write of the register at `a` does nothing but what the access classes of its bits say: it starts no process, steps no index, is no half of
a pair, and no lock, range or request stands behind it. -/
def plainReg (a : Nat) : Bool :=
  let o := a % 0x10000
  let die (l : List Nat) : Bool := l.any fun b => b % 0x10000 = o
  (rowAt a).isSome && !isWriteLo a && !isWriteLo (a - 4) &&
    if a < 0x10000 then
      !([CHIP_MODE_REQ, CHIP_BOOT_CTL, CHIP_SNAP, KNOT_REQ, HOST_IRQ_STAT, HOST_IRQ_JOB, HOST_IRQ_EN, HOST_IRQ_JOB_EN, HOST_MGMT_IRQ_STAT,
          HOST_MGMT_IRQ_EN, COIL_CTL, BLY_CTL, PWR_CTL, PWR_WAKE_REQ].contains a ||
        (0x1800 ≤ a && a < 0x1C00) || (0x2C00 ≤ a && a < 0x3000) || (List.range 8).any fun r => a = JOB_CTL r || a = JOB_SIZE r)
    else
      !(die [SRC_CTL 0, LAMP_EOTF_LOAD 0, LAMP_OUT_LOAD 0, LAMP_DYN_CLR 0, PE_FENCE_REQ 0, CAL_TRIM_DATA 0, PWR_DIE_CTL 0, PCK_POS 0 15,
          PCK_POS 0 15 + 4, PCK_POS 0 15 + 8, PCK_POS 0 15 + 12, PCK_POS 0 15 + 16, PCK_POS 0 15 + 20, PCK_POS 0 15 + 24, PCK_POS 0 15 + 28] ||
        (List.range 7).any (fun n => die [LYR_PAL_DATA 0 n, LYR_COEF_DATA 0 n, LYR_LUT_DATA 0 n, LYR_LUT_IDX 0 n, LYR_READY 0 n]) ||
        (List.range 16).any (fun n => die [STR_CTL 0 n, STR_PCMD 0 n, STR_SLEEP_CTL 0 n, STR_PRBS_CTL 0 n, STR_PRBS_INJ 0 n]) ||
        (MEM_PROT_BASE 0 0 % 0x10000 ≤ o && o < MEM_PROT_BASE 0 0 % 0x10000 + 64))

/-- The active value of the register at `a` after the value `v` has been written to it: its RW bits are those of `v`, its W1C bits are cleared
by the ones of `v` (R17). -/
def State.writtenActive (s : State) (a : Nat) (v : Word) : Word := match rowAt a with
  | some r => ((s.regW a &&& ~~~(BitVec.ofNat 32 r.rw)) ||| (v &&& BitVec.ofNat 32 r.rw)) &&& ~~~(v &&& BitVec.ofNat 32 r.w1c)
  | none => s.regW a

/-- The shadow value of the register at `a` after the value `v` has been written to it: its RWS bits are those of `v` (R17). -/
def State.writtenShadow (s : State) (a : Nat) (v : Word) : Word := match rowAt a with
  | some r => if r.rws = 0 then s.shW a else (s.shW a &&& ~~~(BitVec.ofNat 32 r.rws)) ||| (v &&& BitVec.ofNat 32 r.rws)
  | none => s.shW a

/-- The writes `ws`, each an offset and a value, have taken effect by the access classes of the bits; no other register has changed, active or
shadow, and of everything else only what `f` puts back. -/
abbrev Written (s t : State) (ws : List (Nat × Word)) (f : Dev → Dev) : Prop :=
  (∀ w ∈ ws, t.regW w.1 = s.writtenActive w.1 w.2 ∧ t.shW w.1 = s.writtenShadow w.1 w.2) ∧
    (∀ b, b ∉ ws.map (·.1) → t.shW b = s.shW b) ∧ Keeps s t (ws.map (·.1)) fun d => { f d with shadow := s.dev.shadow }

/-- The register at `a` is in the chip window or in that of a live die, and the image in force has it. -/
abbrev State.there (s : State) (a : Nat) : Prop :=
  a % 4 = 0 ∧ (a < 0x10000 ∨ (a < 0x90000 ∧ s.live (winDie a) = true)) ∧ (rowAt a).isSome = true ∧ s.present a = true

/-- The bytes that a source has delivered are an image that passes every check (R62). -/
abbrev State.accepts (s : State) (x : Delivery) (reload : Bool) : Prop :=
  x.short = false ∧ imgCheck1to7 s.dies x.len x.bytes = none ∧
    (s.imageLock.2.2.setB CHIP_BOOT_STATUS CHIP_BOOT_STATUS.LOCKED s.imageLock.1).imageContentFault s.imageLock.1 s.imageLock.2.1 x.bytes reload =
      none

/-- Every register of BAR0 holds its reset value, but for those listed. -/
def AtReset (t : State) (but : List Nat) : Prop := ∀ a, a ∉ but → t.regW a = resetWord t.dies a

/-- Partner k of strand g has become `p`; no other partner, no register, no byte of DRAM and nothing else of the part has changed. -/
def PartnerBecomes (s t : State) (g k : Nat) (p : PartnerSt) : Prop :=
  t.partner g k = p ∧ (∀ j, j ≠ g * 512 + k → t.dev.partners.look PartnerSt.reset j = s.dev.partners.look PartnerSt.reset j) ∧
  Keeps s t [] fun d => { d with partners := s.dev.partners }

/-- The first copy of this broadcast, the oldest that strand g has to send, is to leave now. -/
def State.firstCopy (s : State) (g op tag arg0 arg1 : Nat) : Bool := match (s.strand g).bcast with
  | b :: _ => s.bcastDue g b op tag arg0 arg1 && 3 ≤ b.left
  | [] => false

/-- Every partner that the broadcast reaches has become what `f` makes of it, but for those at the places `bad`, where it arrived damaged and
is only counted; every other one is as before; of the rest only what strand g sends has changed. A first copy is a new broadcast at every
partner, and with it all three copies are on the line, in consecutive control slots. -/
def BroadcastDoes (s t : State) (g op tag arg0 arg1 : Nat) (bad : List Nat) (f : PartnerSt → PartnerSt) : Prop :=
  let first := s.firstCopy g op tag arg0 arg1
  let p := fun k => if first then { s.partner g k with tag := none } else s.partner g k
  (∀ k ∈ s.reached g 0x3FF, t.partner g k = if bad.contains k then (p k).damaged else f (p k)) ∧
  (∀ h k, k < 512 → (h ≠ g ∨ (k ∉ s.reached g 0x3FF ∧ k ∉ bad)) → t.partner h k = s.partner h k) ∧
  (t.strand g).sent = (s.strand g).sent ++ (if first then List.replicate 3 (.ctl (.cmd op 0x3FF tag arg0 arg1 0)) else []) ∧
  Keeps s t [] fun d => { d with partners := s.dev.partners, strands := s.dev.strands }

/-- Strand g takes back messages: it is Active, its back direction is awake, and no receiver of it is frozen or adapting (R279, R309, R311).
-/
def State.hears (s : State) (g : Nat) : Bool :=
  s.strandOk g && decide (s.strState g = 10) && !s.backHeld g && !s.b (strReg STR_ADAPT g) STR_ADAPT.FROZEN &&
    !s.b (strReg STR_ADAPT g) STR_ADAPT.WINDOW

/-- No partner of strand g skips data blocks after a lost framing (R274). -/
def State.inStep (s : State) (g : Nat) : Prop := ∀ k, k < 512 → (s.partner g k).skip = false

/-- The `n` bytes from `a` are installed memory outside every protected region's data and checks and outside the Lanyard protected range. -/
abbrev State.plain (s : State) (a n : Nat) : Prop :=
  a + n ≤ 2 ^ 40 ∧ s.inLany a n = false ∧
    ∀ i, i < n → s.addrBad (a + i) = false ∧ s.protOf (dieOf (wordOf (a + i))) (offOf (wordOf (a + i))) = none

/-- No pin entry of policy FLAG or BLOCK meets the `n` bytes from `a`. -/
def State.unpinned (s : State) (a n : Nat) : Prop := ∀ d, ∀ p ∈ s.pins d, p.policy = 2 ∨ p.hi ≤ a ∨ a + n ≤ p.lo

/-- `n` bytes of DRAM from `a`. -/
def State.dramBytes (s : State) (a n : Nat) : List Byte := (List.range n).map fun i => s.dramByte (a + i)

/-- The bytes `bs` stand at `a` and every other byte of DRAM reads as before. -/
def Stores (s t : State) (a : Nat) (bs : List Byte) : Prop :=
  ∀ x, t.dramByte x = if a ≤ x ∧ x < a + bs.length then bs.getD (x - a) 0 else s.dramByte x

/-- Job `i` is `j`, which can start now as a job of `op`, passes its descriptor check, moves at least one byte and overlaps no job at work
(R420); no write waits in a merge buffer. -/
abbrev State.starts (s : State) (i op : Nat) (j : Job) : Prop :=
  s.startable i op = some j ∧ s.descBad j = false ∧ j.w 4 ≠ 0 ∧ s.overlapping j = [] ∧ s.dev.mem.merge = []

/-- Compression job `i` is `j`, which starts now as a job of `op`, passes its descriptor check and overlaps no job at work (R420); no write waits
in a merge buffer, and its output range may be written. -/
abbrev State.compresses (s : State) (i op : Nat) (j : Job) : Prop :=
  s.startable i op = some j ∧ s.descBad j = false ∧ s.overlapping j = [] ∧ s.dev.mem.merge = [] ∧
    s.plain j.output.1 j.output.2 ∧ s.unpinned j.output.1 j.output.2 ∧ ∀ r ∈ j.inputs, s.plain r.1 r.2

/-- Job `i` has ended its work with `how` and no output count, and no byte outside its output range has changed. -/
def State.failsAs (s t : State) (i : Nat) (j : Job) (how : JobEnd) (detail : Nat) : Prop :=
  (∃ r : JobRes, t.job i = some { j with res := some r } ∧ r.how = how ∧ r.detail = detail ∧ r.out = 0) ∧
    ∀ x, (x < j.output.1 ∨ j.output.1 + j.output.2 ≤ x) → t.dramByte x = s.dramByte x

/-- The dies `ds` take the step `op` in turn, and each accepts it: the array after them. -/
def allTake (op : Nat → NvmRun → Option (NvmRun × Bool)) : List Nat → NvmRun → Option NvmRun
  | [], n => some n
  | d :: t, n => match op d n with
    | some (m, true) => allTake op t m
    | _ => none

/-- The modes that may follow a mode, but for Reset, which may follow each (R35). -/
def Mode.steps : Mode → List Mode
  | .reset => [.test]
  | .test => [.load]
  | .load => [.idle]
  | .idle => [.live, .coil, .calibrate, .linkTest, .dormant, .reload, .lanyardOnly]
  | .live => [.belay, .idle, .dormant, .reload, .lanyardOnly]
  | .belay => [.live, .coil, .idle, .dormant, .reload, .lanyardOnly]
  | .coil => [.live, .idle, .dormant, .reload, .lanyardOnly]
  | .lanyardOnly => [.dormant]
  | .calibrate | .linkTest | .reload => [.idle, .dormant, .lanyardOnly]
  | .dormant => [.idle, .lanyardOnly]

/-- One step may lead from mode `a` to mode `b`. The knot line that ends a Reload evaluates the requests as Idle does, in the same step (R66,
R178). -/
def modeStep (a b : Mode) : Prop := b = a ∨ b = .reset ∨ b ∈ a.steps ∨ (a = .reload ∧ b ∈ Mode.idle.steps)

/-- What every reachable state keeps of the mode machine: before the fuse load the part is in Reset; a load is in progress only in Load and in
Reload, and neither beside a load that has ended nor beside the transition to Lanyard-only; an ended Reload and that transition belong to the
modes after the installation. -/
def ModeInv (s : State) : Prop :=
  (s.dev.boot.fused = false → s.mode = .reset) ∧
  (s.dev.boot.loading.isSome = true → (s.mode = .load ∨ s.mode = .reload) ∧ s.dev.boot.idlePending = false ∧ s.dev.boot.lanyLeft = 0) ∧
  (s.dev.boot.idlePending = true → s.mode ∉ [Mode.reset, .test, .load]) ∧
  (s.dev.boot.lanyLeft ≠ 0 → s.mode ∉ [Mode.reset, .test, .load, .lanyardOnly])

/-- The commands that write DRAM, or act through a register, a fence, a job or a raster step that can; of every other command
Obligations.EveryStep says that it leaves DRAM as it is. -/
def dramOpen : Instr → Bool
  | .powerDown => true
  | .imageSourceReadDone .. | .bootGo .. | .reqReset .. | .reqIdle .. | .reqLive .. | .reqCoil .. | .reqCalibrate .. | .reqLinkTest .. |
    .reqDormant .. | .reqReload .. | .reqReservedMode .. | .reloadDone .. | .fatalChipError .. | .dieFault .. | .blockFault .. |
    .cellFault .. | .frameStart | .lineStart .. | .knotLineStart .. | .knotWindowEnd .. | .knotReq .. | .knotCancel .. | .readyArm .. |
    .readyDisarm .. | .readySignal .. | .snapReq .. | .snapLive .. | .regWrite .. | .palData .. | .coefData .. | .lutData .. |
    .lanyPalData .. | .calTrimData .. | .nvmData .. | .sourceFrameEnd .. | .srcCtlWrite .. | .eotfLoadGo .. | .eotfLoadDone .. |
    .outLoadGo .. | .outLoadDone .. | .lampDynClr .. | .feedSlotFill .. | .groupEnd .. | .undefinedOpcode .. | .peFenceReq .. |
    .pcmdCfgRd .. | .pcmdCfgWr .. | .strRetrain .. | .prbsNearEnd .. | .prbsFarForward .. | .prbsBack .. | .injSingle .. |
    .injBurst .. | .injRate .. | .ringFillDone .. | .bar2Write .. | .bar2Read .. | .dramWrite .. | .dramRead .. | .mergeTimeout .. |
    .scrubRead .. | .whipBatchDone .. | .protEnable .. | .protDisable .. | .protInitDone .. | .descriptorFetch .. | .copy .. |
    .fill .. | .hostRd .. | .hostWr .. | .zbcEncode .. | .zbcDecode .. | .zlcCompress .. | .zlcDecompress .. | .storeWr .. |
    .storeRd .. | .jobComplete .. | .jobAbort .. | .jobRingDisable .. | .jobRingEnable .. | .hostLinkDown .. | .nvmRead .. |
    .nvmWrite .. | .nvmDelete .. | .ctrRead .. | .ctrAdd .. | .ctrSet .. | .nvmBpWrite .. | .nvmBpLockWrite .. | .calRunDone .. |
    .tempSample .. | .pwrWakeReq | .lanyCommitReq .. | .lanyProtWrite .. | .lanyLockWrite .. | .registerWrite .. | .memoryWrite .. |
    .memoryRead .. | .configurationRequest .. | .rda .. | .mulr .. | .add .. | .sub .. | .shl .. | .shr .. | .clmp .. => true
  | _ => false

end Sys2Proof.Machine
end

