-- ==== Sys2Proof/WellFormed.lean ====
section
/-! DEFINITION. Which commands can be spelled at all: every operand in the range that the field, the pin or the port gives it. The
meanings are total, so they answer an ill-formed command too; well-formedness says which terms stand for a command of the part. -/
namespace Sys2Proof

/-- A die number (R2). -/
def dieNo (d : Nat) : Bool := d < 8

/-- An engine by die × 128 + number (R236). -/
def engNo (e : Nat) : Bool := e < 1024

/-- A strand by its global lowest lane (R325). -/
def laneNo (g : Nat) : Bool := g < 128

/-- A place in a chain (R281). -/
def chainNo (k : Nat) : Bool := k < 512

/-- A partner address, 0x3FF for all (R267). -/
def chainAddr (a : Nat) : Bool := a < 512 || a = 0x3FF

/-- A TAG (R289). -/
def tagNo (t : Nat) : Bool := t < 64

/-- A vector or scalar register of an engine (R237). -/
def regNo (r : Nat) : Bool := r < 16

/-- SIZE of R246. -/
def sizeCode (n : Nat) : Bool := n < 3

/-- SAT of R247; code 7 is undefined. -/
def satCode (n : Nat) : Bool := n < 7

/-- A byte offset in BAR0 (R13). -/
def bar0Addr (a : Nat) : Bool := a < 2 ^ 20

/-- A device address (R13). -/
def devAddr (a : Nat) : Bool := a < 2 ^ 40

/-- A request class of DRAM (R374). -/
def memClass (c : Nat) : Bool := 1 ≤ c && c < 8

/-- A ring (R476). -/
def ringNo (r : Nat) : Bool := r < 8

/-- A channel of the record store (R431). -/
def chanNo (k : Nat) : Bool := k < 2

/-- A drive port (R352). -/
def driveNo (d : Nat) : Bool := d < 2

/-- A block, or the region unit 8, of a die (R457). -/
def unitNo (u : Nat) : Bool := u < 9

/-- A bond lane of a strand (R263). -/
def bondNo (b : Nat) : Bool := b < 4

/-- The fields of a DECL fit in their bits (R278). -/
def declFields (d : Decl) : Bool := d.fwdRelay < 2 ^ 12 && d.backRelay < 2 ^ 12 && d.tol < 2 ^ 8 && d.turn < 2 ^ 16 && d.lamps < 2 ^ 16 &&
  d.keepMax < 2 ^ 16 && d.pid < 2 ^ 32 && d.widths < 2 ^ 7 && d.rows < 2 ^ 16

/-- The command is well-formed. -/
def Instr.wf : Instr → Bool
  | .resetLRelease m _ => m < 4
  | .fuseLoadDone _ straps speed width => straps < 4 && speed < 16 && width < 16
  | .hostLinkUp speed width => speed < 16 && width < 16
  | .selftestDone rs => rs.length ≤ 8 && rs.all fun r => r.items < 128 && r.engines.all (· < 128) && r.gib ≤ 64 && r.chOk < 256 &&
      r.faults.all fun m => 1 ≤ m.memid && m.memid ≤ 8 && m.inst < 4096 && m.mac < 256 && m.kind < 2 && m.addr < 2048
  | .reqReservedMode _ c => c < 16
  | .fatalChipError c => c < 16
  | .dieFault d c _ => dieNo d && c < 16
  | .blockFault d b => dieNo d && b < 8
  | .cellFault d e c => dieNo d && e < 128 && c < 8
  | .lineStart ds => ds.length ≤ 8
  | .lineMatch d k => dieNo d && k < 4
  | .knotLineStart ds => ds.all dieNo
  | .readyArm _ a | .readyDisarm _ a | .readySignal _ a | .eotfLoadGo _ a | .outLoadGo _ a | .lampDynClr _ a => bar0Addr a
  | .protEnable _ a b | .protDisable _ a b => bar0Addr a && b < 2 ^ 16
  | .palData a _ | .coefData a _ | .lutData a _ | .loRead a | .srcCtlWrite a _ => bar0Addr a
  | .regWrite a n _ | .rcRead a n => bar0Addr a && 1 ≤ n && n ≤ 4
  | .lampDynData d | .eccRepairData1 d | .calTrimData d _ | .sourceFrameEnd d _ | .dpLinkLoss d | .hpdLowExpiry d |
    .wbSurfaceComplete d | .eotfLoadDone d | .outLoadDone d | .scrubRead d _ _ | .scrubStarved d | .repairSave d _ | .avsAck d |
    .avsTimeout d | .srcLinkUp d _ _ | .irqHpdEnd d | .peFenceCauseRead d | .rcPerstLRelease d => dieNo d
  | .nvmData _ k _ | .nvmRead _ k | .nvmWrite _ k _ | .nvmDelete _ k _ | .ctrRead _ k | .ctrAdd _ k _ | .ctrSet _ k _ => chanNo k
  | .syncOutPulse n => n < 2 ^ 48
  | .syncInPulse _ w _ => w < 2 ^ 64
  | .stampMeasure g | .invalidHeaderLimit g | .trainAttemptTimeout g | .capSwitch g | .goCountdownEnd g | .backoffExpiry g |
    .backSignalLost g | .strRetrain _ g _ | .primerStamp g | .backWakeTimeout g | .trainBlindEnd g | .prbsWindowEnd g _ |
    .row g _ | .drive g _ => laneNo g
  | .backInvalidBlock g x => laneNo g && (match x.k with
    | some k => chainNo k
    | none => true)
  | .frameSyncDeparture g m => laneNo g && m.frame < 2 ^ 48 && m.adj < 2 ^ 16
  | .frameDone d n _ => dieNo d && n < 2 ^ 48
  | .segmentDeadline j y n => j < 8192 && y < 2 ^ 16 && n < 2 ^ 48
  | .sourceFrameStart d _ enc bpc col _ => dieNo d && enc < 4 && bpc < 8 && col < 16
  | .auxTransaction d _ _ a data n => dieNo d && a < 2 ^ 20 && data.length ≤ 16 && n ≤ 16
  | .feedSlotFill d g y => dieNo d && g < 2 ^ 16 && y < 2 ^ 16
  | .groupStart e | .groupEnd e | .nop e | .end_ e | .undefinedOpcode e => engNo e
  | .feed e v z _ sl off => engNo e && regNo v && sizeCode z && sl < 4 && off < 512 && off % 2 ^ z = 0
  | .feedc e v _ off => engNo e && regNo v && off < 512 && off % 4 = 0
  | .feeds e r off => engNo e && regNo r && off < 512 && off % 4 = 0
  | .tld e v a z _ disp => engNo e && regNo v && regNo a && sizeCode z && disp < 2048
  | .tst e a b z disp => engNo e && regNo a && regNo b && sizeCode z && disp < 2048
  | .tlds e r a disp => engNo e && regNo r && regNo a && disp < 2048
  | .lut1 e v a r sh ef => engNo e && regNo v && regNo a && regNo r && 1 ≤ sh && sh ≤ 16 && ef < 3
  | .odi e v a b q => engNo e && regNo v && regNo a && regNo b && q < 3
  | .lgi e v a q => engNo e && regNo v && regNo a && q < 3
  | .odiLgiResult e v => engNo e && regNo v
  | .mula e a b _ _ | .maca e a b _ _ | .cmp e a b _ 0 | .cmp e a b _ 1 | .cmp e a b _ 2 | .cmp e a b _ 3 | .cmp e a b _ 4 |
    .cmp e a b _ 5 => engNo e && regNo a && regNo b
  | .cmp _ _ _ _ _ => false
  | .adda e a _ sh => engNo e && regNo a && sh ≤ 32
  | .rda e v n sat => engNo e && regNo v && n < 64 && satCode sat
  | .mulr e v a b _ _ n sat => engNo e && regNo v && regNo a && regNo b && n < 64 && satCode sat
  | .add e v a b _ sat | .sub e v a b _ sat => engNo e && regNo v && regNo a && regNo b && satCode sat
  | .shl e v a b byreg amt sat => engNo e && regNo v && regNo a && regNo b && amt < 32 && satCode sat && (byreg || b = 0)
  | .shr e v a b byreg amt _ _ sat => engNo e && regNo v && regNo a && regNo b && amt < 32 && satCode sat && (byreg || b = 0)
  | .min e v a b _ | .max e v a b _ | .and e v a b | .or e v a b | .xor e v a b | .sel e v a b | .sadd e v a b =>
    engNo e && regNo v && regNo a && regNo b
  | .clmp e v a sat _ => engNo e && regNo v && regNo a && satCode sat
  | .vbc e v a => engNo e && regNo v && regNo a
  | .vldi e v _ imm | .sldi e v _ imm => engNo e && regNo v && imm < 2 ^ 16
  | .dith e v a b mode => engNo e && regNo v && regNo a && regNo b && mode < 3
  | .emit e a stream lamp _ => engNo e && regNo a && stream < 3 && lamp < 3
  | .skip e a bit _ n => engNo e && regNo a && bit < 32 && n < 4096
  | .peFenceReq _ a e => bar0Addr a && e < 128
  | .enum g k count d => laneNo g && chainNo k && count < 1024 && declFields d
  | .stamp g a x seq => laneNo g && chainAddr a && tagNo x.tag && seq < 2 ^ 16
  | .trim g a x v => laneNo g && chainAddr a && tagNo x.tag && v < 2 ^ 32
  | .cfgWr g a x r v => laneNo g && chainAddr a && tagNo x.tag && r < 256 && v < 2 ^ 32
  | .cfgRd g a x r => laneNo g && chainAddr a && tagNo x.tag && r < 256
  | .test g a x p _ m us => laneNo g && chainAddr a && tagNo x.tag && p < 8 && m < 16 && us < 2 ^ 24
  | .testResult g a x b _ => laneNo g && chainAddr a && tagNo x.tag && bondNo b
  | .rowTOn g k | .partnerLinkLoss g k _ => laneNo g && chainNo k
  | .partnerLaunch g x | .partnerOwnLaunch g x _ => laneNo g && chainNo x.k && x.temp < 256 && x.found.all fun l => l.1 < 2 ^ 16
  | .fwdState g x st n => laneNo g && tagNo x.tag && st < 3 && n < 2 ^ 48
  | .backState g x _ _ => laneNo g && tagNo x.tag
  | .frameSync g k n lead _ => lead < 2 ^ 24 && laneNo g && chainNo k && n < 2 ^ 48
  | .keep g k n a _ lead _ => lead < 2 ^ 24 && laneNo g && chainNo k && n < 2 ^ 48 && chainAddr a
  | .echo g a t seq wait _ => laneNo g && chainNo a && tagNo t && seq < 2 ^ 16 && wait < 2 ^ 16
  | .ack g a t op res r v => laneNo g && chainNo a && tagNo t && op < 16 && res < 256 && r < 256 && v < 2 ^ 32
  | .decl g a part _ d => laneNo g && chainAddr a && part < 2 && declFields d
  | .status g a f8 temp rx dc fl => laneNo g && chainNo a && f8 < 256 && temp < 256 && rx < 256 && dc < 256 && fl < 32
  | .fault g a lamps => laneNo g && chainNo a && 1 ≤ lamps.length && lamps.length ≤ 4 && lamps.all (·.1 < 2 ^ 16)
  | .wake g a reason => laneNo g && chainNo a && reason < 256
  | .eq g b pre post _ fom seq => laneNo g && bondNo b && pre < 4 && post < 4 && fom < 256 && seq < 256
  | .backTrainBlock g b ph _ _ _ skew fwd back ws => laneNo g && bondNo b && 1 ≤ ph && ph ≤ 9 && skew < 64 && fwd < 16 && back < 4 && ws < 8
  | .cmdTimeout g a t => laneNo g && a < 1024 && tagNo t
  | .pcmdCfgRd _ g a r | .pcmdCfgWr _ g a r => laneNo g && a < 1024 && r < 256
  | .blockLock g l i => laneNo g && l < 16 && i < 16
  | .adaptFreeze g b | .readaptWindowEnd g b => laneNo g && bondNo b
  | .prbsNearEnd _ g p => laneNo g && p < 8
  | .prbsFarForward _ g p a | .prbsBack _ g p a => laneNo g && p < 8 && a < 1024
  | .injSingle _ d n _ | .injBurst _ d n _ | .injRate _ d n _ => dieNo d && n < 16
  | .nvmeCompletion d st => driveNo d && st < 2 ^ 16
  | .nvmeCmdTimeout d | .driveReset d | .cstsCfs d => driveNo d
  | .driveUp d x _ => driveNo d && x.id.mdts < 256
  | .bar2Write o _ | .bar2Read o _ => o < 2 ^ 36
  | .dramWrite a _ r | .dramRead a _ r _ => devAddr a && memClass r.cls && dieNo r.die
  | .mergeTimeout a => devAddr a && a % 8 = 0
  | .whipBatchStart d u => dieNo d && unitNo u
  | .whipBatchDone d u _ _ _ => dieNo d && unitNo u
  | .protInitDone d k => dieNo d && k < 8
  | .sqDoorbell r v | .cqDoorbell r v => r < 512 && v < 2 ^ 32
  | .descriptorFetch x => match x with
    | some ws => ws.length = 8
    | none => true
  | .jobAbort _ r _ | .jobRingDisable _ r _ | .jobRingEnable _ r _ => ringNo r
  | .hostLinkDown k => k < 4
  | .unitWakeTimer d u _ _ _ | .wakeOnDemand d u _ _ _ => dieNo d && unitNo u
  | .lanyCommitReq b => b < 2
  | .msixTableWrite off _ => off < 8192 && off % 4 = 0
  | .configurationRequest off be _ => off < 4096 && off % 4 = 0 && be < 16
  | .imageSourceReadDone _ | .reloadDone _ | .registerWrite _ _ | .registerRead _ | .memoryWrite _ _ | .memoryRead _ |
    .resetLAssert _ | .powerUp | .powerDown | .nvmeDriveTimeout | .bootGo _ | .reqReset _ | .reqIdle _ | .reqLive _ | .reqCoil _ |
    .reqCalibrate _ | .reqLinkTest _ | .reqDormant _ | .reqReload _ | .frameStart | .vbStart | .knotWindowEnd _ | .knotReq _ |
    .knotCancel _ | .snapReq _ | .snapshotTake | .snapLive _ | .knotPeekDataRead _ | .lanyPalData _ | .syncHoldover | .ringFillDone _ |
    .playlistLoaded | .copy _ | .fill _ | .hostRd _ _ | .hostWr _ _ | .zbcEncode _ | .zbcDecode _ | .zlcCompress _ | .zlcDecompress _ |
    .storeWr _ _ | .storeRd _ _ | .storeFlush _ _ | .jobComplete _ | .nvmBpWrite _ _ | .nvmBpLockWrite _ _ | .calRunDone _ _ |
    .vrefCheck _ | .tempSample _ | .dormantWakeTimer | .pwrWakeReq | .lanyProtWrite _ _ | .lanyLockWrite _ | .statusFrame | .identify |
    .tckEdge _ _ _ _ => true

end Sys2Proof
end

