-- ==== Sys2Proof/Certificates/Slice0/Obligations.lean ====
section
/-! DEFINITION. The statements about the model, for the provers. Each docstring names the rules it formalises; where a clause rests on a
choice of the model it names the log entry. -/
open Sys2Proof Sys2Proof.Machine

/-! ### Pixel engines (R245) -/

/-- R245, R246, R247: what ADD, SUB, MIN, MAX, MULR, SHL, SHR and CLMP write to VD, lane by lane, with saturation under each SAT code that
R247 defines. -/
def Obligations.EngineArithmetic : Prop :=
  ∀ (s : State) (eng vd va vb : Nat) (ua ub byreg arith rnd : Bool) (n amt sc : Nat),
    s.engineRuns eng = true → vd < 16 → va < 16 → vb < 16 → n < 64 → amt < 32 → sc < 7 →
    (let a := (s.waited eng [va, vb]).vl va
     let b := (s.waited eng [va, vb]).vl vb
     VectorResult (.add eng vd va vb ua sc) s eng vd [va, vb] 1 [] (fun k => sat sc (opnd ua (a k) + opnd ua (b k))) ∧
     VectorResult (.sub eng vd va vb ua sc) s eng vd [va, vb] 1 [] (fun k => sat sc (opnd ua (a k) - opnd ua (b k))) ∧
     VectorResult (.min eng vd va vb ua) s eng vd [va, vb] 1 [] (fun k => if opnd ua (b k) < opnd ua (a k) then b k else a k) ∧
     VectorResult (.max eng vd va vb ua) s eng vd [va, vb] 1 [] (fun k => if opnd ua (a k) < opnd ua (b k) then b k else a k) ∧
     VectorResult (.mulr eng vd va vb ua ub n sc) s eng vd [va, vb] 2 []
       (fun k => sat sc (rshift (opnd ua (a k) * opnd ub (b k)) n))) ∧
    (let w := if byreg then [va, vb] else [va]
     let a := (s.waited eng w).vl va
     let x := fun k => if byreg then ((s.waited eng w).vl vb k).toNat % 32 else amt
     VectorResult (.shl eng vd va vb byreg amt sc) s eng vd w 1 [] (fun k => sat sc ((a k).toInt * 2 ^ x k)) ∧
     VectorResult (.shr eng vd va vb byreg amt arith rnd sc) s eng vd w 1 []
       (fun k => sat sc (if rnd then rshift (opnd (!arith) (a k)) (x k) else opnd (!arith) (a k) / 2 ^ x k))) ∧
    VectorResult (.clmp eng vd va sc rnd) s eng vd [va] 1 [LAMP_CLIP_CNT (eng / 128)] (fun k => sat sc ((s.waited eng [va]).vl va k).toInt)

/-- R245, R237, R246, R247: what AND, OR, XOR, SEL, VBC and VLDI write to VD, and RDA from the accumulators; MULA, MACA and ADDA write the four
accumulators, saturated to 64 bits; CMP writes the four predicates. -/
def Obligations.EngineMoves : Prop :=
  (∀ (s : State) (eng vd va vb sa imm n sc : Nat),
    s.engineRuns eng = true → vd < 16 → va < 16 → vb < 16 → sa < 16 → imm < 65536 → n < 64 → sc < 7 →
    (let e := s.waited eng [va, vb]
     VectorResult (.and eng vd va vb) s eng vd [va, vb] 1 [] (fun k => e.vl va k &&& e.vl vb k) ∧
     VectorResult (.or eng vd va vb) s eng vd [va, vb] 1 [] (fun k => e.vl va k ||| e.vl vb k) ∧
     VectorResult (.xor eng vd va vb) s eng vd [va, vb] 1 [] (fun k => e.vl va k ^^^ e.vl vb k) ∧
     VectorResult (.sel eng vd va vb) s eng vd [va, vb] 1 [] (fun k => if (s.engine eng).pl k then e.vl va k else e.vl vb k)) ∧
    VectorResult (.vbc eng vd sa) s eng vd [] 1 [] (fun _ => (s.engine eng).sr sa) ∧
    VectorResult (.vldi eng vd false imm) s eng vd [] 1 [] (fun _ => BitVec.ofInt 32 (sext 16 imm)) ∧
    VectorResult (.vldi eng vd true imm) s eng vd [vd] 1 []
      (fun k => BitVec.ofNat 32 (imm * 65536 + ((s.waited eng [vd]).vl vd k).toNat % 65536)) ∧
    VectorResult (.rda eng vd n sc) s eng vd [] 1 [] (fun k => sat sc (rshift ((s.engine eng).al k) n))) ∧
  ∀ (s : State) (eng va vb sh : Nat) (ua ub : Bool),
    s.engineRuns eng = true → va < 16 → vb < 16 → sh ≤ 32 →
    (let e := s.waited eng [va, vb]
     AccResult (.mula eng va vb ua ub) s eng [va, vb] 2 (fun k => opnd ua (e.vl va k) * opnd ub (e.vl vb k)) ∧
     AccResult (.maca eng va vb ua ub) s eng [va, vb] 2 (fun k => (s.engine eng).al k + opnd ua (e.vl va k) * opnd ub (e.vl vb k)) ∧
     (∀ c, c < 6 → EngineStep (.cmp eng va vb ua c) s eng [va, vb] 1 [] (fun x => { x with p := e.p }) fun x =>
       ∀ k, k < 4 → some (x.pl k) = cmpCond c (opnd ua (e.vl va k)) (opnd ua (e.vl vb k)))) ∧
    AccResult (.adda eng va ua sh) s eng [va] 1
      (fun k => (s.engine eng).al k + opnd ua ((s.waited eng [va]).vl va k) * 2 ^ sh)

/-- R245, R246, R247: TLD, FEED, FEEDC, LUT1 and DITH write VD from the scratchpad, the feed slot or a table of the engine. -/
def Obligations.EngineTableReads : Prop :=
  ∀ (s : State) (eng vd va vb sb size shl off o disp sh ef mode : Nat) (sx esel : Bool),
    s.engineRuns eng = true → vd < 16 → va < 16 → vb < 16 → sb < 16 → size < 3 → shl < 4 → off < 512 → off % 4 = 0 → o < 512 →
    o % sizeBytes size = 0 → disp < 2048 →
    1 ≤ sh → sh ≤ 16 → ef < 3 → mode < 3 →
    (let t := s.tabs (eng / 128) (eng % 128 / 16)
     VectorResult (.feed eng vd size sx shl o) s eng vd [] (if size = 2 then 2 else 1) []
       (fun k => extend size sx ((s.engine eng).slotRd t (o + sizeBytes size * k) (sizeBytes size)) <<< feedShift shl) ∧
     VectorResult (.feedc eng vd esel off) s eng vd [] 2 []
       (fun k => sat 5 (sext 16 ((s.engine eng).slotRd t (off + 2 * k) 2) * 256 +
         sext 8 ((s.engine eng).slotRd t (off + 8 + k) 1) *
           2 ^ (12 - (s.engine eng).slotRd t ((if esel then 20 else 16) + k) 1))) ∧
     VectorResult (.tld eng vd va size sx disp) s eng vd [va] 2 [PE_ACC_ERR (eng / 128)]
       (fun k => extend size sx
         ((s.waited eng [va]).padRead t (((s.waited eng [va]).vl va k).toNat + disp) (sizeBytes size))) ∧
     VectorResult (.lut1 eng vd va sb sh ef) s eng vd [va] 3 [PE_ACC_ERR (eng / 128)]
       (fun k =>
         let e := s.waited eng [va]
         let i := (e.vl va k).toNat / 2 ^ sh
         let f := (e.vl va k).toNat % 2 ^ sh
         let entry := fun j => efVal ef (e.padRead t ((e.sr sb).toNat + j * efBytes ef) (efBytes ef))
         BitVec.ofInt 32 (efClamp ef (if f = 0 then entry i else entry i + rshift ((entry (i + 1) - entry i) * (f : Int)) sh))) ∧
     VectorResult (.dith eng vd va vb mode) s eng vd [vd, va, vb] 2 []
       (fun k =>
         let e := s.waited eng [vd, va, vb]
         let flags := e.slotRd t 8 4
         BitVec.ofNat 32 (dither (decide (mode = 0) || (decide (mode = 2) && bitOf flags 8 && !bitOf flags 16)) (e.vl va k).toNat
           (e.vl vb k).toNat ((e.vl vd k).toNat % 256))))

/-- R245: FEEDS, TLDS, SLDI and SADD write SD; NOP writes nothing; SKIP steps over N instructions when the bit of SA equals SENSE. -/
def Obligations.EngineScalars : Prop :=
  ∀ (s : State) (eng sd sa sb off disp imm bit n : Nat) (sense : Bool),
    s.engineRuns eng = true → sd < 16 → sa < 16 → sb < 16 → off < 512 → off % 4 = 0 → disp < 2048 → imm < 65536 → bit < 32 →
    1 ≤ n → n < 4096 →
    (let e := s.engine eng
     let t := s.tabs (eng / 128) (eng % 128 / 16)
     ScalarResult (.feeds eng sd off) s eng sd 1 [] (BitVec.ofNat 32 (e.slotRd t off 4)) ∧
     ScalarResult (.tlds eng sd sa disp) s eng sd 2 [PE_ACC_ERR (eng / 128)] (BitVec.ofNat 32 (e.padRead t ((e.sr sa).toNat + disp) 4)) ∧
     ScalarResult (.sldi eng sd false imm) s eng sd 1 [] (BitVec.ofInt 32 (sext 16 imm)) ∧
     ScalarResult (.sldi eng sd true imm) s eng sd 1 [] (BitVec.ofNat 32 (imm * 65536 + (e.sr sd).toNat % 65536)) ∧
     ScalarResult (.sadd eng sd sa sb) s eng sd 1 [] (e.sr sa + e.sr sb) ∧
     EngineStep (.nop eng) s eng [] 1 [] id (fun _ => True) ∧
     Completes (.skip eng sa bit sense n) s fun u =>
       (u.engine eng).pc = e.pc + 1 + (if bitOf (e.sr sa).toNat bit = sense then n else 0) ∧ (u.engine eng).hs = e.hs + 1 ∧
       { u.engine eng with pc := e.pc, hs := e.hs, clips := e.clips, accErr := e.accErr } = e ∧ KeepsButEngine s u eng [])

/-- R249, R228, R229, R368: ODI and LGI put their four lanes, formed when they issue, into a pending result that arrives within 16
handshakes; when it arrives VD holds them. Without an unreadable table word nothing else changes. -/
def Obligations.EngineLateResults : Prop :=
  ∀ (s : State) (eng vd va vb q : Nat),
    s.engineRuns eng = true → vd < 16 → va < 16 → vb < 16 → q < 3 →
    (let t := s.tabs (eng / 128) (eng % 128 / 16)
     let e := s.waited eng [vd, va, vb]
     Completes (.odi eng vd va vb q) s fun u =>
       (u.engine eng).pend = e.pend ++ [⟨vd, (List.range 4).map (fun k =>
         let w := (e.vl vd k).toNat
         let p := (e.vl va k).toNat
         let c := (e.vl vb k).toNat
         if bitOf w 4 || overdriveBad t (w % 16) q p c then e.vl vb k
         else BitVec.ofNat 32 (overdrive (t.od (w % 16) q) p c)), e.hs + 16⟩] ∧
       (u.engine eng).v = e.v ∧ (u.engine eng).hs = e.hs + 2 ∧ (u.engine eng).pc = (s.engine eng).pc + 1 ∧
       ((s.engine eng).odiBad t vd va vb q = 0 → KeepsButEngine s u eng [])) ∧
    (let t := s.tabs (eng / 128) (eng % 128 / 16)
     let kn := s.wReg (LAMP_LG_KNEE (eng / 128)) / 2 ^ (8 * q) % 32
     let e := s.waited eng [vd, va]
     Completes (.lgi eng vd va q) s fun u =>
       (u.engine eng).pend = e.pend ++ [⟨vd, (List.range 4).map (fun k =>
         let w := (e.vl vd k).toNat
         let x := (e.vl va k).toNat
         if bitOf w 7 || 2 ^ kn ≤ x || lowGreyBad t kn (w % 4) q x then e.vl va k
         else BitVec.ofNat 32 (lowGrey (t.lg (w % 4) q) kn x)), e.hs + 16⟩] ∧
       (u.engine eng).v = e.v ∧ (u.engine eng).hs = e.hs + 2 ∧ (u.engine eng).pc = (s.engine eng).pc + 1 ∧
       ((s.engine eng).lgiBad t kn vd va q = 0 → KeepsButEngine s u eng [])) ∧
    ∀ r, (s.engine eng).pend = [r] → r.vd = vd →
      Completes (.odiLgiResult eng vd) s fun u =>
        (∀ k, k < 4 → (u.engine eng).vl vd k = r.lanes.getD k 0) ∧
        (∀ x k, x ≠ vd → k < 4 → (u.engine eng).vl x k = (s.engine eng).vl x k) ∧
        (u.engine eng).pend = [] ∧ (u.engine eng).pc = (s.engine eng).pc ∧ KeepsButEngine s u eng []

/-- R245, R247, R252: TST stores an element per lane in the work area and counts the stores it discards in PE_ACC_ERR; EMIT hands over VA
of each valid lane, a carry only of a lane whose lamp is dead. -/
def Obligations.EngineStores : Prop :=
  ∀ (s : State) (eng va vb size disp stream lamp : Nat) (deadz : Bool),
    s.engineRuns eng = true → va < 16 → vb < 16 → size < 3 → disp < 2048 → stream < 3 → lamp < 3 →
    (let e := s.waited eng [va, vb]
     let a := fun k => (e.vl va k).toNat + disp
     let n := sizeBytes size
     Completes (.tst eng va vb size disp) s fun u =>
       (∀ x, (u.engine eng).pad.look 0 x = match lastStore a n x with
         | some k => (e.vl vb k).extractLsb' (8 * (x - a k)) 8
         | none => (s.engine eng).pad.look 0 x) ∧
       u.reg (PE_ACC_ERR (eng / 128)) = min 0xFFFFFFFF (s.reg (PE_ACC_ERR (eng / 128)) + lanes fun k => !padStoreOk (a k) n) ∧
       (u.engine eng).v = e.v ∧ (u.engine eng).pc = (s.engine eng).pc + 1 ∧ (u.engine eng).hs = e.hs + 3 ∧
       KeepsButEngine s u eng [PE_ACC_ERR (eng / 128)]) ∧
    (let t := s.tabs (eng / 128) (eng % 128 / 16)
     let e := s.waited eng [va]
     Completes (.emit eng va stream lamp deadz) s fun u =>
       (∀ k, k < 4 → e.valid t k = true → (stream ≠ 2 ∨ e.dead t k lamp = true) →
         (u.engine eng).emits.look 0 (12 * stream + 4 * lamp + k) = if deadz && e.dead t k lamp then 0 else e.vl va k) ∧
       (∀ x, (∀ k, k < 4 → e.valid t k = true → (stream ≠ 2 ∨ e.dead t k lamp = true) → x ≠ 12 * stream + 4 * lamp + k) →
         (u.engine eng).emits.look 0 x = e.emits.look 0 x) ∧
       (u.engine eng).v = e.v ∧ (u.engine eng).pc = (s.engine eng).pc + 1 ∧ (u.engine eng).hs = e.hs + 1 ∧ KeepsButEngine s u eng [])

/-- R241, R243, R251, R249, R252, R457, R461, R466: the feeder fills the free slot of the cell that is to run a group; a cell whose slot is
complete starts LINE when that is due on this line, else GROUP, and a block in Quiet or Nap is brought to Run for either, but not in
Dormant; END lets every pending result arrive and ends the program, LINE going on with GROUP; at GROUP_END the cell is free for its next
group. How a block comes to run for its event, and that it stays asleep in Dormant, is the model's reading (notes/assumptions/19.md). -/
def Obligations.EngineGroups : Prop :=
  (∀ (s : State), s.journal = [] →
      (∀ d g y e k, s.composes s.frameMode d = true → (s.section d).y ≤ y → y < (s.section d).y + (s.section d).h →
        (s.section d).x / 4 ≤ g → g ≤ ((s.section d).x + (s.section d).w - 1) / 4 → (s.dev.comp.full.look [] (lineKey d y)).isEmpty = false →
        s.engineFor d (s.groupIdx d g) = some e → (s.engine (d * 128 + e)).freeSlot = some k →
        (s.pwr d 8 = 0 → s.pwr d (e / 16) = 0 → Completes (.feedSlotFill d g y) s fun u =>
          (u.engine (d * 128 + e)).full.look false k = true ∧
          (∀ i, i < (s.slotBytes d g y).length → (u.engine (d * 128 + e)).pad.look 0 (0x17C00 + 0x200 * k + i) = (s.slotBytes d g y).getD i 0)) ∧
        (s.live d = true → e < 128 → s.mode ≠ .dormant → Completes (.feedSlotFill d g y) s fun u =>
          u.pwr d (e / 16) = 0 ∧ (u.engine (d * 128 + e)).full.look false k = true) ∧
        (s.mode = .dormant → s.pwr d (e / 16) ≠ 0 → Completes (.feedSlotFill d g y) s fun u => KeepsButRegs s u [])) ∧
      (∀ eng, s.engineLive eng = true → s.mode ≠ .dormant → (s.engine eng).run = .none →
        (s.engine eng).full.look false (s.engine eng).slot = true →
        Completes (.groupStart eng) s fun u => u.pwr (eng / 128) (eng % 128 / 16) = 0 ∧ (u.engine eng).run ≠ .none) ∧
      (∀ eng k, s.engineGoes eng = true → s.pwr (eng / 128) 8 = 0 → (s.engine eng).run = .none → (s.engine eng).full.look false k = true →
        (k = (s.engine eng).slot ∨ (k = 1 - (s.engine eng).slot ∧ (s.engine eng).full.look false (s.engine eng).slot = false)) →
        (let e := { s.engine eng with slot := k }
         let t := s.tabs (eng / 128) (eng % 128 / 16)
         let line := (s.slotFrame t e, e.slotRd t 0 4 / 2 ^ 16)
         let due := s.img.lineEn && e.lineRan != some line
         Completes (.groupStart eng) s fun u =>
           (u.engine eng).run = (if due then .line else .group) ∧
           (u.engine eng).pc = (if due then s.img.lineEntry else s.img.groupEntry) ∧
           (u.engine eng).slot = k ∧ (u.engine eng).hs = 0 ∧ (u.engine eng).lineRan = (if due then some line else e.lineRan) ∧
           (u.engine eng).v = e.v ∧ (u.engine eng).pad = e.pad ∧ KeepsButEngine s u eng [])) ∧
      (∀ eng, s.engineRuns eng = true →
        Completes (.end_ eng) s fun u =>
          (u.engine eng).pend = [] ∧
          ((s.engine eng).run = .group → (u.engine eng).ended = true ∧ (u.engine eng).run = .group) ∧
          ((s.engine eng).run = .line → (u.engine eng).run = .group ∧ (u.engine eng).pc = s.img.groupEntry ∧ (u.engine eng).ended = false) ∧
          KeepsButEngine s u eng [])) ∧
  (∀ (s : State) (eng : Nat), s.engineGoes eng = true → (s.engine eng).run = .group → (s.engine eng).ended = true →
      Completes (.groupEnd eng) s fun u =>
        (u.engine eng).run = .none ∧ (u.engine eng).ended = false ∧ (u.engine eng).emits = [] ∧
        (u.engine eng).slot = 1 - (s.engine eng).slot ∧ (u.engine eng).full.look false (s.engine eng).slot = false ∧
        ∀ x, x ≠ eng → u.engine x = s.engine x)

/-! ### Modes, reset, start-up -/

/-- R39, R38, R41, R44, R40: a write of CHIP_MODE_REQ makes the request of that source pending (RESULT 0b01) and leaves the other source's
alone; a reserved code is refused at once (RESULT 0b10). A request for Reset acts at once: mode Reset with the requester's REASON, the fuse
load begins again with the straps, every other register at its reset value; DRAM (notes/assumptions/5.md), the record store and the waiting
commands stay. -/
def Obligations.ModeRequests : Prop :=
  ∀ (s : State) (who : Requester), s.admits who CHIP_MODE_REQ →
    (∀ x ∈ [(Instr.reqIdle who, 3), (.reqLive who, 4), (.reqCoil who, 6), (.reqCalibrate who, 8), (.reqLinkTest who, 9),
        (.reqDormant who, 10), (.reqReload who, 11)],
      Completes x.1 s fun t => t.req who = ⟨x.2, 1⟩ ∧ (∀ w, w ≠ who → t.req w = s.req w) ∧ t.mode = s.mode ∧
        Keeps s t [] fun d => { d with boot := { d.boot with reqHost := s.dev.boot.reqHost, reqMgmt := s.dev.boot.reqMgmt } }) ∧
    (∀ code, 12 ≤ code → code < 16 →
      Completes (.reqReservedMode who code) s fun t => t.req who = ⟨code, 2⟩ ∧ (∀ w, w ≠ who → t.req w = s.req w) ∧ t.mode = s.mode ∧
        Keeps s t [] fun d => { d with boot := { d.boot with reqHost := s.dev.boot.reqHost, reqMgmt := s.dev.boot.reqMgmt } }) ∧
    Completes (.reqReset who) s fun t =>
      t.mode = .reset ∧ t.f CHIP_MODE CHIP_MODE.REASON = reqReason who ∧ t.f CHIP_BOOT_STATUS CHIP_BOOT_STATUS.STAGE = 1 ∧
      t.f CHIP_BOOT_STATUS CHIP_BOOT_STATUS.STRAP = s.dev.boot.strapPins % 4 ∧ AtReset t [CHIP_MODE, CHIP_BOOT_STATUS] ∧ KeepsDram s t ∧
      t.dev.nvm.secs = s.dev.nvm.secs ∧ t.dev.image = .none ∧ t.dies = s.dies ∧ t.pending = s.pending

/-- R42, R43, R505, R517: the reset pin and the supplies. A low pulse of 10 µs resets every register and keeps DRAM; its release samples the
straps and starts the fuse load; a rise of the supplies leaves the part in Reset; their fall, with RESET_L low or during a write of the
record store (R430), empties DRAM (notes/assumptions/5.md). Where the spec defines no effect the model stops, by name: a release without the
reference or with a supply out of range, a pulse of 1 µs to 10 µs, any other fall of the supplies with RESET_L high. What RESET_L leaves in
the record store and the queue is the reading of notes/assumptions/5.md and 22.md. -/
def Obligations.ResetPinAndSupplies : Prop :=
  (∀ (s : State),
      (∀ p, 10000 ≤ p → Completes (.resetLAssert p) s fun t =>
        t.mode = .reset ∧ AtReset t [] ∧ t.dev.boot.resetL = false ∧ KeepsDram s t ∧ t.dev.nvm.secs = s.dev.nvm.secs ∧ t.pending = s.pending) ∧
      (∀ p, p < 1000 → Completes (.resetLAssert p) s fun t => KeepsButRegs s t []) ∧
      (∀ m, s.dev.boot.resetL = false → s.dev.boot.supplies = true → Completes (.resetLRelease m true) s fun t =>
        t.dev.boot.resetL = true ∧ t.f CHIP_BOOT_STATUS CHIP_BOOT_STATUS.STAGE = 1 ∧ t.f CHIP_BOOT_STATUS CHIP_BOOT_STATUS.STRAP = m % 4 ∧
        Keeps s t [CHIP_BOOT_STATUS] fun d => { d with boot := s.dev.boot }) ∧
      (s.dev.boot.supplies = false → Completes .powerUp s fun t =>
        t.dev.boot.supplies = true ∧ t.mode = .reset ∧ AtReset t [] ∧ t.dev.boot.resetL = false ∧ KeepsDram s t) ∧
      (s.dev.boot.supplies = true → (s.dev.boot.resetL = false ∨ s.nvmCut = true) → Completes .powerDown s fun t =>
        t.dev.boot.supplies = false ∧ t.mode = .reset ∧ AtReset t [] ∧ (∀ a, t.dramByte a = 0) ∧ t.dev.nvm.secs = s.dev.nvm.secs)) ∧
  (∀ (s : State),
      (∀ m r, s.dev.boot.resetL = false → (s.dev.boot.supplies = false ∨ r = false) →
        exec (.resetLRelease m r) s = .refused .undefinedRelease) ∧
      (∀ p, 1000 ≤ p → p < 10000 → exec (.resetLAssert p) s = .refused .undefinedPulse) ∧
      (s.dev.boot.supplies = true → s.dev.boot.resetL = true → s.nvmCut = false → exec .powerDown s = .refused .undefinedSupply))

/-- R46, R44, R52, R45: the fuse load ends in Test, with STAGE 2, or halts there with ERR 0xB when die 0 is the wrong die; after an internal
reset it samples the straps again; self-test ends in Load, or halts in Test when it has fenced die 0. That each stage ends with a command is
the reading of notes/assumptions/20.md. -/
def Obligations.StartUpStages : Prop :=
  ∀ (s : State),
    (∀ fuses straps speed width, s.dev.boot.fused = false → s.f CHIP_BOOT_STATUS CHIP_BOOT_STATUS.STAGE = 1 →
      Completes (.fuseLoadDone fuses straps speed width) s fun t =>
        t.mode = .test ∧ t.pending = s.pending ∧
        t.f CHIP_BOOT_STATUS CHIP_BOOT_STATUS.STRAP = (if s.dev.boot.resample then straps % 4 else s.f CHIP_BOOT_STATUS CHIP_BOOT_STATUS.STRAP) ∧
        ((fuses.getD 0 noFuse).slot = 0 → t.f CHIP_BOOT_STATUS CHIP_BOOT_STATUS.STAGE = 2) ∧
        ((fuses.getD 0 noFuse).slot ≠ 0 → 0 < s.dies →
          t.f CHIP_BOOT_STATUS CHIP_BOOT_STATUS.STAGE = 15 ∧ t.f CHIP_BOOT_STATUS CHIP_BOOT_STATUS.ERR = 11)) ∧
    (∀ results, s.mode = .test → s.f CHIP_BOOT_STATUS CHIP_BOOT_STATUS.STAGE = 2 → (∀ d, d < s.dies → (s.pace d).cmd = none) →
      Completes (.selftestDone results) s fun t =>
        t.mode = (if t.fenced 0 then .test else .load) ∧
        (t.fenced 0 = true → t.f CHIP_BOOT_STATUS CHIP_BOOT_STATUS.STAGE = 15 ∧ t.f CHIP_BOOT_STATUS CHIP_BOOT_STATUS.ERR = 11))

/-! ### Register accesses, the knot, snapshots -/

/-- R14, R16, R17, R176, R495, R496: a host write of a register behind which nothing else stands: RW bits take the value at once, W1C bits are
cleared by ones, RWS bits go to the shadow; no other register changes, active or shadow. One to the broadcast window writes that register of
every live die; one to the window of a die that is fenced or not there, or to a reserved window, changes nothing. The `_LO` of a pair is held
and takes effect with the next `_HI` of the same requester, but for the base of a ring that is enabled then, which keeps its value
(notes/assumptions/12.md). While the shadow transfer window is open a write, of whatever width, is held, in order, and changes nothing else
(notes/assumptions/22.md). -/
def Obligations.RegisterWriteClasses : Prop :=
  (∀ (s : State) (a : Nat) (v : Word), s.admits .host a →
      (s.there a → plainReg a = true → Completes (.regWrite a 4 v) s fun t => Written s t [(a, v)] id) ∧
      (0x10000 ≤ a → a < 0xF0000 → a % 4 = 0 → (0x90000 ≤ a ∨ s.live (winDie a) = false) →
        Completes (.regWrite a 4 v) s fun t => KeepsButRegs s t []) ∧
      (∀ o, a = 0xF0000 + o → o < 0x10000 → plainReg (0x10000 + o) = true → (∀ d ∈ s.liveDies, s.there (dieBase d + o)) →
        Completes (.regWrite a 4 v) s fun t => Written s t (s.liveDies.map fun d => (dieBase d + o, v)) id) ∧
      (s.there a → isWriteLo a = true → ¬(0x2C00 ≤ a ∧ a < 0x3000) → mgmtOnly a = false →
        (let k := halfKey .host a
         let held := fun x => { x with heldLo := s.dev.heldLo }
         Completes (.regWrite a 4 v) s (fun t => t.dev.heldLo.look none k = some v ∧
           (∀ x, x ≠ k → t.dev.heldLo.look none x = s.dev.heldLo.look none x) ∧ Keeps s t [] held) ∧
         (s.admits .host (a + 4) → s.there (a + 4) → ∀ w, Completes (.regWrite (a + 4) 4 w) s fun t =>
           (let kept := (List.range 8).any fun r => s.ringEn r && (a = JOB_SQ_BASE_LO r || a = JOB_CQ_BASE_LO r)
            t.dev.heldLo.look none k = none ∧ (∀ x, x ≠ k → t.dev.heldLo.look none x = s.dev.heldLo.look none x) ∧
            Written s t (if kept then [] else (match s.dev.heldLo.look none k with
              | some x => [(a, x)]
              | none => []) ++ [(a + 4, w)]) held))))) ∧
  (∀ (s : State) (a n : Nat) (v : Word), s.portOn .host = true → s.b KNOT_STATUS KNOT_STATUS.BUSY = true → a < 0x100000 →
      Completes (.regWrite a n v) s fun t =>
        t.dev.knot.held = s.dev.knot.held ++ [.write .host a n v nvmNoFail] ∧
        Keeps s t [] fun d => { d with knot := { d.knot with held := s.dev.knot.held } })

/-- R15, R475: a write narrower than 32 bits is discarded: at a register that the index lists it is an access error of cause 0x1, counted, the
first since the count was read latched with its offset; elsewhere it is only ignored. A narrow read returns the addressed bytes of the
register and has no other effect. That a misaligned write, or one of more than 32 bits, is discarded as a narrow one, and that OFFSET is the
byte offset, is the reading of notes/assumptions/23.md. -/
def Obligations.NarrowAccesses : Prop :=
  ∀ (s : State) (a n : Nat), s.admits .host (a / 4 * 4) → a < 0x100000 → (n ≠ 4 ∨ a % 4 ≠ 0) →
    (∀ v, Completes (.regWrite a n v) s fun t =>
      (s.listed (a / 4 * 4) = false → KeepsButRegs s t []) ∧
      (s.listed (a / 4 * 4) = true →
        t.reg HOST_ACC_ERR_CNT = min 0xFFFFFFFF (s.reg HOST_ACC_ERR_CNT + 1) ∧ t.f ERR_STATUS ERR_STATUS.ACCESS = 1 ∧
        (s.dev.latched.look false HOST_ACC_ERR = false →
          t.f HOST_ACC_ERR HOST_ACC_ERR.CAUSE = 1 ∧ t.f HOST_ACC_ERR HOST_ACC_ERR.OFFSET = a) ∧
        Keeps s t [HOST_ACC_ERR, HOST_ACC_ERR_CNT, ERR_STATUS, HOST_IRQ_STAT, HOST_MGMT_IRQ_STAT] fun d =>
          { d with host := s.dev.host, latched := s.dev.latched })) ∧
    (1 ≤ n → a % 4 + n ≤ 4 → Completes (.rcRead a n) s fun t =>
      t.dev.host.rdData = ((leBytes 4 (s.seen .host (a / 4 * 4))).drop (a % 4)).take n ∧
      Keeps s t [] fun d => { d with host := s.dev.host })

/-- R16, R17, R172: reads. A read of an RC register returns it and clears it; a read of a `_LO` latches the `_HI` of that requester;
KNOT_PEEK_DATA returns the active value of the register that KNOT_PEEK_ADDR names; a host read of PE_FENCE_CAUSE clears the CELL and
BLOCK bits of ERR_DIE (the register table of chapter 20). That a cleared register returns to its reset value, also where that is not 0, is the
reading of notes/assumptions/27.md. -/
def Obligations.RegisterReads : Prop :=
  ∀ (s : State),
    (∀ a, s.admits .host a → a % 4 = 0 → a < 0x90000 → rcBits a ≠ 0 → s.present a = true → (a < 0x10000 ∨ s.live (winDie a) = true) →
      s.dataReg a = none → s.dev.latchHi.look none (halfKey .host a) = none →
      Completes (.rcRead a 4) s fun t =>
        t.dev.host.rdData = leBytes 4 (s.seen .host a) ∧ KeepsDram s t ∧ (s.inSnap a = false → t.regW a = resetWord s.dies a)) ∧
    (∀ a, s.admits .host a → a % 4 = 0 → a < 0x90000 → isLo a = true → (rowAt a).isSome = true → s.present a = true →
      (a < 0x10000 ∨ s.live (winDie a) = true) → s.dataReg a = none → s.dev.latchHi.look none (halfKey .host a) = none →
      holdsRead a = false →
      Completes (.loRead a) s fun t =>
        t.dev.host.rdData = leBytes 4 (s.seen .host a) ∧
        t.dev.latchHi.look none (halfKey .host (a + 4)) = some (BitVec.ofNat 32 (s.regValue .host false (a + 4))) ∧ KeepsDram s t) ∧
    (∀ who, s.admits who KNOT_PEEK_DATA → s.reg KNOT_PEEK_ADDR < 0x90000 → s.reg KNOT_PEEK_ADDR ≠ KNOT_PEEK_DATA →
      s.dev.latchHi.look none (halfKey who KNOT_PEEK_DATA) = none →
      Completes (.knotPeekDataRead who) s fun t =>
        t.dev.host.rdData = leBytes 4 (s.regValue who true (s.reg KNOT_PEEK_ADDR)) ∧
        Keeps s t [] fun d => { d with host := s.dev.host }) ∧
    ∀ d, d < 8 → s.admits .host (PE_FENCE_CAUSE d) → s.live d = true → s.dev.latchHi.look none (halfKey .host (PE_FENCE_CAUSE d)) = none →
      Completes (.peFenceCauseRead d) s fun t =>
        t.dev.host.rdData = leBytes 4 (s.seen .host (PE_FENCE_CAUSE d)) ∧
        t.f (ERR_DIE d) ERR_DIE.CELL = 0 ∧ t.f (ERR_DIE d) ERR_DIE.BLOCK = 0 ∧ Keeps s t [ERR_DIE d] fun d => { d with host := s.dev.host }

/-- R174, R186, R180, R181, R182, R191, R192: KNOT_REQ counts the request in KNOT_SEQ and makes it pending; KNOT_CANCEL drops the pending
request and every independent part. ARM arms a layer's fence unless the layer takes a port or the Coil stream, DISARM disarms it, SIGNAL
signals it when it is armed; only LYR_n_READY of that die changes. SNAP_REQ makes a snapshot pending with the frame of the request;
SNAPSHOT_TAKE takes it, and CHIP_SNAP_FRAME reports that frame; a return to live reads clears VIEW. That a fence of a layer on a port or the
Coil stream counts as given is the model's reading (notes/assumptions/28.md), and so is the frame that a snapshot names
(notes/assumptions/27.md). -/
def Obligations.KnotRequests : Prop :=
  (∀ (s : State) (who : Requester),
    (s.admits who KNOT_REQ →
      Completes (.knotReq who) s (fun t =>
        t.reg KNOT_SEQ = (s.reg KNOT_SEQ + 1) % 2 ^ 32 ∧ t.f KNOT_STATUS KNOT_STATUS.PEND = 1 ∧ KeepsButRegs s t [KNOT_SEQ, KNOT_STATUS]) ∧
      Completes (.knotCancel who) s (fun t =>
        t.f KNOT_STATUS KNOT_STATUS.PEND = 0 ∧ t.f KNOT_STATUS KNOT_STATUS.HELD = 0 ∧ t.f KNOT_STATUS KNOT_STATUS.INDEP_PEND = 0 ∧
        (∀ n d, n < 7 → s.live d = true → bitOf (s.f KNOT_STATUS KNOT_STATUS.INDEP_PEND) n = true → t.f (LYR_KSTAT d n) LYR_KSTAT.PEND = 0) ∧
        KeepsButRegs s t (KNOT_STATUS :: (List.range s.dies).flatMap fun d => (List.range 7).map (LYR_KSTAT d)))) ∧
    ∀ d n, d < 8 → n < 7 → s.admits who (LYR_READY d n) → s.live d = true → bitOf s.img.layerEn n = true →
      Completes (.readyArm who (LYR_READY d n)) s (fun t =>
        (s.armBarred d n = false → t.f (LYR_READY d n) LYR_READY.ARMED = 1 ∧ t.f (LYR_READY d n) LYR_READY.SIGNALLED = 0) ∧
        (s.armBarred d n = true → KeepsButRegs s t []) ∧ KeepsButRegs s t [LYR_READY d n]) ∧
      Completes (.readyDisarm who (LYR_READY d n)) s (fun t =>
        t.f (LYR_READY d n) LYR_READY.ARMED = 0 ∧ t.f (LYR_READY d n) LYR_READY.SIGNALLED = 0 ∧ KeepsButRegs s t [LYR_READY d n]) ∧
      Completes (.readySignal who (LYR_READY d n)) s (fun t =>
        (s.b (LYR_READY d n) LYR_READY.ARMED = true → t.f (LYR_READY d n) LYR_READY.ARMED = 1 ∧ t.f (LYR_READY d n) LYR_READY.SIGNALLED = 1) ∧
        (s.b (LYR_READY d n) LYR_READY.ARMED = false → KeepsButRegs s t []) ∧ KeepsButRegs s t [LYR_READY d n])) ∧
  ∀ (s : State),
    (∀ who, s.admits who CHIP_SNAP → Completes (.snapReq who) s fun t =>
      t.f CHIP_SNAP CHIP_SNAP.BUSY = 1 ∧ t.dev.knot.snapReq = s.tbFrame ∧
      Keeps s t [CHIP_SNAP] fun d => { d with knot := { d.knot with snapReq := s.dev.knot.snapReq } }) ∧
    (s.b CHIP_SNAP CHIP_SNAP.BUSY = true → Completes .snapshotTake s fun t =>
      t.f CHIP_SNAP CHIP_SNAP.BUSY = 0 ∧ t.f CHIP_SNAP CHIP_SNAP.VIEW = 1 ∧
      t.pair CHIP_SNAP_FRAME_LO CHIP_SNAP_FRAME_HI 16 = s.dev.knot.snapReq % 2 ^ 48 ∧ KeepsDram s t ∧ t.dev.knot = s.dev.knot) ∧
    (∀ who, s.admits who CHIP_SNAP → s.b CHIP_SNAP CHIP_SNAP.VIEW = true → Completes (.snapLive who) s fun t =>
      t.f CHIP_SNAP CHIP_SNAP.VIEW = 0 ∧ t.dev.snap = [] ∧ KeepsDram s t)

/-- R134, R152, R222, R394, R431, R445: a write of a palette, coefficient or table DATA register, and a read of a palette's, reaches the
entry that the index names in the bank not in force, and steps the index. LAMP_DYN_DATA, ECC_REPAIR_DATA1 and a trim word read the entry
that the index names, NVM_k_DATA takes a word of the channel's buffer; each steps its index. -/
def Obligations.TableData : Prop :=
  (∀ (s : State) (v : Word),
    (∀ d n, d < 8 → 4 ≤ n → n < 7 → s.admits .host (LYR_PAL_DATA d n) → s.live d = true → bitOf s.img.layerEn n = true →
      (let k := palKey d n (s.idleBank (LYR_CTL d n) LYR_CTL.PAL_BANK) (s.f (LYR_PAL_IDX d n) LYR_PAL_IDX.IDX)
       let next := (s.f (LYR_PAL_IDX d n) LYR_PAL_IDX.IDX + 1) % 256
       Completes (.palData (LYR_PAL_DATA d n) (some v)) s (fun t =>
         (∀ j, t.dev.comp.pal.look 0 j = if j = k then v else s.dev.comp.pal.look 0 j) ∧
         t.f (LYR_PAL_IDX d n) LYR_PAL_IDX.IDX = next ∧
         Keeps s t [LYR_PAL_IDX d n] fun x => { x with comp := { x.comp with pal := s.dev.comp.pal }, mem := s.dev.mem }) ∧
       (s.dev.latchHi.look none (halfKey .host (LYR_PAL_DATA d n)) = none →
        Completes (.palData (LYR_PAL_DATA d n) none) s (fun t =>
         t.dev.host.rdData = leBytes 4 (s.dev.comp.pal.look 0 k).toNat ∧ t.f (LYR_PAL_IDX d n) LYR_PAL_IDX.IDX = next ∧
         Keeps s t [LYR_PAL_IDX d n] fun x => { x with host := s.dev.host })))) ∧
    (∀ d n, d < 8 → n < 4 → s.admits .host (LYR_COEF_DATA d n) → s.live d = true → bitOf s.img.layerEn n = true →
      s.f (LYR_COEF_IDX d n) LYR_COEF_IDX.IDX < 448 →
      (let i := s.f (LYR_COEF_IDX d n) LYR_COEF_IDX.IDX
       let k := coefKey d n (s.idleBank (LYR_CTL d n) LYR_CTL.COEF_BANK) i
       let std := fun k => BitVec.ofNat 32 (stdCoef (k % 448))
       Completes (.coefData (LYR_COEF_DATA d n) (some v)) s (fun t =>
         (∀ j, t.dev.comp.coef.get std j = if j = k then v &&& 0x0FFF0FFF#32 else s.dev.comp.coef.get std j) ∧
         t.f (LYR_COEF_IDX d n) LYR_COEF_IDX.IDX = (i + 1) % 448 ∧
         Keeps s t [LYR_COEF_IDX d n] fun x => { x with comp := { x.comp with coef := s.dev.comp.coef }, mem := s.dev.mem }))) ∧
    (∀ d n, d < 8 → n < 7 → s.admits .host (LYR_LUT_DATA d n) → s.live d = true → bitOf s.img.layerEn n = true →
      (let i := s.f (LYR_LUT_IDX d n) LYR_LUT_IDX.IDX % 2050
       let k := lutKey d n (s.idleBank (LYR_BLEND d n) LYR_BLEND.LUT_BANK) i
       Completes (.lutData (LYR_LUT_DATA d n) (some v)) s (fun t =>
         (∀ j, t.dev.comp.lut.get lutIdentity j = if j = k then min 0x10000 (v.toNat % 2 ^ 17) else s.dev.comp.lut.get lutIdentity j) ∧
         t.f (LYR_LUT_IDX d n) LYR_LUT_IDX.IDX = (i + 1) % 2050 ∧
         Keeps s t [LYR_LUT_IDX d n] fun x => { x with comp := { x.comp with lut := s.dev.comp.lut }, mem := s.dev.mem }))) ∧
    (s.admits .mgmt LANY_PAL_DATA → s.b LANY_LOCK LANY_LOCK.LOCK = false →
      (let k := palKey 0 7 (s.idleBank LANY_CTL LANY_CTL.PAL_BANK) (s.f LANY_PAL_IDX LANY_PAL_IDX.IDX)
       Completes (.lanyPalData (some v)) s (fun t =>
         (∀ j, t.dev.comp.pal.look 0 j = if j = k then v else s.dev.comp.pal.look 0 j) ∧
         t.f LANY_PAL_IDX LANY_PAL_IDX.IDX = (s.f LANY_PAL_IDX LANY_PAL_IDX.IDX + 1) % 256 ∧
         Keeps s t [LANY_PAL_IDX] fun x => { x with comp := { x.comp with pal := s.dev.comp.pal } })))) ∧
  ∀ (s : State),
    (∀ d, d < 8 → s.admits .host (LAMP_DYN_DATA d) → s.live d = true → s.dev.latchHi.look none (halfKey .host (LAMP_DYN_DATA d)) = none →
      Completes (.lampDynData d) s fun t =>
        t.dev.host.rdData = leBytes 4 (s.dynData d).1.toNat ∧
        t.f (LAMP_DYN_IDX d) LAMP_DYN_IDX.IDX = (s.f (LAMP_DYN_IDX d) LAMP_DYN_IDX.IDX + 1) % 2 ^ LAMP_DYN_IDX.IDX.w ∧
        Keeps s t [LAMP_DYN_IDX d] fun x => { x with host := s.dev.host }) ∧
    (∀ d, d < 8 → s.admits .host (ECC_REPAIR_DATA1 d) → s.live d = true →
      s.dev.latchHi.look none (halfKey .host (ECC_REPAIR_DATA1 d)) = none →
      Completes (.eccRepairData1 d) s fun t =>
        t.dev.host.rdData = leBytes 4 (s.repairWord d 1 % 2 ^ 32) ∧
        t.f (ECC_REPAIR_IDX d) ECC_REPAIR_IDX.IDX = (s.f (ECC_REPAIR_IDX d) ECC_REPAIR_IDX.IDX + 1) % 32 ∧
        Keeps s t [ECC_REPAIR_IDX d] fun x => { x with host := s.dev.host }) ∧
    (∀ d, d < 8 → s.admits .host (CAL_TRIM_DATA d) → s.live d = true → s.dev.latchHi.look none (halfKey .host (CAL_TRIM_DATA d)) = none →
      Completes (.calTrimData d none) s fun t =>
        t.dev.host.rdData = leBytes 4 (s.trimWord d (s.f (CAL_TRIM_IDX d) CAL_TRIM_IDX.IDX)).toNat ∧
        t.f (CAL_TRIM_IDX d) CAL_TRIM_IDX.IDX = (s.f (CAL_TRIM_IDX d) CAL_TRIM_IDX.IDX + 1) % 64 ∧
        Keeps s t [CAL_TRIM_IDX d] fun x => { x with host := s.dev.host }) ∧
    ∀ k v, k < 2 → s.admits .mgmt (NVM_DATA k) → s.f (NVM_DIDX k) NVM_DIDX.IDX ≤ 1010 →
      Completes (.nvmData .mgmt k (some v)) s fun t =>
        (∀ j, t.dev.nvm.buf.look 0 j = if j = k * 1024 + s.f (NVM_DIDX k) NVM_DIDX.IDX then v else s.dev.nvm.buf.look 0 j) ∧
        t.f (NVM_DIDX k) NVM_DIDX.IDX = (s.f (NVM_DIDX k) NVM_DIDX.IDX + 1) % 1011 ∧
        Keeps s t [NVM_DIDX k] fun x => { x with nvm := { x.nvm with buf := s.dev.nvm.buf } }

/-! ### Raster, timebase and wall synchronisation -/

/-- R454: at a frame start of the running raster CAL_SHED.LEVEL takes the largest shed level n (CAL_PACE_STAT.REQ) of the populated, unfenced
dies, and each of them sheds what that level asks for, in the order of R452. -/
def Obligations.FrameStart : Prop :=
  ∀ (s : State), s.dies ≤ 8 → s.rasterOn = true → s.dev.image.isSome = true →
    Completes .frameStart s fun t =>
      (∀ d, t.live d = true → t.f (CAL_PACE_STAT d) CAL_PACE_STAT.REQ ≤ t.f CAL_SHED CAL_SHED.LEVEL) ∧
      (t.f CAL_SHED CAL_SHED.LEVEL = 0 ∨
        ∃ d ∈ t.liveDies, t.f (CAL_PACE_STAT d) CAL_PACE_STAT.REQ = t.f CAL_SHED CAL_SHED.LEVEL) ∧
      ∀ d, t.live d = true → t.f (LAMP_SHED d) LAMP_SHED.ITEMS = shedItems (t.f CAL_SHED CAL_SHED.LEVEL)

/-- R86, R178, R175, R176: LINE_START takes the next line of the raster; the knot line opens the shadow transfer window, unless the part has
left the operating modes at it; with nothing held, the end of the window closes it. R35, R37 to R40: at the knot line the management port's
request is performed or refused, then the host's, which a performed one above it drops, then the automatic triggers act: Live goes to Belay when
every port that feeds a layer sleeps, Belay to Coil after COIL_DELAY. That the evaluation is one step is the reading of
notes/assumptions/7.md and 15.md. -/
def Obligations.LinesAndWindow : Prop :=
  ∀ (s : State), s.rasterOn = true → s.dev.image.isSome = true →
    (∀ ds, s.dev.tb.line < s.dev.tb.ras.vtotal → (∀ l ∈ ds, l.lockErr.natAbs ≤ 3) →
      Completes (.lineStart ds) s fun t => t.dev.tb.line = s.dev.tb.line + 1) ∧
    (∀ n, s.b KNOT_STATUS KNOT_STATUS.BUSY = true → s.dev.knot.held = [] →
      Completes (.knotWindowEnd n) s fun t => t.b KNOT_STATUS KNOT_STATUS.BUSY = false) ∧
    ∀ l, s.b KNOT_STATUS KNOT_STATUS.BUSY = false →
      (Completes (.knotLineStart l) s fun t =>
        t.rasterOn = true → t.b KNOT_STATUS KNOT_STATUS.BUSY = true ∧ t.dev.knot.seqStart = t.reg KNOT_SEQ ∧ t.dev.knot.dieLost = false) ∧
      (s.dev.boot.lanyLeft = 0 → s.dev.boot.idlePending = false → s.dev.knot.fenceReq = [] →
        (let entered := fun (m : Mode) (reason : Nat) (t : State) =>
           t.mode = m ∧ t.f CHIP_MODE CHIP_MODE.PREV = s.mode.code ∧ t.f CHIP_MODE CHIP_MODE.REASON = reason
         let unasked := (s.req .mgmt).result ≠ 1 ∧ (s.req .host).result ≠ 1
         let allowed := fun (m : Mode) => m ∈ s.mode.requests ∧ m ≠ .reload
         (∀ m, s.req .mgmt = ⟨m.code, 1⟩ → allowed m → Completes (.knotLineStart l) s fun t =>
           entered m 2 t ∧ t.req .mgmt = ⟨m.code, 0⟩ ∧
           t.req .host = if (s.req .host).result = 1 then ⟨(s.req .host).mode, 3⟩ else s.req .host) ∧
         (∀ m k, s.req .mgmt = ⟨k.code, 1⟩ → k ∉ s.mode.requests → s.req .host = ⟨m.code, 1⟩ → allowed m →
           Completes (.knotLineStart l) s fun t =>
             entered m 1 t ∧ t.req .mgmt = ⟨k.code, 2⟩ ∧ t.req .host = ⟨m.code, 0⟩) ∧
         (unasked → s.mode = .live → s.b CHIP_MODE_CTL CHIP_MODE_CTL.AUTO_BELAY = true → s.fedPorts ≠ [] →
           (∀ d ∈ s.fedPorts, s.asleep d = true ∧ d ∈ l) → Completes (.knotLineStart l) s (entered .belay 3)) ∧
         (unasked → s.mode = .belay → s.b CHIP_MODE_CTL CHIP_MODE_CTL.AUTO_COIL = true → (∀ d ∈ s.fedPorts, d ∈ l) →
           s.f CHIP_MODE_CTL CHIP_MODE_CTL.COIL_DELAY ≤ s.dev.boot.coilFrames + 1 → Completes (.knotLineStart l) s (entered .coil 5))))

/-- R171, R174, R175, R177 to R180, R183 to R185, R189, R491: the outcomes of a knot. A request whose values break no rule applies, unless
it waits: the shadows that it takes become the active values, KNOT_APPLIED and KNOT_APPLIED_SEQ name it, the fences of its layers are
disarmed; independent layers with a pending fence stay behind as parts of their own. A request whose fence, playlist or table load is
pending, or which must wait for the pin table, is deferred whole; one that breaks a rule, or cannot ever fit the table, is rejected with the
lowest register at fault. An independent part applies, waits or is dropped alone. Outside the modes of R180 a request is held, and after the
loss of a die it stays pending. Which register a rule over several names, that PIN_WAIT is set with a fence too, and how parts and a request
meet at one line, are the reading of notes/assumptions/13.md, 28.md and 49.md. -/
def Obligations.KnotOutcomes : Prop :=
  ∀ (s : State) (ticks : Nat), s.b KNOT_STATUS KNOT_STATUS.BUSY = true → s.dev.knot.held = [] →
    (let rws := fun a => BitVec.ofNat 32 (rwsBits a)
     let takes := fun (req : Bool) (ls : List Nat) (t : State) =>
       (∀ a, t.regW a &&& rws a = (if knotTakes req ls a && !lanyReg a && s.windowLive a then s.shW a else s.regW a) &&& rws a) ∧
       t.dev.shadow = s.dev.shadow ∧ t.b KNOT_STATUS KNOT_STATUS.BUSY = false ∧ KeepsDram s t
     let keeps := takes false []
     let disarmed := fun (ls : List Nat) (t : State) => ∀ d, s.live d = true → ∀ k ∈ ls,
       t.reg (LYR_READY d k) = 0 ∧ t.reg (LYR_KSTAT d k) = s.tbFrame % 2 ^ 24
     let deferred := fun (fence pins : Bool) (t : State) =>
       t.b KNOT_STATUS KNOT_STATUS.FENCE = fence ∧ t.b KNOT_STATUS KNOT_STATUS.PIN_WAIT = pins ∧
       t.reg KNOT_DEFER_COUNT = min 0xFFFFFFFF (s.reg KNOT_DEFER_COUNT + 1) ∧ bitOf (t.reg HOST_IRQ_STAT) 9 = true
     let rejected := fun (off cause : Nat) (t : State) =>
       t.f KNOT_STATUS KNOT_STATUS.BAD_SHADOW = 1 ∧ t.reg KNOT_REJECT = cause % 16 * 2 ^ 28 + off % 2 ^ 20 ∧ bitOf (t.reg HOST_IRQ_STAT) 8 = true
     let alone := (List.range 7).filter fun k => s.fencePending k && bitOf (s.f KNOT_INDEP KNOT_INDEP.LAYERS) k
     let base := (List.range 7).filter fun k => !alone.contains k
     let v := s.knotView true base
     let bad := firstFault (s.shadowFaults s.img v true)
     let waits := base.any s.fencePending || s.loadWaits || s.plWaits
     let pending := s.b KNOT_STATUS KNOT_STATUS.PEND = true
     (s.mode.knots = true → s.dev.knot.dieLost = false → pending → s.indepPend = [] →
       (bad = none → s.pinFit v = .fits → waits = false → Completes (.knotWindowEnd ticks) s fun t =>
         takes true base t ∧ disarmed base t ∧ t.f KNOT_STATUS KNOT_STATUS.PEND = 0 ∧ t.f KNOT_STATUS KNOT_STATUS.DEFERRED = 0 ∧
         t.pair KNOT_APPLIED_LO KNOT_APPLIED_HI 16 = s.tbFrame % 2 ^ 48 ∧ t.reg KNOT_APPLIED_SEQ = s.dev.knot.seqStart % 2 ^ 32 ∧
         t.f KNOT_STATUS KNOT_STATUS.INDEP_PEND = layerMask alone ∧ bitOf (t.reg HOST_IRQ_STAT) 8 = true ∧
         (∀ d, s.live d = true → ∀ k ∈ alone, t.f (LYR_KSTAT d k) LYR_KSTAT.PEND = 1) ∧ (alone ≠ [] → deferred true false t)) ∧
       (bad = none → (s.pinFit v = .waits ∨ (s.pinFit v = .fits ∧ waits = true)) → Completes (.knotWindowEnd ticks) s fun t =>
         keeps t ∧ t.f KNOT_STATUS KNOT_STATUS.PEND = 1 ∧ t.f KNOT_STATUS KNOT_STATUS.DEFERRED = 1 ∧
         deferred waits (decide (s.pinFit v = .waits)) t) ∧
       (∀ f, bad = some f → Completes (.knotWindowEnd ticks) s fun t =>
         keeps t ∧ rejected f.1 f.2 t ∧ t.f KNOT_STATUS KNOT_STATUS.PEND = 0 ∧ t.f KNOT_STATUS KNOT_STATUS.DEFERRED = 0) ∧
       (∀ d, bad = none → s.pinFit v = .never d → Completes (.knotWindowEnd ticks) s fun t =>
         keeps t ∧ rejected (DIE_PIN_STATUS d) 4 t ∧ t.f KNOT_STATUS KNOT_STATUS.PEND = 0)) ∧
     (∀ n, s.mode.knots = true → s.dev.knot.dieLost = false → ¬ pending → s.indepPend = [n] →
       (let w := s.knotView false [n]
        let still := fun (t : State) => keeps t ∧ t.f KNOT_STATUS KNOT_STATUS.INDEP_PEND = layerMask [n]
        let gone := fun (t : State) => t.f KNOT_STATUS KNOT_STATUS.INDEP_PEND = 0
        (s.fencePending n = true → Completes (.knotWindowEnd ticks) s fun t => still t ∧ deferred true false t) ∧
        (s.fencePending n = false → s.partFault w n = none →
          (s.pinFit w = .fits → Completes (.knotWindowEnd ticks) s fun t => takes false [n] t ∧ disarmed [n] t ∧ gone t) ∧
          (s.pinFit w ≠ .fits → Completes (.knotWindowEnd ticks) s fun t => still t ∧ deferred false true t)) ∧
        ∀ off, s.fencePending n = false → s.partFault w n = some off → Completes (.knotWindowEnd ticks) s fun t =>
          keeps t ∧ rejected off 6 t ∧ gone t ∧ ∀ d, s.live d = true → t.f (LYR_KSTAT d n) LYR_KSTAT.PEND = 0)) ∧
     (pending → (s.mode.knots = false ∨ s.dev.knot.dieLost = true) → Completes (.knotWindowEnd ticks) s fun t =>
       keeps t ∧ t.f KNOT_STATUS KNOT_STATUS.PEND = 1 ∧ t.b KNOT_STATUS KNOT_STATUS.HELD = !s.mode.knots ∧
       t.f KNOT_STATUS KNOT_STATUS.INDEP_PEND = s.f KNOT_STATUS KNOT_STATUS.INDEP_PEND))

/-- R34, R35, R36, R44, R52, R66, R71, R73: a step of any command changes the mode, if at all, by a transition of R35, and keeps what ties
the mode to the fuse load, to a load in progress, to an ended Reload and to the transition to Lanyard-only. -/
def Obligations.ModeChanges : Prop :=
  ∀ (s t : State), ModeInv s → step s = .next t → modeStep s.mode t.mode ∧ ModeInv t

/-- R81, R177, R338, R482: a frame start keeps the register values of the frame before, and the values in force show the new frame number: one
more, or the number that a slave takes over; DRAM stays, but for the frame start that enters Lanyard-only, where jobs end. VB_START sets its
event on every live die, LINE_MATCH k that of its comparator, and both copies of the interrupt status. In which order a frame start does this
is the reading of notes/assumptions/9.md. -/
def Obligations.RasterEvents : Prop :=
  ∀ (s : State), s.rasterOn = true →
    (s.dev.image.isSome = true → Completes .frameStart s fun t =>
      t.dev.workOld = s.dev.work ∧
      ((t.dev.work.get (resetWord s.dies) TB_FRAME_LO).toNat = (match s.dev.tb.setFrame with
        | some x => x.1
        | none => s.tbFrame + 1) % 2 ^ 32) ∧ (s.dev.boot.lanyLeft ≠ 1 → KeepsDram s t)) ∧
    (∀ d k, d < 8 → s.live d = true → k < 4 → s.wb (SCAN_LM d k) SCAN_LM.EN = true → s.wf (SCAN_LM d k) SCAN_LM.LINE < s.dev.tb.ras.vtotal →
      Completes (.lineMatch d k) s fun t =>
        bitOf (t.f (SCAN_EVT d) SCAN_EVT.LM) k = true ∧ bitOf (t.reg HOST_IRQ_STAT) (2 + k) = true ∧
        bitOf (t.reg HOST_MGMT_IRQ_STAT) (2 + k) = true ∧
        Keeps s t [SCAN_EVT d, HOST_IRQ_STAT, HOST_MGMT_IRQ_STAT] fun x => { x with host := s.dev.host }) ∧
    Completes .vbStart s fun t =>
      (∀ d, s.live d = true → t.f (SCAN_EVT d) SCAN_EVT.VB_START = 1 ∧ bitOf (t.reg HOST_IRQ_STAT) 1 = true ∧
        bitOf (t.reg HOST_MGMT_IRQ_STAT) 1 = true) ∧
      (s.strandList = [] → Keeps s t ([HOST_IRQ_STAT, HOST_MGMT_IRQ_STAT] ++ s.liveDies.map SCAN_EVT) fun x => { x with host := s.dev.host })

/-- R93, R94, R95, R96: SYNC_OUT sends the word of each frame once, as a pulse, a gap and its Manchester bits; a bad pulse is reported; a
valid one gives a slave its master's number and HOPS; three periods without one put a locked slave into Holdover. What of a word before it
is missed, and when the slave acts on a pulse, is the reading of notes/assumptions/48.md. -/
def Obligations.WallSync : Prop :=
  ∀ (s : State), s.rasterOn = true →
    (∀ n o start, s.b TB_CTL TB_CTL.SYNC_OUT_EN = true → s.unsentPlace n = some o → s.startAt o = some start → s.slave = false →
      (let t0 : Int := start + (s.ofsAt o).1
       0 ≤ t0 → (s.dev.tb.wordEnd : Int) ≤ t0 → ((s.ofsAt o).2 : Int) ≤ t0 →
       Completes (.syncOutPulse n) s fun t =>
         (let w := syncWord n 0 (s.f CHIP_MODE CHIP_MODE.MODE) false
          t.dev.tb.word = some w ∧ t.dev.tb.wordPlace = some o ∧ t.dev.tb.wordEnd = t0.toNat + 4416 ∧
          (∀ k, k < 256 → t.syncOutLevel (t0.toNat + k) = true) ∧ (∀ k, 256 ≤ k → k < 320 → t.syncOutLevel (t0.toNat + k) = false) ∧
          (∀ b k, b < 64 → k < 64 → t.syncOutLevel (t0.toNat + 320 + 64 * b + k) = (bitOf w b == decide (k < 32))) ∧
          (∀ k, 4416 ≤ k → t.syncOutLevel (t0.toNat + k) = false)) ∧ Keeps s t [] fun x => { x with tb := s.dev.tb })) ∧
    (∀ high w at', (s.slave = true ∨ s.b TB_CTL TB_CTL.SYNC_MEAS = true) →
      (high < 224 ∨ 288 < high ∨ syncWordOk w = false ∨ w / 2 ^ 48 % 8 = 7) →
      Completes (.syncInPulse high w at') s fun t =>
        t.f TB_STATUS TB_STATUS.SYNC_BAD = 1 ∧ t.f ERR_STATUS ERR_STATUS.TB = 1 ∧ t.dev.tb = s.dev.tb) ∧
    (∀ high w at', s.slave = true → 224 ≤ high → high ≤ 288 → syncWordOk w = true → w / 2 ^ 48 % 8 < 7 →
      Completes (.syncInPulse high w at') s fun t =>
        t.f TB_STATUS TB_STATUS.HOPS = w / 2 ^ 48 % 8 ∧ t.dev.tb.pulse = some (at', w % 2 ^ 48) ∧
        Keeps s t [TB_STATUS] fun x => { x with tb := s.dev.tb }) ∧
    (s.slave = true → s.f TB_STATUS TB_STATUS.STATE = 2 →
      Completes .syncHoldover s fun t =>
        t.f TB_STATUS TB_STATUS.STATE = 3 ∧ t.f TB_STATUS TB_STATUS.LOCK_LOSS = 1 ∧ t.f ERR_STATUS ERR_STATUS.TB = 1 ∧ t.dev.tb = s.dev.tb)

/-! ### Source ports -/

/-- R106, R110, R111: a source frame that starts on a port with its link up is shown by SRC_STATUS and goes, with the geometry in force
then, into a buffer that is neither D, C nor REL; at its end, undamaged, that buffer becomes C and the port captures nothing; a frame
whose line count differs from that geometry, or that meets one without lines or pixels, is dropped with GEOM and DAMAGED set. That the start
of a frame sets VIDEO is the reading of notes/assumptions/30.md. -/
def Obligations.SourceFrames : Prop :=
  ∀ (s : State) (d : Nat), d < 8 →
    (∀ ofs enc bpc col rows k, s.srcAnswers d = true → s.hpd d = true → s.b (SRC_STATUS d) SRC_STATUS.LINK_UP = true → s.sw d = 3 →
      ([0, 1, 2].find? fun b => !([s.sd d, s.sc d, s.sr d].contains b)) = some k →
      Completes (.sourceFrameStart d ofs enc bpc col rows) s fun t =>
        t.sw d = k ∧ t.sd d = s.sd d ∧ t.sc d = s.sc d ∧ t.sr d = s.sr d ∧ t.f (SRC_STATUS d) SRC_STATUS.VIDEO = 1 ∧
        (t.port d).live = some ⟨enc, bpc, rows⟩ ∧ (t.port d).geo.w = s.f (SRC_GEOM d) SRC_GEOM.W ∧
        (t.port d).geo.h = s.f (SRC_GEOM d) SRC_GEOM.H ∧ (t.port d).geo.stride = s.f (SRC_STRIDE d) SRC_STRIDE.STRIDE ∧ KeepsDram s t) ∧
    (∀ fr, (s.port d).live = some fr → s.sw d < 3 → (s.port d).geo.w ≠ 0 → fr.rows.length = (s.port d).geo.h →
      fr.rows ≠ [] → (∀ r ∈ fr.rows, r.length = (s.port d).geo.w) →
      fr.lineBytes (s.port d).geo.w ≤ (s.port d).geo.stride → fr.unsupported = false →
      Completes (.sourceFrameEnd d false) s fun t => t.sc d = s.sw d ∧ t.sw d = 3 ∧ (t.port d).live = none ∧ (t.port d).last = some fr) ∧
    ∀ fr, (s.port d).live = some fr → ((s.port d).geo.w = 0 ∨ (s.port d).geo.h = 0 ∨ fr.rows.length ≠ (s.port d).geo.h) →
      Completes (.sourceFrameEnd d false) s fun t =>
        t.f (SRC_EVT d) SRC_EVT.GEOM = 1 ∧ t.f (SRC_EVT d) SRC_EVT.DAMAGED = 1 ∧ t.sc d = s.sc d ∧ t.sd d = s.sd d ∧ t.sw d = 3 ∧
        (t.port d).live = none ∧ KeepsDram s t

/-- R101, R103, R104, R105: what the source's own side does to a port: a native AUX read is answered with the DPCD bytes, training sets
LINK_UP, a loss of the link clears it and pulses IRQ_HPD, and the pulses end. That AUX is answered whatever the level of HPD, and that
VIDEO goes with the link, is the reading of notes/assumptions/30.md; the link status bytes are those of notes/assumptions/32.md. -/
def Obligations.SourceLinks : Prop :=
  ∀ (s : State) (d : Nat), d < 8 →
    (∀ a n, s.srcAnswers d = true →
      Completes (.auxTransaction d true false a [] n) s fun t =>
        (t.port d).auxAck = 0 ∧ (t.port d).auxData = (List.range n).map (fun i => BitVec.ofNat 8 (s.dpcdRead d (a + i))) ∧
        (∀ x, x ≠ d → t.port x = s.port x) ∧ Keeps s t [] fun x => { x with src := s.dev.src }) ∧
    (∀ lanes rate, s.srcAnswers d = true → s.hpd d = true →
      Completes (.srcLinkUp d lanes rate) s fun t =>
        t.f (SRC_STATUS d) SRC_STATUS.LINK_UP = 1 ∧ t.f (SRC_STATUS d) SRC_STATUS.RATE = rate % 2 ^ SRC_STATUS.RATE.w ∧
        t.f (SRC_STATUS d) SRC_STATUS.LANES = (if lanes = 1 then 0 else if lanes = 2 then 1 else 2) ∧
        Keeps s t [SRC_STATUS d] fun x => { x with src := s.dev.src }) ∧
    (s.b (SRC_STATUS d) SRC_STATUS.LINK_UP = true →
      Completes (.dpLinkLoss d) s fun t =>
        t.f (SRC_STATUS d) SRC_STATUS.LINK_UP = 0 ∧ t.f (SRC_STATUS d) SRC_STATUS.VIDEO = 0 ∧ (t.port d).irqPulse = true ∧
        t.hpd d = false ∧ KeepsDram s t) ∧
    Completes (.irqHpdEnd d) s (fun t => (t.port d).irqPulse = false ∧ { (t.port d) with irqPulse := (s.port d).irqPulse } = s.port d ∧
      Keeps s t [] fun x => { x with src := s.dev.src }) ∧
    Completes (.hpdLowExpiry d) s (fun t => (t.port d).hpdPulse = false ∧ { (t.port d) with hpdPulse := (s.port d).hpdPulse } = s.port d ∧
      Keeps s t [] fun x => { x with src := s.dev.src })

/-- R102, R104, R160: SRC_CTL.EN set starts a port with empty buffers, EN cleared stops it and marks its
buffers for release at the next knot line; a
writeback surface is complete once every line of the section has been composed. That EN = 0 takes the link away with HPD is the reading
of notes/assumptions/30.md. -/
def Obligations.PortAndWriteback : Prop :=
  ∀ (s : State) (d : Nat), d < 8 →
    (∀ v, s.admits .host (SRC_CTL d) → s.live d = true → s.b (SRC_CTL d) SRC_CTL.EN = false → bitOf v.toNat 31 = true →
      Completes (.srcCtlWrite (SRC_CTL d) v) s fun t =>
        t.b (SRC_CTL d) SRC_CTL.EN = true ∧ t.sd d = 3 ∧ t.sc d = 3 ∧ t.sw d = 3 ∧ t.sr d = 3 ∧ (t.port d).drop = false ∧ KeepsDram s t) ∧
    (∀ v, s.admits .host (SRC_CTL d) → s.live d = true → s.b (SRC_CTL d) SRC_CTL.EN = true → bitOf v.toNat 31 = false →
      Completes (.srcCtlWrite (SRC_CTL d) v) s fun t =>
        t.b (SRC_CTL d) SRC_CTL.EN = false ∧ t.sw d = 3 ∧ (t.port d).drop = true ∧ t.f (SRC_STATUS d) SRC_STATUS.LINK_UP = 0 ∧ KeepsDram s t) ∧
    ∀ n, s.dev.comp.wbDue.look none d = some n →
      (∀ i, i < (s.section d).h → (s.dev.comp.full.look [] (lineKey d ((s.section d).y + i))).isEmpty = false) →
      Completes (.wbSurfaceComplete d) s fun t =>
        t.f (DIE_WB_STATUS d) DIE_WB_STATUS.VALID = 1 ∧ t.pair (DIE_WB_FRAME_LO d) (DIE_WB_FRAME_HI d) 16 = n % 2 ^ 48 ∧
        t.dev.comp.wbDue.look none d = none ∧
        Keeps s t [DIE_WB_STATUS d, DIE_WB_FRAME_LO d, DIE_WB_FRAME_HI d] fun x => { x with comp := s.dev.comp }

/-! ### Lamp tables, fences and faults -/

/-- R199, R201, R233, R222: a GO starts a load on every populated die that is not fenced, each into the bank that its own registers leave free;
the load of a die ends when its cells hold the set, and LOAD_BUSY ends on every die once no die waits. LAMP_DYN_CLR asks for the dynamic list to
be emptied at the next frame start and leaves the list until then. That a write to one die's window takes its source address from that window for
every die is the reading of notes/assumptions/50.md. -/
def Obligations.LampTableLoads : Prop :=
  ∀ (s : State) (d : Nat), d < 8 →
    (∀ who, s.admits who (LAMP_EOTF_LOAD d) → s.live d = true → s.b (LAMP_STATUS d) LAMP_STATUS.LOAD_BUSY = false →
      Completes (.eotfLoadGo who (LAMP_EOTF_LOAD d)) s fun t =>
        (∀ e, s.live e = true → t.f (LAMP_STATUS e) LAMP_STATUS.LOAD_BUSY = 1 ∧
          t.f (LAMP_STATUS e) LAMP_STATUS.LOAD_BANK = 1 - s.f (LAMP_CTL e) LAMP_CTL.EOTF_BANK ∧
          t.dev.lamp.eotfLoad.look none e = some (s.pair (LAMP_EOTF_SRC_LO d) (LAMP_EOTF_SRC_HI d) 32)) ∧
        Keeps s t (s.liveDies.map LAMP_STATUS) fun x => { x with lamp := { x.lamp with eotfLoad := s.dev.lamp.eotfLoad } }) ∧
    (∀ who, s.admits who (LAMP_OUT_LOAD d) → s.live d = true → s.b (LAMP_OUT_STATUS d) LAMP_OUT_STATUS.LOAD_BUSY = false →
      Completes (.outLoadGo who (LAMP_OUT_LOAD d)) s fun t =>
        (∀ e, s.live e = true → t.f (LAMP_OUT_STATUS e) LAMP_OUT_STATUS.LOAD_BUSY = 1 ∧
          t.f (LAMP_OUT_STATUS e) LAMP_OUT_STATUS.LOAD_BANK = 1 - s.f (LAMP_OUT_CTL e) LAMP_OUT_CTL.OUT_BANK ∧
          t.dev.lamp.outLoad.look none e = some (s.pair (LAMP_OUT_SRC_LO d) (LAMP_OUT_SRC_HI d) 32)) ∧
        Keeps s t (s.liveDies.map LAMP_OUT_STATUS) fun x => { x with lamp := { x.lamp with outLoad := s.dev.lamp.outLoad } }) ∧
    (∀ who, s.admits who (LAMP_EOTF_LOAD d) → s.live d = true → s.b (LAMP_STATUS d) LAMP_STATUS.LOAD_BUSY = true →
      Completes (.eotfLoadGo who (LAMP_EOTF_LOAD d)) s fun t =>
        t.f (LAMP_STATUS d) LAMP_STATUS.LOAD_REFUSED = 1 ∧ t.dev.lamp = s.dev.lamp ∧ KeepsDram s t) ∧
    (∀ a, s.dev.lamp.eotfLoad.look none d = some a →
      (s.rasterOn = false ∨ s.wf (LAMP_CTL d) LAMP_CTL.EOTF_BANK ≠ s.f (LAMP_STATUS d) LAMP_STATUS.LOAD_BANK) →
      Completes (.eotfLoadDone d) s fun t =>
        t.dev.lamp.eotfLoad.look none d = none ∧
        ((∀ e, e ≠ d → s.live e = true → s.dev.lamp.eotfLoad.look none e = none) →
          ∀ e, s.live e = true → t.f (LAMP_STATUS e) LAMP_STATUS.LOAD_BUSY = 0)) ∧
    (∀ a, s.dev.lamp.outLoad.look none d = some a →
      (s.rasterOn = false ∨ s.wf (LAMP_OUT_CTL d) LAMP_OUT_CTL.OUT_BANK ≠ s.f (LAMP_OUT_STATUS d) LAMP_OUT_STATUS.LOAD_BANK) →
      Completes (.outLoadDone d) s fun t =>
        t.dev.lamp.outLoad.look none d = none ∧
        ((∀ e, e ≠ d → s.live e = true → s.dev.lamp.outLoad.look none e = none) →
          ∀ e, s.live e = true → t.f (LAMP_OUT_STATUS e) LAMP_OUT_STATUS.LOAD_BUSY = 0)) ∧
    ∀ who, s.admits who (LAMP_DYN_CLR d) → s.live d = true →
      Completes (.lampDynClr who (LAMP_DYN_CLR d)) s fun t =>
        d ∈ t.dev.lamp.dynClr ∧ t.dev.lamp.dyn = s.dev.lamp.dyn ∧ t.dev.lamp.dynNew = s.dev.lamp.dynNew ∧
        Keeps s t [] fun x => { x with lamp := s.dev.lamp }

/-- R24, R25, R256, R489: a cell that meets a fault is fenced while its block has fewer than four fenced cells: its bit, the cause with its
engine, ERR_DIE.CELL; its engine stops. A faulty block is fenced whole. The host's fence request waits for the knot line. What a fence takes
with it at once is the reading of notes/assumptions/16.md. -/
def Obligations.CellFences : Prop :=
  ∀ (s : State) (d e cause : Nat), d < 8 → e < 128 → cause < 8 → s.live d = true → cellFenced (s.cellsNow d) e = false →
    s.fencedIn d (e / 16) < 4 → s.mode ≠ .reset →
    (let regs := [PE_FENCE d (e / 32), PE_FENCE_CAUSE d, ERR_DIE d, ERR_STATUS, HOST_IRQ_STAT, HOST_MGMT_IRQ_STAT]
     let effect := fun (c : Nat) (t : State) =>
       bitOf (t.reg (PE_FENCE d (e / 32))) (e % 32) = true ∧ t.reg (PE_FENCE_CAUSE d) = e * 2 ^ 16 + c ∧
       t.f (ERR_DIE d) ERR_DIE.CELL = 1 ∧ (t.engine (d * 128 + e)).run = .none ∧
       (∀ x, x ≠ d * 128 + e → t.engine x = s.engine x) ∧
       Keeps s t regs fun x => { x with engines := s.dev.engines, host := s.dev.host }
     Completes (.cellFault d e cause) s (effect cause)) ∧
    (∀ b, b < 8 → s.fencedIn d b < 16 → ((List.range 8).filter fun k => s.fencedIn d k = 16).length < 4 →
      Completes (.blockFault d b) s fun t =>
        (∀ c, c < 16 → cellFenced (t.cellsNow d) (16 * b + c) = true) ∧ t.f (ERR_DIE d) ERR_DIE.BLOCK = 1 ∧ KeepsDram s t) ∧
    ∀ who, s.admits who (PE_FENCE_REQ d) →
      Completes (.peFenceReq who (PE_FENCE_REQ d) e) s fun t =>
        t.dev.knot.fenceReq = s.dev.knot.fenceReq ++ [(d, e)] ∧
        Keeps s t [] fun x => { x with knot := { x.knot with fenceReq := s.dev.knot.fenceReq } }

/-- R253, R24, R489, R244, R245, R246: an engine that decodes an undefined opcode or the reserved SAT code is fenced under R24, with cause
UNDEF: its cell while its block has fewer than four fenced cells, else, as R24 has it for a fifth cell, its block; a fifth block fences the
die, or is fatal on die 0. The word of every well-formed engine command, and of each with the reserved SAT code, is read as that command,
and a word with any other opcode is an undefined one. -/
def Obligations.UndefinedInstructions : Prop :=
  (∀ (s : State) (eng vd va vb n amt : Nat) (ua ub byreg arith rnd : Bool), s.engineRuns eng = true → eng < 1024 → s.mode ≠ .reset →
    ∀ c ∈ [Instr.undefinedOpcode eng, .rda eng vd n 7, .mulr eng vd va vb ua ub n 7, .add eng vd va vb ua 7, .sub eng vd va vb ua 7,
        .shl eng vd va vb byreg amt 7, .shr eng vd va vb byreg amt arith rnd 7, .clmp eng vd va 7 rnd],
      (let d := eng / 128
       let e := eng % 128
       (s.fencedIn d (e / 16) < 4 → Completes c s fun t =>
         cellFenced (t.cellsNow d) e = true ∧ bitOf (t.reg (PE_FENCE d (e / 32))) (e % 32) = true ∧
         t.f (PE_FENCE_CAUSE d) PE_FENCE_CAUSE.ENGINE = e ∧ t.f (PE_FENCE_CAUSE d) PE_FENCE_CAUSE.CAUSE = 3 ∧
         t.f (ERR_DIE d) ERR_DIE.CELL = 1 ∧ (t.engine eng).run = .none ∧ (∀ x, x ≠ eng → t.engine x = s.engine x) ∧
         Keeps s t [PE_FENCE d (e / 32), PE_FENCE_CAUSE d, ERR_DIE d, ERR_STATUS, HOST_IRQ_STAT, HOST_MGMT_IRQ_STAT] fun x =>
           { x with engines := s.dev.engines, host := s.dev.host }) ∧
       (4 ≤ s.fencedIn d (e / 16) → ((List.range 8).filter fun k => s.fencedIn d k = 16).length < 4 → Completes c s fun t =>
         (∀ k, k < 16 → cellFenced (t.cellsNow d) (16 * (e / 16) + k) = true) ∧ t.f (PE_FENCE_CAUSE d) PE_FENCE_CAUSE.CAUSE = 6 ∧
         t.f (ERR_DIE d) ERR_DIE.BLOCK = 1 ∧ KeepsDram s t) ∧
       (4 ≤ s.fencedIn d (e / 16) → 4 ≤ ((List.range 8).filter fun k => s.fencedIn d k = 16).length → Completes c s fun t =>
         t.mode = .reset ∨ (if d = 0 then t.f ERR_FATAL ERR_FATAL.CAUSE = 1 else t.fenced d = true)))) ∧
  (∀ c w, c.wf = true → insWord c = some w → ∃ eng, insCommand eng w = some c) ∧
  (∀ eng w, opcodeListed (bits w 31 26) = false → insCommand eng w = some (.undefinedOpcode eng)) ∧
  ∀ (eng vd va vb n amt : Nat) (ua ub byreg arith rnd : Bool), vd < 16 → va < 16 → vb < 16 → n < 64 → amt < 32 → (byreg || vb = 0) = true →
    ∀ c ∈ [Instr.rda eng vd n 7, .mulr eng vd va vb ua ub n 7, .add eng vd va vb ua 7, .sub eng vd va vb ua 7,
        .shl eng vd va vb byreg amt 7, .shr eng vd va vb byreg amt arith rnd 7, .clmp eng vd va 7 rnd],
      (insWord c).bind (insCommand eng) = some c

/-- R28, R35, R36, R39, R489: a fatal error during start-up halts it with ERR 0xC; in Dormant it is recorded; in Lanyard-only it only shows;
in every other mode after the installation it drops the pending requests and any load, sets CHIP_MODE.BUSY and leads, two frames later, to
Lanyard-only, or at once to Reset when the Lanyard path is broken. A fault of a die other than die 0 fences the die, with its cause, and keeps
the mode; in Lanyard-only it leads to Reset when it breaks the Lanyard path; a second die that loses the control star in a frame is a fatal
error of cause 3. That ERR_FATAL shows the newest error is the reading of notes/assumptions/16.md, the two frames that of
notes/assumptions/7.md. -/
def Obligations.FatalErrorsAndDieFences : Prop :=
  ∀ (s : State),
    (∀ c, c < 16 → (s.mode = .test ∨ s.mode = .load) →
      Completes (.fatalChipError c) s fun t =>
        t.f ERR_FATAL ERR_FATAL.CAUSE = c % 2 ^ ERR_FATAL.CAUSE.w ∧ t.f ERR_STATUS ERR_STATUS.FATAL = 1 ∧ t.mode = s.mode ∧
        t.f CHIP_BOOT_STATUS CHIP_BOOT_STATUS.STAGE = 15 ∧ t.f CHIP_BOOT_STATUS CHIP_BOOT_STATUS.ERR = 12 ∧ t.dev.boot.loading = none) ∧
    (∀ c, s.mode = .dormant → s.fatalReset = false → c ≠ 1 →
      Completes (.fatalChipError c) s fun t => t.dev.boot.fatalDormant = true ∧ t.mode = .dormant ∧ KeepsDram s t) ∧
    (∀ c, c < 16 → s.mode ∉ [Mode.reset, .test, .load] →
      (let u := if c = 1 then s.setBoot { s.dev.boot with die0Fault := true } else s
       (u.fatalReset = true → Completes (.fatalChipError c) s fun t =>
         t.mode = .reset ∧ t.f CHIP_MODE CHIP_MODE.REASON = 6 ∧ KeepsDram s t) ∧
       (u.fatalReset = false → Completes (.fatalChipError c) s fun t =>
         t.mode = s.mode ∧ t.f ERR_FATAL ERR_FATAL.CAUSE = c % 2 ^ ERR_FATAL.CAUSE.w ∧ t.f ERR_STATUS ERR_STATUS.FATAL = 1 ∧ KeepsDram s t) ∧
       (u.fatalReset = false → s.mode ≠ .dormant → s.mode ≠ .lanyardOnly → s.dev.boot.lanyLeft = 0 →
         Completes (.fatalChipError c) s fun t =>
           t.dev.boot.lanyLeft = 2 ∧ t.f CHIP_MODE CHIP_MODE.BUSY = 1 ∧ t.dev.boot.loading = none ∧
           ∀ who, t.req who = if (s.req who).result = 1 then ⟨(s.req who).mode, 3⟩ else s.req who))) ∧
    (s.rasterOn = true → s.dev.image.isSome = true →
      (s.dev.boot.lanyLeft = 2 → Completes .frameStart s fun t => t.dev.boot.lanyLeft = 1 ∧ t.mode = s.mode) ∧
      (s.dev.boot.lanyLeft = 1 → Completes .frameStart s fun t =>
        t.dev.boot.lanyLeft = 0 ∧ t.mode = .lanyardOnly ∧ t.f CHIP_MODE CHIP_MODE.REASON = 6 ∧ t.f CHIP_MODE CHIP_MODE.BUSY = 0)) ∧
    ∀ d c a, 0 < d → d < 8 → s.live d = true →
      (s.mode ∉ [Mode.reset, .lanyardOnly] → s.dev.boot.lanyLeft = 0 → (c ≠ 1 ∨ s.dev.boot.starLost = []) →
        Completes (.dieFault d c a) s fun t =>
          t.fenced d = true ∧ t.mode = s.mode ∧ t.f (ERR_FENCE d) ERR_FENCE.CAUSE = c % 2 ^ ERR_FENCE.CAUSE.w ∧
          bitOf (t.f ERR_STATUS ERR_STATUS.DIE_FENCE) d = true ∧ t.f ERR_STATUS ERR_STATUS.FATAL = s.f ERR_STATUS ERR_STATUS.FATAL) ∧
      (s.mode = .lanyardOnly → s.lanyOn s.reg = true →
        (dieOf ((lanyOf s.reg).bases.getD 0 0) = d ∨ (s.section d).meets (s.lanyRect s.reg) = true) →
        Completes (.dieFault d c a) s fun t => t.mode = .reset ∧ t.f CHIP_MODE CHIP_MODE.REASON = 6) ∧
      (s.rasterOn = true → s.lanyOn s.reg = false → s.fenced 0 = false → (∃ e ∈ s.dev.boot.starLost, e ≠ d) →
        Completes (.dieFault d 1 a) s fun t =>
          t.fenced d = true ∧ t.f ERR_FATAL ERR_FATAL.CAUSE = 3 ∧ t.f ERR_STATUS ERR_STATUS.FATAL = 1)

/-! ### Partner chips -/

/-- R282, R283, R287, R312, R318, R319, R269: what a command to one partner does to it and what it queues in answer: STAMP an ECHO, TRIM and
the configuration commands their ACK, a KEEP_LIMIT that the partner has passed blanks at once, FAULT_EN from 0 to 1 reports every known fault
again, TEST and TEST_RESULT answer theirs, a TEST of no time starts nothing; one that arrives damaged is counted as a receive error and does
nothing. That a reserved PATTERN is answered with NACK is the reading of notes/assumptions/39.md. -/
def Obligations.PartnerCommands : Prop :=
  ∀ (s : State) (g addr tag k : Nat), s.reached g addr = [k] → addr ≠ 0x3FF → k < 512 → (s.partner g k).backOff = false →
    (let p := s.partner g k
     (∀ seq, Completes (.stamp g addr ⟨tag, []⟩ seq) s fun t => PartnerBecomes s t g k { p with queue := p.queue ++ [.echo tag seq] }) ∧
     (∀ v, Completes (.trim g addr ⟨tag, []⟩ v) s fun t =>
       PartnerBecomes s t g k { p with trim := v % 65536, queue := p.queue ++ [.ack 4 tag 0 0 0] }) ∧
     (∀ v, v ≤ 255 → Completes (.cfgWr g addr ⟨tag, []⟩ 4 v) s fun t =>
       PartnerBecomes s t g k { p with statusPeriod := v, queue := p.queue ++ [.ack 5 tag 0 4 0] }) ∧
     (∀ v, 255 < v → Completes (.cfgWr g addr ⟨tag, []⟩ 4 v) s fun t =>
       PartnerBecomes s t g k { p with queue := p.queue ++ [.ack 5 tag 2 4 0] }) ∧
     (∀ v, 10 ≤ v → v ≤ 16 → bitOf p.decl.widths (v - 10) = true → Completes (.cfgWr g addr ⟨tag, []⟩ 2 v) s fun t =>
       PartnerBecomes s t g k { p with codeW := v, queue := p.queue ++ [.ack 5 tag 0 2 0] }) ∧
     (∀ v, v ≤ 65535 → (p.decl.keepMax = 0 ∨ (0 < v ∧ v ≤ p.decl.keepMax)) → Completes (.cfgWr g addr ⟨tag, []⟩ 3 v) s fun t =>
       PartnerBecomes s t g k { p with
         keepLimit := some v, blank := p.blank || (!p.decl.classL && decide (v ≠ 0) && decide (v < p.holds))
         queue := p.queue ++ [.ack 5 tag 0 3 0] }) ∧
     (∀ v, p.decl.keepMax ≠ 0 → (v = 0 ∨ p.decl.keepMax < v) → Completes (.cfgWr g addr ⟨tag, []⟩ 3 v) s fun t =>
       PartnerBecomes s t g k { p with queue := p.queue ++ [.ack 5 tag 2 3 0] }) ∧
     (∀ v, 1 < v → Completes (.cfgWr g addr ⟨tag, []⟩ 5 v) s fun t =>
       PartnerBecomes s t g k { p with queue := p.queue ++ [.ack 5 tag 2 5 0] }) ∧
     (∀ v, v ≤ 1 → Completes (.cfgWr g addr ⟨tag, []⟩ 5 v) s fun t =>
       PartnerBecomes s t g k { p with
         faultEn := v
         queue := p.queue ++ (if p.faultEn = 0 ∧ v = 1 then faultGroups p.faults.length p.faults else []) ++ [.ack 5 tag 0 5 0] }) ∧
     (∀ r v, 0x10 ≤ r → r ≤ 0xFF → Completes (.cfgWr g addr ⟨tag, []⟩ r v) s fun t =>
       PartnerBecomes s t g k { p with maker := p.maker.put 0 r v, queue := p.queue ++ [.ack 5 tag 0 r 0] }) ∧
     Completes (.cfgRd g addr ⟨tag, []⟩ 1) s (fun t =>
       PartnerBecomes s t g k { p with queue := p.queue ++ [.ack 6 tag 0 1 (p.addr.getD 0x3FF)] }) ∧
     Completes (.cfgRd g addr ⟨tag, []⟩ 7) s (fun t =>
       PartnerBecomes s t g k { p with errTotal := 0, queue := p.queue ++ [.ack 6 tag 0 7 p.errTotal] }) ∧
     (∀ pat dir mask us, pat < 5 → us ≠ 0 → Completes (.test g addr ⟨tag, []⟩ pat dir mask us) s fun t =>
       PartnerBecomes s t g k { p with test := some (pat, dir, mask), queue := p.queue ++ [.ack 10 tag 0 0 0] }) ∧
     (∀ pat dir mask, pat < 5 → Completes (.test g addr ⟨tag, []⟩ pat dir mask 0) s fun t =>
       PartnerBecomes s t g k { p with queue := p.queue ++ [.ack 10 tag 0 0 0] }) ∧
     (∀ pat dir mask us, 5 ≤ pat → Completes (.test g addr ⟨tag, []⟩ pat dir mask us) s fun t =>
       PartnerBecomes s t g k { p with queue := p.queue ++ [.ack 10 tag 1 0 0] }) ∧
     (∀ lane runs, Completes (.testResult g addr ⟨tag, []⟩ lane runs) s fun t =>
       PartnerBecomes s t g k { p with queue := p.queue ++ [.ack 11 tag 0 0 (p.testErrs lane runs)] }) ∧
     ∀ seq v r pat dir mask us lane runs, ∀ c ∈ [Instr.stamp g addr ⟨tag, [k]⟩ seq, .trim g addr ⟨tag, [k]⟩ v, .cfgWr g addr ⟨tag, [k]⟩ r v,
         .cfgRd g addr ⟨tag, [k]⟩ r, .test g addr ⟨tag, [k]⟩ pat dir mask us, .testResult g addr ⟨tag, [k]⟩ lane runs], Completes c s fun t =>
       PartnerBecomes s t g k
         { p with rxErr := min 255 (p.rxErr + 1), errTotal := min 0xFFFFFFFF (p.errTotal + 1), skip := false })

/-- R312, R313, R311, R269: a broadcast acts on every partner with an address, once for each TAG; its three copies leave in consecutive control
slots. FWD_STATE 0 wakes at once, another state waits for the launch of its frame unless that has passed; BACK_STATE turns the back direction
off or on. Where it arrives damaged it is only counted. That all three copies are on the line with the first is the reading of
notes/assumptions/51.md. -/
def Obligations.PartnerBroadcasts : Prop :=
  ∀ (s : State) (g tag : Nat) (bad : List Nat), (s.reached g 0x3FF).Nodup → s.inStep g →
    (∀ frame, Completes (.fwdState g ⟨tag, bad⟩ 0 frame) s fun t => BroadcastDoes s t g 8 tag 0 frame bad fun p =>
      if p.tag = some tag then p else { p with fwd := 0, fwdNext := none, tag := some tag }) ∧
    (∀ st frame, st ≠ 0 → Completes (.fwdState g ⟨tag, bad⟩ st frame) s fun t => BroadcastDoes s t g 8 tag st frame bad fun p =>
      if p.tag = some tag then p
      else if frame = 0 ∨ p.last.any (fun x => decide (frame ≤ x.1)) = true then { p with fwd := st, fwdNext := none, tag := some tag }
      else { p with fwdNext := some (st, frame), tag := some tag }) ∧
    (∀ aux, Completes (.backState g ⟨tag, bad⟩ false aux) s fun t => BroadcastDoes s t g 9 tag (if aux then 2 else 0) 0 bad fun p =>
      if p.tag = some tag then p else { p with backOff := false, aux := aux, tag := some tag }) ∧
    ∀ aux, Completes (.backState g ⟨tag, bad⟩ true aux) s fun t => BroadcastDoes s t g 9 tag (if aux then 3 else 1) 0 bad fun p =>
      if p.tag = some tag then p
      else { p with backOff := true, aux := aux, tag := some tag, queue := p.queue.filter fun m => match m with
        | .status .. => false
        | _ => true }

/-- R281, R272, R274, R283, R284, R285, R286, R308: an ENUM gives a partner its address and makes it declare itself, one with COUNT 512 or
more leaves it without address and makes it declare the excess; a marker schedules the launch at its timing point plus LEAD less TRIM, unless
it arrives damaged or among skipped blocks; the launch of a frame neither vetoed nor spoiled swaps the buffers of a class H partner, one that
is holds them; a class L partner's launch discards the pending and the shown row; a launch on its own timing does not swap; T_ON drives the
pending row; a lost link blanks. That ENUM brings both directions to AWAKE with AUX 0, and that an own launch counts as that of frame n + 1,
is the reading of notes/assumptions/39.md. -/
def Obligations.PartnerLaunches : Prop :=
  ∀ (s : State) (g k : Nat), k < 512 →
    (let p := s.partner g k
     (∀ count d, count < 512 → Completes (.enum g k count d) s fun t =>
       t.partner g k = { p with
         decl := d, addr := some count, relay := some (count + 1), skip := false, fwd := 0, fwdNext := none, backOff := false, aux := false
         queue := p.queue ++ [.decl 0 false, .decl 1 false] } ∧
       Keeps s t [] fun x => { x with partners := s.dev.partners, strands := s.dev.strands }) ∧
     (∀ count d, 512 ≤ count → Completes (.enum g k count d) s fun t =>
       t.partner g k = { p with
         addr := none, relay := some count, skip := false, fwd := 0, fwdNext := none, backOff := false, aux := false
         queue := p.queue ++ [.decl 0 true] } ∧
       Keeps s t [] fun x => { x with partners := s.dev.partners, strands := s.dev.strands }) ∧
     (p.addr.isSome = true → ∀ n lead tp,
       (p.missed ≠ some n →
         Completes (.frameSync g k n lead ⟨tp, none⟩) s fun t => PartnerBecomes s t g k { p with launch := some (n, true, tp + lead - p.trim) }) ∧
       (∀ bad, p.missed = some n → Completes (.frameSync g k n lead ⟨tp, bad⟩) s fun t => PartnerBecomes s t g k { p with missed := none }) ∧
       (p.missed ≠ some n → Completes (.frameSync g k n lead ⟨tp, some true⟩) s fun t => PartnerBecomes s t g k
         { p with rxErr := min 255 (p.rxErr + 1), errTotal := min 0xFFFFFFFF (p.errTotal + 1), spoiled := true, skip := true }) ∧
       (∀ a, Completes (.keep g k n a true lead ⟨tp, none⟩) s fun t =>
         PartnerBecomes s t g k { p with launch := some (n, false, tp + lead - p.trim) }) ∧
       ∀ a l x, Completes (.keep g k n a l lead ⟨tp, some x⟩) s fun t => PartnerBecomes s t g k
         { p with rxErr := min 255 (p.rxErr + 1), errTotal := min 0xFFFFFFFF (p.errTotal + 1), skip := false }) ∧
     (∀ n lead tp a, p.addr = some a → p.decl.classL = false → n ∉ p.veto →
       Completes (.keep g k n a false lead ⟨tp, none⟩) s fun t => PartnerBecomes s t g k { p with veto := n :: p.veto }) ∧
     (∀ a n tp temp found, p.addr = some a → p.launch = some (n, true, tp) → p.decl.classL = false → n ∉ p.veto → p.spoiled = false →
       Completes (.partnerLaunch g ⟨k, temp, found⟩) s fun t =>
         (t.partner g k).front = p.back ∧ (t.partner g k).back = p.front ∧ (t.partner g k).last = some (n, tp) ∧
         (t.partner g k).launch = none ∧ (t.partner g k).holds = 0 ∧ (t.partner g k).blank = false ∧
         (t.partner g k).codeWOn = p.codeW ∧ KeepsRegs s t [] ∧ KeepsDram s t) ∧
     (∀ a n sync tp temp found, p.addr = some a → p.launch = some (n, sync, tp) → p.decl.classL = false →
       (sync = false ∨ n ∈ p.veto ∨ p.spoiled = true) →
       Completes (.partnerLaunch g ⟨k, temp, found⟩) s fun t =>
         (t.partner g k).front = p.front ∧ (t.partner g k).last = some (n, tp) ∧ (t.partner g k).launch = none ∧
         (t.partner g k).holds = p.holds + 1 ∧ (t.partner g k).spoiled = false ∧ KeepsRegs s t [] ∧ KeepsDram s t) ∧
     (∀ a n sync tp temp found, p.addr = some a → p.launch = some (n, sync, tp) → p.decl.classL = true →
       Completes (.partnerLaunch g ⟨k, temp, found⟩) s fun t =>
         (t.partner g k).blank = true ∧ (t.partner g k).pending = [] ∧ (t.partner g k).front = [] ∧ (t.partner g k).row = none ∧
         (t.partner g k).shown = none ∧ (t.partner g k).back = p.back ∧ (t.partner g k).holds = p.holds ∧ (t.partner g k).last = some (n, tp) ∧
         (t.partner g k).launch = none ∧ (t.partner g k).codeWOn = p.codeW ∧ KeepsRegs s t [] ∧ KeepsDram s t) ∧
     (∀ a n x tp temp found, p.addr = some a → p.launch = none → p.last = some (n, x) → p.decl.classL = false →
       Completes (.partnerOwnLaunch g ⟨k, temp, found⟩ tp) s fun t =>
         (t.partner g k).front = p.front ∧ (t.partner g k).last = some (n + 1, tp) ∧ (t.partner g k).holds = p.holds + 1 ∧
         KeepsRegs s t [] ∧ KeepsDram s t) ∧
     (∀ r, p.row = some r → r.dur ≠ 0 → Completes (.rowTOn g k) s fun t =>
       PartnerBecomes s t g k { p with front := p.pending, pending := [], row := none, shown := some r, blank := false }) ∧
     (p.fwd = 0 → Completes (.partnerLinkLoss g k false) s fun t => PartnerBecomes s t g k { p with blank := true, lost := true }))

/-- R264, R265, R267 to R269, R274, R275, R284, R286, R312, R334: the first item of a strand's queue leaves: a DRIVE packet is counted and
writes its codes into the back buffer of the partner it addresses, and one whose packet check fails there spoils the next swap; a ROW is
counted and makes its partner's written codes pending, or blanks a partner that it reaches late; a broadcast ROW leaves three times, of which
one whole copy suffices. A packet after fewer than eight others back to back leaves at once, a ninth behind an IDLE slot. A receiver reads
every control block, every packet and every block's bits back as they were formed, and the descrambler gives back what the scrambler took.
What the record of sent items holds is the model's choice (notes/assumptions/51.md). -/
def Obligations.PacketsLeave : Prop :=
  (∀ (s : State) (g a k : Nat), g < 128 → s.reached g 0x3FF = [k] → (s.partner g k).addr = some a → a ≠ 0x3FF → k < 512 → s.inStep g →
    (∀ n j first codes ls q, (s.packs g).2 = .drive n a j first codes ls :: q →
      (let p := s.partner g k
       let run := (s.strand g).run
       let left := fun (p' : PartnerSt) (t : State) =>
         t.partner g k = p' ∧ (t.packs g).2 = q ∧ (t.packs g).1 = (s.packs g).1 ∧
         t.reg (strReg STR_PKT_CNT g) = min 0xFFFFFFFF (s.reg (strReg STR_PKT_CNT g) + 1) ∧
         (t.strand g).sent = (s.strand g).sent ++ (if run < 8 then [] else [.ctl .idle]) ++ [.drive n a j first codes] ∧
         (t.strand g).run = (if run < 8 then run + 1 else 1) ∧
         Keeps s t [strReg STR_PKT_CNT g] fun x => { x with partners := s.dev.partners, scan := s.dev.scan, strands := s.dev.strands }
       Completes (.drive g []) s (left (p.drive n first codes)) ∧
       Completes (.drive g [(k, false)]) s (left
         { p with rxErr := min 255 (p.rxErr + 1), errTotal := min 0xFFFFFFFF (p.errTotal + 1), spoiled := true }))) ∧
    ∀ b ∈ [a, 0x3FF], ∀ n y row tOn dur q, (s.packs g).2 = .row n y b row tOn dur :: q → s.rowFree n = true → s.reached g a = [k] →
      (s.partner g k).decl.classL = true → (s.partner g k).last.isSome = true →
      (let p := s.partner g k
       let left := fun (p' : PartnerSt) (t : State) =>
         t.partner g k = p' ∧ (t.packs g).2 = q ∧ t.reg (strReg STR_ROW_CNT g) = min 0xFFFFFFFF (s.reg (strReg STR_ROW_CNT g) + 1) ∧
         (t.strand g).sent = (s.strand g).sent ++ List.replicate (if b = 0x3FF then 3 else 1) (.ctl (.cmd 7 b (s.strand g).tag tOn dur row)) ∧
         (t.strand g).run = 0 ∧
         Keeps s t [strReg STR_ROW_CNT g] fun x => { x with partners := s.dev.partners, scan := s.dev.scan, strands := s.dev.strands }
       let taken := fun (p : PartnerSt) => { p with pending := p.back, back := [], backSalt := none, row := some ⟨tOn, dur, row⟩ }
       Completes (.row g ⟨[], []⟩) s (left (taken p)) ∧
       Completes (.row g ⟨[k], []⟩) s (left { p with blank := true, lateRow := true }) ∧
       (let hurt := { p with rxErr := min 255 (p.rxErr + 1), errTotal := min 0xFFFFFFFF (p.errTotal + 1), skip := false }
        Completes (.row g ⟨[], [k]⟩) s (left (if b = 0x3FF then taken hurt else hurt))))) ∧
  (∀ fwd c, c.wf fwd = true → ctlParse fwd c.bytes = some c) ∧
  (∀ n a seg first codes, a < 1024 → seg < 2 ^ 16 → first < 2 ^ 16 → codes.length < 2 ^ 16 → (∀ c ∈ codes, c < 2 ^ 16) →
    parsePacket ((packetBlocks (drivePacket n a seg first codes)).flatMap (·.payload)) = .drive (n % 256) a seg first codes) ∧
  (∀ n lead adj, n < 2 ^ 48 → lead < 2 ^ 24 → adj < 2 ^ 16 →
    parsePacket ((packetBlocks (frameSyncPacket n lead adj)).flatMap (·.payload)) = .frameSync n lead adj) ∧
  (∀ b : Block, Block.ofBits b.bits = some b) ∧
  ∀ st xs, scramble st (scramble st xs).1 = (xs, (scramble st xs).2)

/-! ### Strands -/

/-- R90, R277, R279, R282, R289, R290, R315: what a back message does on an Active strand: an ECHO is collected, the ACK of a host's read ends
it with the data, a STATUS is kept, a FAULT, an ENUM that reaches a partner too many and a WAKE are reported; a reply that matches no
command is counted. That what the partner of the address does not send next has no effect is the model's choice (notes/assumptions/8.md). -/
def Obligations.BackMessages : Prop :=
  ∀ (s : State) (g addr : Nat), g < 128 → addr < 512 → s.hears g = true → addr < s.partners g → s.dev.hold = [] → s.holdsBack (g / 16) = false →
    (∀ tag seq wait rtt, s.sends g (s.holders g addr) (.echo tag seq) = false →
      Completes (.echo g addr tag seq wait rtt) s fun t => KeepsButRegs s t []) ∧
    (∀ tag seq wait rtt, s.sends g (s.holders g addr) (.echo tag seq) = true → s.cmdOf g addr tag = none →
      Completes (.echo g addr tag seq wait rtt) s fun t =>
        t.reg (strReg STR_BACK_ERR_CNT g) = min 0xFFFFFFFF (s.reg (strReg STR_BACK_ERR_CNT g) + 1) ∧
        Keeps s t [strReg STR_BACK_ERR_CNT g] fun x => { x with partners := s.dev.partners }) ∧
    (∀ tag seq wait rtt c, s.sends g (s.holders g addr) (.echo tag seq) = true → s.cmdOf g addr tag = some c → c.op = 3 → c.primer = false →
      ((s.strand g).rtts.look [] addr).length < 15 →
      Completes (.echo g addr tag seq wait rtt) s fun t =>
        (t.strand g).rtts.look [] addr = (s.strand g).rtts.look [] addr ++ [rtt * 16 - wait] ∧ KeepsRegs s t [] ∧ KeepsDram s t) ∧
    (∀ tag reg data c, s.sends g (s.holders g addr) (.ack 6 tag 0 reg data) = true → s.cmdOf g addr tag = some c →
      c.op = 6 → c.host = true → data < 2 ^ 32 →
      Completes (.ack g addr tag 6 0 reg data) s fun t =>
        t.reg (strReg STR_PCMD_RDATA g) = data ∧ t.f (strReg STR_PCMD_STAT g) STR_PCMD_STAT.BUSY = 0 ∧
        t.f (strReg STR_PCMD_STAT g) STR_PCMD_STAT.RESULT = 0 ∧ KeepsRegs s t [strReg STR_PCMD_RDATA g, strReg STR_PCMD_STAT g] ∧
        KeepsDram s t) ∧
    (∀ part d, s.sends g (s.excess g part) (.decl part true) = true →
      Completes (.decl g addr part true d) s fun t => t.f (strReg STR_PERR g) STR_PERR.ENUM_OVER = 1 ∧ KeepsDram s t) ∧
    (∀ f8 temp rx dc flags, s.sends g (s.holders g addr) (.status f8 temp rx dc flags) = true → temp ≠ 0x80 →
      Completes (.status g addr f8 temp rx dc flags) s fun t =>
      (t.strand g).flags.look 0 addr = flags ∧ (t.strand g).temps.look 0x80 addr = temp ∧
      t.dev.lamp.temp.look none (g * 512 + addr) = some ⟨some (sext 8 temp), s.tbFrame, false⟩ ∧ KeepsDram s t) ∧
    (∀ l lamps, s.sends g (s.holders g addr) (.fault (l :: lamps)) = true →
      Completes (.fault g addr (l :: lamps)) s fun t => t.f (strReg STR_PERR g) STR_PERR.FAULT = 1 ∧ KeepsDram s t) ∧
    ∀ reason, s.mayWake g addr = true → reason < 256 → Completes (.wake g addr reason) s fun t =>
      t.f (strReg STR_EVT g) STR_EVT.WAKE_REQ = 1 ∧
      (s.fwdState g = 2 → s.b (strReg STR_SLEEP_CTL g) STR_SLEEP_CTL.WAKE_ACT = true → s.mode ≠ .dormant → t.fwdState g = 1) ∧
      KeepsDram s t

/-- R296, R297, R300 to R306: the steps of bring-up: block lock leaves Detect, DONE on every lane seen leaves POL, the CAP countdown leaves
CAP, DONE on every lane leaves EQ, the GO countdown leaves DESKEW and enumeration starts, as after the blind start; an attempt that times
out is counted with cause 0x1, one that still collects DECLs with cause 0x5 when they are not those of the strand map; a backoff wait leads
to Detect; RETRAIN leads to Detect with cause 0x9. Which blocks of the partner end a step, and when the first ENUM leaves, is the reading of
notes/assumptions/38.md and 52.md. -/
def Obligations.BringUpSteps : Prop :=
  ∀ (s : State) (g : Nat), g < 128 → s.strandOk g = true →
    (∀ lanes inv, s.strState g = 3 → bitOf lanes 0 = true → s.detects g lanes = true → lanes < 16 →
      Completes (.blockLock g lanes inv) s fun t =>
        t.strState g = 4 ∧ t.f (strReg STR_TRAIN_STAT g) STR_TRAIN_STAT.LANES_SEEN = lanes ∧
        t.f (strReg STR_STATE g) STR_STATE.ATTEMPT = 1 ∧ KeepsRegs s t [strReg STR_STATE g, strReg STR_TRAIN_STAT g] ∧ KeepsDram s t) ∧
    (∀ b inv rev skew fwd back widths, s.strState g = 4 → b < 4 →
      Nat.land (setBit (s.strand g).eqDone b) (s.f (strReg STR_TRAIN_STAT g) STR_TRAIN_STAT.LANES_SEEN) =
        s.f (strReg STR_TRAIN_STAT g) STR_TRAIN_STAT.LANES_SEEN →
      Completes (.backTrainBlock g b 2 true inv rev skew fwd back widths) s fun t =>
        t.strState g = 5 ∧ bitOf (t.f (strReg STR_TRAIN_STAT g) STR_TRAIN_STAT.FWD_INV) b = inv ∧ KeepsDram s t) ∧
    (s.strState g = 6 → (s.strand g).stage = 1 → Completes (.capSwitch g) s fun t => t.strState g = 7 ∧ KeepsDram s t) ∧
    (∀ b, s.strState g = 7 → (bondLanes (s.strand g).width).contains b = true → bitOf (s.strand g).eqDone b = false →
      (∀ c ∈ bondLanes (s.strand g).width, c ≠ b → bitOf (s.strand g).eqDone c = true) →
      Completes (.eq g b 0 0 true 0 ((s.strand g).eqReq.look 0 b % 256)) s fun t => t.strState g = 8 ∧ KeepsDram s t) ∧
    (s.strState g = 8 → (s.strand g).stage = 1 → Completes (.goCountdownEnd g) s fun t =>
      t.strState g = 9 ∧ (t.strand g).bcast = [⟨1, (s.strand g).tag, 0, 0, 1⟩] ∧ (t.strand g).out = [] ∧ t.partners g = 0 ∧
      (t.strand g).sent = (s.strand g).sent ++ [.mark, .ctl (.cmd 1 0x3FF (s.strand g).tag 0 0 0)] ∧ KeepsDram s t) ∧
    (s.strState g = 11 → (s.strand g).stage = 4 → Completes (.trainBlindEnd g) s fun t =>
      t.strState g = 11 ∧ (t.strand g).bcast = [⟨1, (s.strand g).tag, 0, 0, 1⟩] ∧ (t.strand g).stage = 0 ∧ KeepsDram s t) ∧
    (let failed := fun (cause : Nat) (t : State) =>
       t.f (strReg STR_STATE g) STR_STATE.FAIL_CAUSE = cause ∧ t.f (strReg STR_STATE g) STR_STATE.FAIL_STEP = s.strState g ∧
       t.reg (strReg STR_FAIL_CNT g) = min 0xFFFFFFFF (s.reg (strReg STR_FAIL_CNT g) + 1) ∧ KeepsDram s t
     s.training g = true →
       (s.enumerating g = false ∨ (s.strand g).stage ≠ 0 → Completes (.trainAttemptTimeout g) s (failed 1)) ∧
       (s.enumerating g = true → (s.strand g).stage = 0 → s.declared g ≠ List.range (s.strEnt g).chain.length →
         Completes (.trainAttemptTimeout g) s (failed 5))) ∧
    (s.strState g = 2 → s.mode ≠ .dormant → Completes (.backoffExpiry g) s fun t =>
      t.strState g = 3 ∧ t.f (strReg STR_STATE g) STR_STATE.BACKOFF = min (s.f (strReg STR_STATE g) STR_STATE.BACKOFF + 1) 8 ∧ KeepsDram s t) ∧
    ∀ who v, s.admits who (strReg STR_CTL g) → s.strState g ≠ 0 → s.mode ≠ .dormant →
      Completes (.strRetrain who g v) s fun t =>
        t.strState g = 3 ∧ t.f (strReg STR_STATE g) STR_STATE.FAIL_CAUSE = 9 ∧ KeepsDram s t

/-- R307, R299, R316, R269, R311, R464: an Active strand is lost with its cause when the back signal goes, after 64 invalid headers, or when
a back wake brings no MARK: BACKOFF and STRAND_DOWN; an invalid block alone is counted, at once or, while the region is in Nap or Deep, out
of its hold buffer. While the back direction is OFF none of these is detected. When the hold buffer gives its blocks up is the reading of
notes/assumptions/19.md. -/
def Obligations.StrandLosses : Prop :=
  ∀ (s : State) (g : Nat), g < 128 → s.strandOk g = true → s.strState g = 10 →
    (let lost := fun (c : Nat) (t : State) =>
       t.strState g = 2 ∧ t.f (strReg STR_STATE g) STR_STATE.FAIL_CAUSE = c ∧ t.f (strReg STR_STATE g) STR_STATE.FAIL_STEP = 10 ∧
       t.f (strReg STR_EVT g) STR_EVT.DOWN = 1 ∧ t.packs g = ([], []) ∧ (t.strand g).out = [] ∧ KeepsDram s t
     (s.b (strReg STR_SLEEP_STAT g) STR_SLEEP_STAT.BACK = false → Completes (.backSignalLost g) s (lost 2)) ∧
     (s.b (strReg STR_SLEEP_STAT g) STR_SLEEP_STAT.BACK = false → Completes (.invalidHeaderLimit g) s (lost 10)) ∧
     ((s.strand g).backWake = true → s.b (strReg STR_ADAPT g) STR_ADAPT.WINDOW = false → Completes (.backWakeTimeout g) s (lost 2))) ∧
    (s.b (strReg STR_SLEEP_STAT g) STR_SLEEP_STAT.BACK = true →
      ∀ c ∈ [Instr.backSignalLost g, .invalidHeaderLimit g], Completes c s fun t => KeepsButRegs s t []) ∧
    ∀ crc k, s.b (strReg STR_SLEEP_STAT g) STR_SLEEP_STAT.BACK = false → s.dev.hold = [] →
      (s.holdsBack (g / 16) = true → Completes (.backInvalidBlock g ⟨crc, k⟩) s fun t =>
        t.dev.hold = [(g, .backInvalidBlock g ⟨crc, k⟩)] ∧ t.dev.strands = s.dev.strands ∧ KeepsRegs s t [] ∧ KeepsDram s t) ∧
      (s.holdsBack (g / 16) = false → Completes (.backInvalidBlock g ⟨crc, k⟩) s fun t =>
      t.strState g = 10 ∧ t.f (strReg STR_PERR g) (if crc then STR_PERR.BACK_CRC else STR_PERR.BACK_TYPE) = 1 ∧
      t.reg (strReg STR_BACK_ERR_CNT g) = min 0xFFFFFFFF (s.reg (strReg STR_BACK_ERR_CNT g) + 1) ∧ KeepsDram s t)

/-- R289, R290, R309, R310, R91, R99, R317: commands and receivers of an Active strand. The host's command to a partner becomes outstanding
and busy, and is refused while the back direction is OFF; one without a reply is sent again with a new TAG; every TB_STAMP.PERIOD frames,
and never with PERIOD = 0, a measurement sends a STAMP to every partner; a receiver freezes, its window ends, a primer goes out, where the
forward direction carries commands. How often one is sent again, and that it waits while the direction sleeps, is the reading of
notes/assumptions/37.md. -/
def Obligations.StrandCommands : Prop :=
  ∀ (s : State) (g : Nat), g < 128 → s.strandOk g = true → s.strState g = 10 →
    (∀ who addr reg, addr < 0x3FF → reg < 256 → s.admits who (strReg STR_PCMD g) →
      s.b (strReg STR_PCMD_STAT g) STR_PCMD_STAT.BUSY = false → s.backHeld g = false → s.fwdShut g = false →
      ((s.strand g).out.any fun c => c.addr = addr) = false →
      Completes (.pcmdCfgRd who g addr reg) s (fun t =>
        t.f (strReg STR_PCMD_STAT g) STR_PCMD_STAT.BUSY = 1 ∧
        (t.strand g).out = (s.strand g).out ++ [⟨addr, 6, (s.strand g).tag, reg, 0, 0, true, false⟩] ∧
        KeepsRegs s t [strReg STR_PCMD g, strReg STR_PCMD_STAT g] ∧ KeepsDram s t) ∧
      (¬ (reg ≤ 2 ∨ (6 ≤ reg ∧ reg ≤ 15)) → Completes (.pcmdCfgWr who g addr reg) s fun t =>
        t.f (strReg STR_PCMD_STAT g) STR_PCMD_STAT.BUSY = 1 ∧
        (t.strand g).out = (s.strand g).out ++ [⟨addr, 5, (s.strand g).tag, reg, s.reg (strReg STR_PCMD_WDATA g), 0, true, false⟩] ∧
        KeepsRegs s t [strReg STR_PCMD g, strReg STR_PCMD_STAT g] ∧ KeepsDram s t)) ∧
    (∀ who addr reg, s.admits who (strReg STR_PCMD g) → s.b (strReg STR_PCMD_STAT g) STR_PCMD_STAT.BUSY = false →
      s.b (strReg STR_SLEEP_STAT g) STR_SLEEP_STAT.BACK = true →
      Completes (.pcmdCfgRd who g addr reg) s fun t =>
        t.f (strReg STR_PCMD_STAT g) STR_PCMD_STAT.RESULT = 4 ∧ KeepsButRegs s t [strReg STR_PCMD g, strReg STR_PCMD_STAT g]) ∧
    (∀ c, (s.strand g).out = [c] → c.op ≠ 3 → c.tries < 3 → s.fwdShut g = false → Completes (.cmdTimeout g c.addr c.tag) s fun t =>
      (t.strand g).out = [{ c with tag := (s.strand g).tag, tries := c.tries + 1 }] ∧ (t.strand g).tag = ((s.strand g).tag + 1) % 64 ∧
      KeepsRegs s t [] ∧ KeepsDram s t) ∧
    (s.f TB_STAMP TB_STAMP.PERIOD = 0 → Completes (.stampMeasure g) s fun t => KeepsButRegs s t []) ∧
    (s.backHeld g = false → s.fwdShut g = false → (s.strand g).out = [] → s.f TB_STAMP TB_STAMP.PERIOD ≠ 0 →
      (s.strand g).meas + s.f TB_STAMP TB_STAMP.PERIOD ≤ s.dev.tb.place →
      Completes (.stampMeasure g) s fun t =>
        ((t.strand g).out.map fun c => (c.addr, c.op)) = (List.range (s.partners g)).map (fun k => (k, 3)) ∧ KeepsRegs s t [] ∧ KeepsDram s t) ∧
    (∀ b, b < 16 → g % 16 + b < 16 → s.b (laneReg STR_ADAPT g b) STR_ADAPT.WINDOW = false → Completes (.adaptFreeze g b) s fun t =>
      t.f (laneReg STR_ADAPT g b) STR_ADAPT.FROZEN = 1 ∧ KeepsButRegs s t [laneReg STR_ADAPT g b]) ∧
    (∀ b, b < 16 → g % 16 + b < 16 → s.b (laneReg STR_ADAPT g b) STR_ADAPT.WINDOW = true → Completes (.readaptWindowEnd g b) s fun t =>
      t.f (laneReg STR_ADAPT g b) STR_ADAPT.WINDOW = 0 ∧ KeepsDram s t) ∧
    (s.b (strReg STR_ADAPT g) STR_ADAPT.FROZEN = true → s.backHeld g = false → s.fwdShut g = false → (s.strand g).primer = false →
      (s.strand g).out = [] → Completes (.primerStamp g) s fun t =>
        (t.strand g).primer = true ∧ (t.strand g).out = [⟨0, 3, (s.strand g).tag, 0, 0, 0, false, true⟩] ∧ KeepsRegs s t [] ∧ KeepsDram s t)

/-- R312, R318, R319, R320: in LINK_TEST a test of a known pattern and a window starts with BUSY on every bond lane, a TEST command going to
the partner of a far or back test, or a TEST broadcast to all; outside it is refused; the window's end takes what the checkers counted. An
injection of single mode inverts one bit and is done once the lane transmits, a burst its bits, one of rate mode stays. When an injection is
done, and that its bits damage the IDLE slots in which they lie, is the reading of notes/assumptions/40.md and 51.md. -/
def Obligations.LinkTests : Prop :=
  ∀ (s : State) (g : Nat), g < 128 → s.strandOk g = true →
    (∀ who pat, pat < 5 → s.admits who (strReg STR_PRBS_CTL g) → s.strState g = 12 → (s.strand g).out = [] →
      s.f (strReg STR_PRBS_TIME g) STR_PRBS_TIME.US ≠ 0 → s.b (strReg STR_PRBS_STAT g) STR_PRBS_STAT.BUSY = false → s.backHeld g = false →
      g % 16 + laneCount (s.strand g).width ≤ 16 →
      (let started := fun (path addr : Nat) (t : State) =>
         (t.strand g).test = some (path, addr, pat) ∧ KeepsDram s t ∧
         ∀ b ∈ bondLanes (s.strand g).width, t.f (laneReg STR_PRBS_STAT g b) STR_PRBS_STAT.BUSY = 1
       Completes (.prbsNearEnd who g pat) s (fun t => started 0 0 t ∧ (t.strand g).out = []) ∧
       ∀ addr, addr < 1024 →
         (let told := fun (t : State) =>
            if addr = 0x3FF then (t.strand g).out = [] ∧ ((t.strand g).bcast.map fun b => (b.op, b.left)) =
              ((s.strand g).bcast.map fun b => (b.op, b.left)) ++ [(10, 3)]
            else ((t.strand g).out.map fun c => (c.addr, c.op)) = [(addr, 10)]
          Completes (.prbsFarForward who g pat addr) s (fun t => started 1 addr t ∧ told t) ∧
          Completes (.prbsBack who g pat addr) s (fun t => started 2 addr t ∧ told t)))) ∧
    (∀ who pat, s.admits who (strReg STR_PRBS_CTL g) → s.strState g ≠ 12 →
      Completes (.prbsNearEnd who g pat) s fun t => t.f (strReg STR_PRBS_STAT g) STR_PRBS_STAT.REFUSED = 1 ∧ t.dev.strands = s.dev.strands) ∧
    (∀ path addr pat, (s.strand g).test = some (path, addr, pat) → path ≠ 1 → (s.strand g).width = 0 → ∀ runs,
      (let c := checkerRun runs Checker.start
       Completes (.prbsWindowEnd g [runs]) s fun t =>
         (t.strand g).test = none ∧ t.reg (strReg STR_PRBS_ERR g) = min 0xFFFFFFFF c.errs ∧
         t.f (strReg STR_PRBS_STAT g) STR_PRBS_STAT.BUSY = 0 ∧ t.b (strReg STR_PRBS_STAT g) STR_PRBS_STAT.LOCK = c.lock ∧
         (c.lost = true → t.f (strReg STR_PRBS_STAT g) STR_PRBS_STAT.LOCK_LOST = 1) ∧
         (t.strand g).sent = (s.strand g).sent ++ [.mark] ∧ KeepsDram s t)) ∧
    ∀ who d n v, d < 8 → n < 16 → s.live d = true → s.present (STR_PRBS_INJ d n) = true → s.admits who (STR_PRBS_INJ d n) →
      s.laneStrand d n / 16 = d → s.inStep (s.laneStrand d n) →
      (let mode := fun (t : State) => t.f (STR_PRBS_INJ d n) STR_PRBS_INJ.MODE
       let h := s.laneStrand d n
       let b := 16 * d + n - h
       let sent := fun (k : Nat) (t : State) =>
         (t.strand h).sent = (s.strand h).sent ++ (if s.transmits h b = true ∧ k ≠ 0 then [.invert b k] else []) ∧
         Keeps (if s.transmits h b = true ∧ k ≠ 0 then s.injHits h b k else s) t [STR_PRBS_INJ d n] fun x => { x with strands := s.dev.strands }
       let k := STR_PRBS_INJ.BURST.get v.toNat
       Completes (.injSingle who d n v) s (fun t => mode t = (if s.transmits h b then 0 else 1) ∧ sent 1 t) ∧
       Completes (.injBurst who d n v) s (fun t => mode t = (if s.transmits h b || k = 0 then 0 else 2) ∧ sent k t) ∧
       Completes (.injRate who d n v) s (fun t =>
         mode t = 3 ∧ t.f (STR_PRBS_INJ d n) STR_PRBS_INJ.N = STR_PRBS_INJ.N.get v.toNat ∧ KeepsButRegs s t [STR_PRBS_INJ d n]))

/-! ### Scan-out -/

/-- R89, R272, R276, R334, R337, R338, R339: at its departure time a strand that carries markers drops what is unsent of the frame and sends
the marker with its lead, FRAME_SYNC where a partner is to swap and KEEP elsewhere, and right behind it the vetoes, one for each partner that
underran or one to all above eight; STR_KEEP_CNT counts them. A deadline with codes unsent is one underrun of the segment and drops its packets;
one with none unsent changes nothing. FRAME_DONE reports its frame once no drive packet of it is left, with EMPTY where none has left. Which
partners are vetoed, and FRAME_SYNC with a veto of all in Reload, are readings of notes/assumptions/37.md. -/
def Obligations.ScanOut : Prop :=
  ∀ (s : State),
    (∀ g n adj, g < 128 → s.hasFrame n = true → s.marked g = true → Completes (.frameSyncDeparture g ⟨n, adj⟩) s fun t =>
      (let u := (if s.strandActive g then s.freeGroups n (g / 16) else s).departDrops n g
       let under := u.vetoFor n g
       let sync := u.reloads n g || u.swaps n g under
       let vs := if u.reloads n g || decide (8 < under.length) then [0x3FF] else under
       (t.strand g).marker = some (n, sync, s.lead g) ∧ (t.strand g).vetoes = vs ∧
       t.reg (strReg STR_KEEP_CNT g) = min 0xFFFFFFFF (s.reg (strReg STR_KEEP_CNT g) + vs.length) ∧
       ((if sync then .frameSync n (s.lead g) adj else .ctl (.keep (s.lead g) n adj 0x3FF true)) ::
         vs.map fun a => .ctl (.keep 0 n 0 a false)) <:+: (t.strand g).sent.drop (s.strand g).sent.length) ∧ KeepsDram s t) ∧
    (∀ j g y n, s.img.segs[j]? = some g → g.strand < 128 → g.on = true → s.hasFrame n = true → s.strandSends n g.strand = true →
      (s.unsent n j g y = true → (n, j) ∉ s.dev.scan.under →
        Completes (.segmentDeadline j y n) s fun t =>
          t.reg (strReg STR_UNDERRUN_CNT g.strand) = min 0xFFFFFFFF (s.reg (strReg STR_UNDERRUN_CNT g.strand) + 1) ∧
          t.reg (strReg STR_UNDERRUN_LAST g.strand) = j % 2 ^ 16 * 2 ^ 16 + n % 2 ^ 16 ∧
          t.f (SCAN_EVT (g.strand / 16)) SCAN_EVT.UNDERRUN = 1 ∧ (n, j) ∈ t.dev.scan.under ∧
          (s.img.segL g = false → t.packs g.strand =
            ((s.packs g.strand).1.filter fun it => !it.ofSeg n j, (s.packs g.strand).2.filter fun it => !it.ofSeg n j)) ∧
          KeepsDram s t) ∧
      (s.unsent n j g y = false → Completes (.segmentDeadline j y n) s fun t =>
        Keeps s t [] fun x => { x with scan := { x.scan with late := s.dev.scan.late } })) ∧
    ∀ d n ticks, d < 8 → s.live d = true → s.hasFrame n = true → s.dev.scan.done.look 0 d ≤ s.placeOf n →
      ((n, d) ∈ s.dev.scan.sentAny ∨ n ≠ s.tbFrame) → s.drivesLeft n d = false →
      Completes (.frameDone d n ticks) s fun t =>
        t.dev.scan.done.look 0 d = s.placeOf n + 1 ∧ t.f (SCAN_EVT d) SCAN_EVT.FRAME_DONE = 1 ∧ t.reg (SCAN_DONE_TICK d) = ticks % 2 ^ 32 ∧
        t.pair (SCAN_DONE_FRAME_LO d) (SCAN_DONE_FRAME_HI d) 16 = n % 2 ^ 48 ∧
        t.b (SCAN_DONE_FRAME_HI d) SCAN_DONE_FRAME_HI.EMPTY = !s.dev.scan.sentAny.contains (n, d) ∧ KeepsDram s t

/-! ### Content store -/

/-- R351, R352, R353, R354, R357, R360: NVMe completions of a ready drive: success ends a run of errors, the third error in a row or CSTS.CFS
takes the drive down, and an error of a table read turns the reads to the other member; a down drive is reset, a drive that comes up is ready
when its namespace has a format that R351 allows, and then shows its superblock, with DRIVE_UP when it is ready again. The playlist load ends in
the buffer not in force; a filled ring slot holds its frame, one whose read failed is free again. Which command's error is a table read's,
and that a playlist already selected comes into force when it is loaded, is the model's reading (notes/assumptions/35.md). -/
def Obligations.ContentStore : Prop :=
  ∀ (s : State) (d : Nat), d < 2 →
    (let x := s.drive d
     let evs := [COIL_IO_ERR_CNT, COIL_EVT, HOST_IRQ_STAT, HOST_MGMT_IRQ_STAT]
     let down := fun (t : State) => (t.drive d).down = true ∧ t.b (COIL_DRV_STAT d) COIL_DRV_STAT.READY = false ∧
       t.f COIL_EVT COIL_EVT.DRIVE_DOWN = 1 ∧ KeepsDram s t
     s.driveReady d = true → x.down = false →
       (Completes (.nvmeCompletion d 0) s fun t =>
         t.drive d = { x.complete with errs := 0 } ∧ (∀ e, e ≠ d → t.drive e = s.drive e) ∧ Keeps s t [] fun v => { v with coil := s.dev.coil }) ∧
       (x.errs < 2 → ¬(s.dev.coil.loading.isSome = true ∧ s.tableDie = some d ∧ x.io = []) →
         (∀ status, status ≠ 0 → status < 2 ^ 16 → Completes (.nvmeCompletion d status) s fun t =>
           t.drive d = { x.complete with errs := x.errs + 1 } ∧ t.f (COIL_DRV_STAT d) COIL_DRV_STAT.STATUS = status ∧
           t.f COIL_EVT COIL_EVT.IO_ERR = 1 ∧ t.reg COIL_IO_ERR_CNT = min 0xFFFFFFFF (s.reg COIL_IO_ERR_CNT + 1) ∧
           Keeps s t (COIL_DRV_STAT d :: evs) fun v => { v with coil := s.dev.coil, host := s.dev.host }) ∧
         Completes (.nvmeCmdTimeout d) s fun t =>
           t.drive d = { x.complete with errs := x.errs + 1 } ∧ t.f COIL_EVT COIL_EVT.IO_ERR = 1 ∧
           Keeps s t evs fun v => { v with coil := s.dev.coil, host := s.dev.host }) ∧
       (x.errs < 2 → s.dev.coil.loading.isSome = true → s.tableDie = some d → x.io = [] → ∀ status, status ≠ 0 →
         ∀ c ∈ [Instr.nvmeCompletion d status, .nvmeCmdTimeout d], Completes c s fun t =>
           (t.drive d).tabBad = true ∧ t.tableDie = [0, 1].find? (fun e => s.member e && e != d && !(s.drive e).tabBad) ∧
           (t.tableDie = none → t.f COIL_STATUS COIL_STATUS.READY = 0) ∧ t.f COIL_EVT COIL_EVT.IO_ERR = 1 ∧ KeepsDram s t) ∧
       (x.errs = 2 → Completes (.nvmeCmdTimeout d) s down) ∧
       Completes (.cstsCfs d) s down) ∧
    ((s.drive d).down = true → Completes (.driveReset d) s fun t =>
      t.drive d = { s.drive d with resetting := true, io := [], sq := 0, cq := 0 } ∧ (∀ e, e ≠ d → t.drive e = s.drive e) ∧
      Keeps s t [] fun v => { v with coil := s.dev.coil }) ∧
    (∀ id bad, s.live d = true → ((s.drive d).down = true → (s.drive d).resetting = true) → Completes (.driveUp d ⟨id, []⟩ bad) s fun t =>
      (let usable := id.ready && (id.lba = 512 || id.lba = 4096) && id.md = 0
       t.drive d = ⟨if usable then s.findSuper d else none, 0, false, false, id, (s.drive d).seen || usable, bad.contains d, [], 0, 0⟩ ∧
       t.f (COIL_DRV_STAT d) COIL_DRV_STAT.PRESENT = 1 ∧
       t.b (COIL_DRV_STAT d) COIL_DRV_STAT.READY = usable ∧
       (usable = true → (s.findSuper d).isSome = true →
         t.f COIL_EVT COIL_EVT.DRIVE_UP = if (s.drive d).seen then 1 else s.f COIL_EVT COIL_EVT.DRIVE_UP) ∧ KeepsDram s t)) ∧
    (∀ p e, s.dev.coil.loading = some p → s.tableDie = some e → COIL_CTL.PL.get (s.shW COIL_CTL).toNat = p →
      Completes .playlistLoaded s fun t =>
        t.plBuf (1 - s.dev.coil.act) = some (s.readPlaylist e p) ∧ t.dev.coil.loading = none ∧ t.f COIL_STATUS COIL_STATUS.PL_LOADING = 0 ∧
        t.dev.coil.act = (if s.f COIL_CTL COIL_CTL.PL = p ∧ s.plHeld s.dev.coil.act p = false then 1 - s.dev.coil.act else s.dev.coil.act) ∧
        Keeps s t [COIL_STATUS] fun v => { v with coil := s.dev.coil }) ∧
    ∀ k r, k < s.slots → s.slot k = some r → r.full = false → (∀ j, j < k → ∀ y, s.slot j = some y → y.full = true) → s.coilRuns = false →
      Completes (.ringFillDone true) s (fun t => t.slot k = none ∧ Keeps s t [COIL_STATUS] fun v => { v with coil := s.dev.coil }) ∧
      ∀ e o, s.frameAt r.clip r.frame = some (e, o) → s.plain (ringAddr s.reg k) (r.clip.frameCu * 4096) →
        ((s.drive e).id.lba = 512 ∨ (s.drive e).id.lba = 4096) →
        Completes (.ringFillDone false) s fun t =>
          t.slot k = some { r with full := true } ∧ Stores s t (ringAddr s.reg k) (s.diskRead e o (r.clip.frameCu * 4096)) ∧
          (t.drive e).io = [] ∧ KeepsRegs s t [COIL_STATUS]

/-! ### Memory -/

/-- R383, R373, R165, R190, R463, R472: a write into memory that nothing protects lands, byte for byte, whether from BAR2 or a requester of a
class; of one that meets an address error only the good bytes land, and it is counted; one that meets the Lanyard range or a pin of policy
BLOCK lands nowhere and is counted. A request to a region that sleeps wakes it, counted as a demand, and then acts as on one in Run. Every
access through BAR2 of an open port completes: a read returns what stands there, and zeros with an access error for an address error. That
the bytes without an error go on is the reading of notes/assumptions/33.md. -/
def Obligations.DramAccesses : Prop :=
  (∀ (s : State) (a : Nat) (who : DramReq) (data : List Byte), a < 2 ^ 40 → who.cls < 8 → who.die < 8 → s.up = true →
      s.pwr (dieOf a) 8 = 0 →
      (s.plain a data.length → (who.cls < 5 ∨ who.cls = 7 ∨ s.unpinned a data.length) →
        Completes (.dramWrite a data who) s fun t => Stores s t a data ∧ KeepsRegs s t []) ∧
      (data ≠ [] → s.rangeBad a data.length = true →
        (let e := if s.live (dieOf a) then dieOf a else who.die
         Completes (.dramWrite a data who) s fun t =>
           t.reg (MEM_ADDR_ERR_CNT e) = min 0xFFFFFFFF (s.reg (MEM_ADDR_ERR_CNT e) + 1) ∧ t.f (MEM_STATUS e) MEM_STATUS.ADDR_ERR = 1 ∧
           ((∀ i, i < data.length → s.addrBad ((a + i) % 2 ^ 40) = true) → KeepsDram s t) ∧
           (a + data.length ≤ 2 ^ 40 → s.inLany a data.length = false → (who.cls < 5 ∨ who.cls = 7 ∨ s.unpinned a data.length) →
             (∀ i, i < data.length → s.protOf (dieOf (wordOf (a + i))) (offOf (wordOf (a + i))) = none) → ∀ x, t.dramByte x =
               if a ≤ x ∧ x < a + data.length ∧ s.addrBad x = false then data.getD (x - a) 0 else s.dramByte x))) ∧
      (data ≠ [] → s.rangeBad a data.length = false → s.inLany a data.length = true →
        Completes (.dramWrite a data who) s fun t =>
          t.reg LANY_VIOL_CNT = min 0xFFFFFFFF (s.reg LANY_VIOL_CNT + 1) ∧
          Keeps s t [LANY_VIOL_CNT, LANY_VIOL_ADDR_LO, LANY_VIOL_ADDR_HI] fun v => { v with latched := s.dev.latched }) ∧
      (data ≠ [] → s.rangeBad a data.length = false → s.inLany a data.length = false → (∃ p ∈ s.pinHits a data.length, p.policy = 1) →
        Completes (.dramWrite a data ⟨6, who.die⟩) s fun t =>
          t.reg (DIE_PIN_VIOL_CNT (dieOf a)) = min 0xFFFFFFFF (s.reg (DIE_PIN_VIOL_CNT (dieOf a)) + 1) ∧
          bitOf (t.reg HOST_IRQ_STAT) 10 = true ∧ KeepsDram s t) ∧
      ∀ n, s.plain a n → s.dev.mem.merge = [] → Completes (.dramRead a n who []) s fun t => KeepsButRegs s t []) ∧
  (∀ (s : State) (a n : Nat) (who : DramReq) (data : List Byte) (up : List Nat), a < 2 ^ 40 → s.up = true → s.mode ≠ .dormant →
      s.live (dieOf a) = true → 0 < s.pwr (dieOf a) 8 → s.pwr (dieOf a) 8 < 4 →
      (let d := dieOf a
       let u := s.demand d
       u.pwr d 8 = 0 ∧ u.reg (PWR_DEMAND_CNT d) = min 0xFFFFFFFF (s.reg (PWR_DEMAND_CNT d) + 1) ∧ KeepsDram s u ∧
       ∀ c ∈ [Instr.dramWrite a data who, .dramRead a n who up], exec c s = exec c u)) ∧
  ∀ (s : State) (o n : Nat) (data : List Byte), s.portOn .host = true →
    (let a := s.bar2Addr o
     (Completes (.bar2Write o data) s fun t =>
       (s.plain a data.length → s.unpinned a data.length → Stores s t a data ∧ KeepsRegs s t []) ∧
       (data ≠ [] → (s.rangeBad a data.length = true ∨ s.inLany a data.length = true) →
         t.reg HOST_ACC_ERR_CNT = min 0xFFFFFFFF (s.reg HOST_ACC_ERR_CNT + 1) ∧ KeepsDram s t)) ∧
     Completes (.bar2Read o n) s fun t =>
       (s.plain a n → s.dev.mem.merge = [] →
         t.dev.host.rdData = s.dramBytes a n ∧ t.dev.host.rdPoison = false ∧ Keeps s t [] fun v => { v with host := s.dev.host }) ∧
       (n ≠ 0 → s.rangeBad a n = true →
         t.dev.host.rdData = List.replicate n 0 ∧ t.reg HOST_ACC_ERR_CNT = min 0xFFFFFFFF (s.reg HOST_ACC_ERR_CNT + 1) ∧ KeepsDram s t))

/-- R384, R385, R386, R387: a whole word written into a protected region is stored with its check byte; part of a word opens an entry of the
merge buffer and stores nothing; an entry that leaves is merged with a word that checks, and is refused for one that does not, whose data
stays; reads count a correctable and an uncorrectable word. -/
def Obligations.ProtectedWords : Prop :=
  ∀ (s : State) (a k : Nat), s.up = true → s.journal = [] → a < 2 ^ 40 → a % 8 = 0 → s.rangeBad a 8 = false → s.inLany a 8 = false →
    s.pwr (dieOf a) 8 = 0 → s.protOf (dieOf a) (offOf a) = some k →
    (let d := dieOf a
     let word := fun (t : State) (n : Nat) => ∀ x, t.dramByte x = if x = s.checkAddr k a then BitVec.ofNat 8 (eccCheck n)
       else if a ≤ x ∧ x < a + 8 then (leBytes 8 n).getD (x - a) 0 else s.dramByte x
     (∀ data, data.length = 8 → Completes (.dramWrite a data ⟨7, 0⟩) s fun t => word t (leNat data) ∧ KeepsRegs s t []) ∧
     (∀ o data, data ≠ [] → o + data.length < 8 → s.mergeOf a = none → (s.dev.mem.merge.filter (·.die = d)).length < 8 →
       Completes (.dramWrite (a + o) data ⟨7, 0⟩) s fun t =>
         (∃ m, t.dev.mem.merge = s.dev.mem.merge ++ [m] ∧ m.word = a ∧ m.die = d ∧ m.cls = 7 ∧
           ∀ j, m.bytes.get (fun _ => 0) j = if o ≤ j ∧ j < o + data.length then data.getD (j - o) 0 else 0) ∧
         Keeps s t [] fun v => { v with mem := { v.mem with merge := s.dev.mem.merge } }) ∧
     (∀ m, s.mergeOf a = some m → m.die = d →
       (eccDecode (s.syndrome a) = .ok → Completes (.mergeTimeout a) s fun t =>
         word t (mergeBytes (s.rawWord a) m.bytes) ∧ t.dev.mem.merge = s.dev.mem.merge.filter (· != m) ∧ KeepsRegs s t []) ∧
       (eccDecode (s.syndrome a) = .ue → Completes (.mergeTimeout a) s fun t =>
         t.reg (ECC_REFUSED_CNT d) = min 0xFFFFFFFF (s.reg (ECC_REFUSED_CNT d) + 1) ∧
         t.dev.mem.merge = s.dev.mem.merge.filter (· != m) ∧ ∀ x, x ≠ s.checkAddr k a → t.dramByte x = s.dramByte x)) ∧
     (s.mergeOf a = none → ∀ n who, 1 ≤ n → n ≤ 8 → who.cls < 8 →
       (eccDecode (s.syndrome a) = .ue → Completes (.dramRead a n who []) s fun t =>
         t.reg (ECC_UE_CNT d) = min 0xFFFFFFFF (s.reg (ECC_UE_CNT d) + 1) ∧ t.f (ECC_STATUS d) ECC_STATUS.UE = 1 ∧ KeepsDram s t) ∧
       ∀ i, eccDecode (s.syndrome a) = .data i → Completes (.dramRead a n who []) s fun t =>
         t.reg (ECC_CE_CNT d) = min 0xFFFFFFFF (s.reg (ECC_CE_CNT d) + 1) ∧ t.f (ECC_STATUS d) ECC_STATUS.CE = 1 ∧ word t (s.wordVal a)))

/-- R381, R382: a protected region is enabled when it fits, and then stands in INIT; when it does not fit PROT_BAD is set. It is disabled by
EN = 0. When its check bytes are written INIT clears: each is the check byte of its word as it stands, and no other byte changes. -/
def Obligations.ProtectedRegions : Prop :=
  ∀ (s : State) (d k base : Nat), d < 8 → k < 8 → base < 2 ^ 16 →
    (∀ who, s.admits who (MEM_PROT_BASE d k) → s.live d = true →
      (s.protEn d k = false → s.protFits d k (base * 2 ^ 21) (s.protLen d k) = true →
        Completes (.protEnable who (MEM_PROT_BASE d k) base) s fun t =>
          t.protEn d k = true ∧ t.b (MEM_PROT_BASE d k) MEM_PROT_BASE.INIT = true ∧ t.protLo d k = base * 2 ^ 21 ∧
          KeepsButRegs s t [MEM_PROT_BASE d k]) ∧
      (s.protEn d k = false → s.protFits d k (base * 2 ^ 21) (s.protLen d k) = false →
        Completes (.protEnable who (MEM_PROT_BASE d k) base) s fun t =>
          t.protEn d k = false ∧ t.f (MEM_STATUS d) MEM_STATUS.PROT_BAD = 1 ∧ KeepsDram s t) ∧
      (s.protEn d k = true → base = s.f (MEM_PROT_BASE d k) MEM_PROT_BASE.BASE → s.dev.mem.merge = [] →
        Completes (.protDisable who (MEM_PROT_BASE d k) base) s fun t =>
          t.protEn d k = false ∧ t.b (MEM_PROT_BASE d k) MEM_PROT_BASE.INIT = false ∧ KeepsButRegs s t [MEM_PROT_BASE d k])) ∧
    (s.protEn d k = true → s.b (MEM_PROT_BASE d k) MEM_PROT_BASE.INIT = true →
      s.protLo d k + s.protLen d k + s.protLen d k / 8 ≤ 2 ^ 37 →
      (let lo := d * 2 ^ 37 + s.protLo d k
       Completes (.protInitDone d k) s fun t =>
         t.b (MEM_PROT_BASE d k) MEM_PROT_BASE.INIT = false ∧ KeepsRegs s t [MEM_PROT_BASE d k] ∧
         (∀ i, 8 * i < s.protLen d k → t.dramByte (lo + s.protLen d k + i) = BitVec.ofNat 8 (eccCheck (leNat (s.dramBytes (lo + 8 * i) 8)))) ∧
         ∀ x, (x < lo + s.protLen d k ∨ lo + s.protLen d k + s.protLen d k / 8 ≤ x) → t.dramByte x = s.dramByte x))

/-- R367, R389, R390, R391, R392, R393, R394, R395, R457: the scrubber steps to the next protected word and counts what an on-chip memory
shows; a lap ends, and is timed, with the read after which every word has been read; none with RATE = 0 while a protected word waits; one
over its time sets SCRUB_STARVED. What a faulty column of a memory gives is the reading of notes/assumptions/42.md. A whipping unit starts a
batch and ends it with the next one due; one failing column with a spare gives a repair entry. A repair save is done once; a protected zone
makes it SAVE_ERR. -/
def Obligations.MemoryUpkeep : Prop :=
  ∀ (s : State) (d : Nat), d < 8 → s.up = true → s.live d = true →
    (s.b (ECC_SCRUB_CTL d) ECC_SCRUB_CTL.EN = true →
      (let laps := fun (v : Dev) => { v with mem := { v.mem with
         lapFrom := s.dev.mem.lapFrom
         lapWrap := s.dev.mem.lapWrap
         lapSram := s.dev.mem.lapSram } }
       (∀ o ms, s.f (ECC_SCRUB_CTL d) ECC_SCRUB_CTL.RATE ≠ 0 → s.napping d 8 = false → s.scrubNext d = some o →
         s.mergeOf (d * 2 ^ 37 + o) = none → s.journal = [] → eccDecode (s.syndrome (d * 2 ^ 37 + o)) = .ok →
         (let u := (s.setMem { s.dev.mem with scrub := s.dev.mem.scrub.put 0 d (o + 8) }).lapDram d o
          Completes (.scrubRead d (.dram []) (some ms)) s fun t =>
            t.dev.mem.scrub.look 0 d = o + 8 ∧
            t.reg (ECC_SCRUB_LAP_MS d) = (if u.dramLapped d && u.sramLapped d then ms % 2 ^ 32 else s.reg (ECC_SCRUB_LAP_MS d)) ∧
            Keeps s t [ECC_SCRUB_LAP_MS d] fun v => laps { v with mem := { v.mem with scrub := s.dev.mem.scrub } })) ∧
       (∀ up lap, s.f (ECC_SCRUB_CTL d) ECC_SCRUB_CTL.RATE = 0 → s.dramLapped d = false →
         Completes (.scrubRead d (.dram up) lap) s fun t => KeepsButRegs s t []) ∧
       (∀ i w sy lap, s.napping d 8 = false → s.whipHolds d 3 i w = false → eccDecode sy = .ue →
         Completes (.scrubRead d (.sram 3 i w sy) lap) s fun t =>
           t.reg (ECC_UE_BG_CNT d) = min 0xFFFFFFFF (s.reg (ECC_UE_BG_CNT d) + 1) ∧ t.f (ECC_STATUS d) ECC_STATUS.UE_BG = 1 ∧ KeepsDram s t) ∧
       (∀ m i w sy b lap, 1 ≤ m → m ≤ 8 → s.napping d (whipUnit m i) = false → s.cellDead d m i = false → s.whipHolds d m i w = false →
         eccDecode sy = .data b → Completes (.scrubRead d (.sram m i w sy) lap) s fun t =>
           t.reg (ECC_CE_CNT d) = min 0xFFFFFFFF (s.reg (ECC_CE_CNT d) + 1) ∧ KeepsDram s t) ∧
       (∀ m i w sy ms, (s.napping d (whipUnit m i) = true ∨ s.cellDead d m i = true ∨ s.whipHolds d m i w = true) →
         Completes (.scrubRead d (.sram m i w sy) (some ms)) s fun t => Keeps s t [ECC_SCRUB_LAP_MS d] laps)) ∧
      Completes (.scrubStarved d) s fun t =>
        t.f (ECC_STATUS d) ECC_STATUS.SCRUB_STARVED = 1 ∧
        Keeps s t [ECC_STATUS d, HOST_IRQ_STAT, HOST_MGMT_IRQ_STAT] fun v => { v with host := s.dev.host }) ∧
    (∀ u, u < 9 → s.napping d u = false → s.b (ECC_WHIP_CTL d) ECC_WHIP_CTL.EN = true → s.dev.mem.whipBusy.look false (d * 9 + u) = false →
      Completes (.whipBatchStart d u) s fun t =>
        t.dev.mem.whipBusy.look false (d * 9 + u) = true ∧ Keeps s t [] fun v => { v with mem := s.dev.mem }) ∧
    (∀ u, u < 8 → s.dev.mem.whipBusy.look false (d * 9 + u) = true →
      (let p := s.dev.mem.whipPos.look 0 (d * 9 + u)
       let ended := fun (t : State) => t.dev.mem.whipBusy.look false (d * 9 + u) = false ∧
         t.dev.mem.whipPos.look 0 (d * 9 + u) = (p + 1) % 3584 ∧ KeepsDram s t
       Completes (.whipBatchDone d u [] [] []) s (fun t => ended t ∧ KeepsRegs s t [] ∧ t.dev.mem.repairs = s.dev.mem.repairs) ∧
       (let b := whipBatch (whipMems d u) p
        ∀ up down last c, s.cellDead d b.1 b.2.1 = false → ((up ++ down ++ last).map (·.2)).eraseDups = [c] →
          (let e := repairEntry b.1 b.2.1 b.2.2.1 1 c
           ((s.dev.mem.repairs.look [] d).length < 32 → 0 < s.freeSpares d e → Completes (.whipBatchDone d u up down last) s fun t =>
             ended t ∧ d ∈ t.dev.mem.unsaved ∧ t.dev.mem.repairs.look [] d = s.dev.mem.repairs.look [] d ++ [e] ∧
             t.f (ECC_WHIP_STAT d) ECC_WHIP_STAT.REPAIRS = (s.dev.mem.repairs.look [] d).length + 1) ∧
           (s.freeSpares d e = 0 → s.fencedIn d (b.2.1 / 16) < 4 → s.mode ≠ .reset → Completes (.whipBatchDone d u up down last) s fun t =>
             t.f (ECC_STATUS d) ECC_STATUS.WHIP_UNREP = 1 ∧ t.dev.mem.repairs = s.dev.mem.repairs ∧
             cellFenced (t.cellsNow d) b.2.1 = true))))) ∧
    (∀ f, s.b (ECC_WHIP_CTL d) ECC_WHIP_CTL.SAVE = true → d ∈ s.dev.mem.unsaved →
      Completes (.repairSave d f) s fun t =>
        d ∉ t.dev.mem.unsaved ∧ KeepsDram s t ∧
        (s.nvmProt 3 = true → t.f (ECC_STATUS d) ECC_STATUS.SAVE_ERR = 1 ∧ { t.dev.nvm with ties := s.dev.nvm.ties } = s.dev.nvm))

/-! ### Host link, jobs -/

/-- R470, R471, R472, R483, R515: the link goes down with the rings disabled and the configuration space at its reset values, comes up with
its speed and width; a configuration write sets the command register or D3hot, a read returns the IDs; the MSI-X table takes its four words;
a root port's reset is released. With no job queued. Where the capabilities lie in the configuration space, and what a link-down leaves, is
the reading of notes/assumptions/14.md and 26.md. -/
def Obligations.HostLink : Prop :=
  ∀ (s : State), s.dev.boot.fused = true → s.dev.jobs.queue = [] →
    (let off := fun (t : State) => t.dev.host.busMaster = false ∧ t.dev.host.memSpace = false ∧ t.dev.host.msixEn = false ∧
       t.dev.host.cfg = [] ∧ (∀ r, r < 8 → t.ringEn r = false ∧ t.ring r = { s.ring r with tail := 0, head := 0, part := [] }) ∧ KeepsDram s t
     (∀ kind, kind < 3 → Completes (.hostLinkDown kind) s fun t =>
       off t ∧ t.f HOST_LINK HOST_LINK.SPEED = 0 ∧ t.f HOST_LINK HOST_LINK.WIDTH = 0 ∧ t.dev.host.d3 = false ∧
       (kind = 2 → t.dev.host.perst = true)) ∧
     Completes (.hostLinkDown 3) s (fun t => off t ∧ t.reg HOST_LINK = s.reg HOST_LINK ∧ t.dev.host.d3 = true) ∧
     (s.f HOST_LINK HOST_LINK.SPEED ≠ 0 → ∀ be v, bitOf be 0 = true → v.toNat % 4 = 3 →
       Completes (.configurationRequest 0x44 be (some v)) s fun t => off t ∧ t.dev.host.d3 = true)) ∧
    (∀ speed width, speed < 16 → width < 16 → Completes (.hostLinkUp speed width) s fun t =>
      t.f HOST_LINK HOST_LINK.SPEED = speed ∧ t.f HOST_LINK HOST_LINK.WIDTH = width ∧ t.dev.host.perst = false ∧
      Keeps s t [HOST_LINK] fun v => { v with host := s.dev.host }) ∧
    (∀ d, d < 2 → d < s.dies → Completes (.rcPerstLRelease d) s fun t =>
      t.dev.host.rcPerst.look false d = true ∧ Keeps s t [] fun v => { v with host := s.dev.host }) ∧
    (s.f HOST_LINK HOST_LINK.SPEED ≠ 0 →
      (∀ be v, bitOf be 0 = true → Completes (.configurationRequest 4 be (some v)) s fun t =>
        t.dev.host.memSpace = bitOf v.toNat 1 ∧ t.dev.host.busMaster = bitOf v.toNat 2 ∧ Keeps s t [] fun x => { x with host := s.dev.host }) ∧
      ∀ be, s.dev.host.cfg.look 0 0 = 0 → Completes (.configurationRequest 0 be none) s fun t =>
        t.dev.host.rdData = leBytes 4 ((0x8A00 + s.dies) * 2 ^ 16 + 0x1D7A) ∧ Keeps s t [] fun x => { x with host := s.dev.host }) ∧
    (s.hostOn = true → ∀ off v,
      (0x1000 ≤ off → off < 0x1400 → Completes (.msixTableWrite off v) s fun t =>
        (let e := s.dev.host.vectors.look MsixVec.dflt ((off - 0x1000) / 16)
         t.dev.host.vectors.look MsixVec.dflt ((off - 0x1000) / 16) = match (off - 0x1000) % 16 / 4 with
           | 0 => { e with addr := e.addr / 2 ^ 32 * 2 ^ 32 + v.toNat / 4 * 4 }
           | 1 => { e with addr := e.addr % 2 ^ 32 + v.toNat * 2 ^ 32 }
           | 2 => { e with data := v.toNat }
           | _ => { e with masked := bitOf v.toNat 0 }) ∧
        Keeps s t [] fun x => { x with host := s.dev.host }) ∧
      (0x40 ≤ off → (off < 0x1000 ∨ 0x1400 ≤ off) → Completes (.msixTableWrite off v) s fun t =>
        t.reg HOST_ACC_ERR_CNT = min 0xFFFFFFFF (s.reg HOST_ACC_ERR_CNT + 1) ∧ t.dev.host.vectors = s.dev.host.vectors ∧ KeepsDram s t))

/-- R476, R477, R480, R481: doorbells move a ring's tail and head, and are access errors beyond the ring; a descriptor that the part reads
enters the queue, one that cannot be read stops the ring; a ring starts with a valid size, and one disabled without jobs is empty; a job
that is done, or aborted, writes its record and leaves the queue. The codes of the record, and when a full or stopped ring gives it up, are
the reading of notes/assumptions/12.md. -/
def Obligations.JobQueue : Prop :=
  ∀ (s : State),
    (∀ r v, s.hostOn = true → s.up = true → r < 8 → v < s.ringSize r →
      Completes (.sqDoorbell r v) s (fun t =>
        t.ring r = { s.ring r with tail := v } ∧ (∀ q, q ≠ r → t.ring q = s.ring q) ∧ Keeps s t [] fun x => { x with jobs := s.dev.jobs }) ∧
      (s.dev.jobs.ended = [] → Completes (.cqDoorbell r v) s fun t =>
        t.ring r = { s.ring r with head := v } ∧ (∀ q, q ≠ r → t.ring q = s.ring q) ∧ Keeps s t [] fun x => { x with jobs := s.dev.jobs })) ∧
    (∀ r v, s.hostOn = true → s.up = true → r < 512 → (8 ≤ r ∨ s.ringSize r ≤ v) →
      ∀ c ∈ [Instr.sqDoorbell r v, .cqDoorbell r v], Completes c s fun t =>
        t.reg HOST_ACC_ERR_CNT = min 0xFFFFFFFF (s.reg HOST_ACC_ERR_CNT + 1) ∧ t.dev.jobs = s.dev.jobs ∧ KeepsDram s t) ∧
    (∀ r, s.hostMaster = true → s.dev.jobs.queue.length < 512 → s.nextRing = some r → s.f (JOB_SIZE r) JOB_SIZE.LOG2 ≤ 12 →
      (∀ ws, s.mode ≠ .lanyardOnly →
        (let d := (List.range 8).map fun i => (ws.getD i 0).toNat
         let ds := ((s.ring r).part ++ [d]).take 65
         (opZlc ((ds.headD []).getD 0 0 % 256) && bitOf (d.getD 0 0) 9) = false →
         Completes (.descriptorFetch (some ws)) s fun t =>
           t.dev.jobs.queue = s.dev.jobs.queue ++ [⟨s.dev.jobs.next, r, ds, none⟩] ∧ t.dev.jobs.next = s.dev.jobs.next + 1 ∧
           (t.ring r).part = [] ∧ t.f JOB_QUEUE JOB_QUEUE.COUNT = s.dev.jobs.queue.length + 1 ∧
           t.f (JOB_STAT r) JOB_STAT.SQ_HEAD = (s.f (JOB_STAT r) JOB_STAT.SQ_HEAD + 1) % s.ringSize r ∧
           Keeps s t [JOB_STAT r, JOB_QUEUE, JOB_INFLIGHT r] fun x => { x with jobs := s.dev.jobs })) ∧
      Completes (.descriptorFetch none) s fun t =>
        (t.ring r).stopped = true ∧ t.f (JOB_STAT r) JOB_STAT.FETCH_ERR = 1 ∧ t.f ERR_STATUS ERR_STATUS.JOB = 1 ∧
        t.dev.jobs.queue = s.dev.jobs.queue ∧ KeepsDram s t) ∧
    (∀ who r v, r < 8 → s.admits who (JOB_CTL r) →
      (s.ringEn r = false → 4 ≤ s.f (JOB_SIZE r) JOB_SIZE.LOG2 → s.f (JOB_SIZE r) JOB_SIZE.LOG2 ≤ 12 → bitOf v.toNat 30 = false →
        Completes (.jobRingEnable who r v) s fun t =>
          t.ringEn r = true ∧ t.ring r = { s.ring r with stopped := false } ∧ Keeps s t [JOB_CTL r] fun x => { x with jobs := s.dev.jobs }) ∧
      (s.dev.jobs.queue = [] → Completes (.jobRingDisable who r v) s fun t =>
        t.ringEn r = false ∧ t.ring r = { s.ring r with tail := 0, head := 0, part := [] } ∧
        t.f (JOB_STAT r) JOB_STAT.SQ_HEAD = 0 ∧ t.f (JOB_STAT r) JOB_STAT.CQ_TAIL = 0 ∧
        Keeps s t [JOB_CTL r, JOB_STAT r, JOB_QUEUE, JOB_INFLIGHT r] fun x => { x with jobs := s.dev.jobs })) ∧
    ∀ (j : Job) (who : Requester) (v : Word), s.dev.jobs.queue = [j] → s.dev.jobs.ended = [] → s.dev.mem.merge = [] →
      s.dev.mem.jobUe = [] → j.ring < 8 → s.ringEn j.ring = true → s.f HOST_LINK HOST_LINK.SPEED ≠ 0 → s.dev.host.busMaster = true →
      s.f (JOB_SIZE j.ring) JOB_SIZE.LOG2 ≤ 12 → j.comp = false → bitOf (j.w 7) 30 = false →
      (let tail := s.f (JOB_STAT j.ring) JOB_STAT.CQ_TAIL
       let next := (tail + 1) % s.ringSize j.ring
       let at' := s.pair (JOB_CQ_BASE_LO j.ring) (JOB_CQ_BASE_HI j.ring) 32 + 16 * tail
       let wb := s.pair (JOB_CQ_WB_LO j.ring) (JOB_CQ_WB_HI j.ring) 32
       let gone := fun (r : JobRes) (t : State) =>
         t.dev.jobs.queue = [] ∧ t.dev.jobs.ended = [] ∧ t.f JOB_QUEUE JOB_QUEUE.COUNT = 0 ∧ t.f (JOB_STAT j.ring) JOB_STAT.CQ_TAIL = next ∧
         (∀ i, i < 4 → t.dev.host.mem.look 0 ((wb + i) % 2 ^ 64) = (leBytes 4 next).getD i 0) ∧
         (∀ i, i < 16 → (∀ k, k < 4 → (wb + k) % 2 ^ 64 ≠ (at' + i) % 2 ^ 64) →
           t.dev.host.mem.look 0 ((at' + i) % 2 ^ 64) = (j.record r).getD i 0) ∧
         (bitOf (j.w 7) 31 = true → bitOf (t.reg HOST_IRQ_JOB) j.ring = true) ∧ t.ringEn j.ring = true ∧ KeepsDram s t
       next ≠ (s.ring j.ring).head →
       (∀ r, j.res = some r → Completes (.jobComplete j.id) s (gone r)) ∧
       (j.res = none → s.admits who (JOB_CTL j.ring) → Completes (.jobAbort who j.ring v) s (gone (.plain .aborted))))

/-- R478, R479, R480: the jobs that move bytes, between plain memory, host memory and a member drive, beside no job that they overlap
(R420): the bytes arrive, every other byte of DRAM is as before, and the job's result counts them (how a job ends is
notes/assumptions/12.md). -/
def Obligations.JobTransfers : Prop :=
  ∀ (s : State) (i : Nat) (j : Job),
    (let n := j.w 4
     let done := fun (inp : Nat) (t : State) => t.job i = some { j with res := some ⟨.ok, 0, n, inp, 0⟩ }
     let into := s.plain j.dst n ∧ s.unpinned j.dst n
     let cu := j.w 5 * 4096
     (s.starts i 1 j → s.plain j.src n → into → Completes (.copy i) s fun t =>
       Stores s t j.dst (s.dramBytes j.src n) ∧ done n t ∧ KeepsRegs s t []) ∧
     (s.starts i 2 j → into → Completes (.fill i) s fun t =>
       Stores s t j.dst ((List.range n).map fun o => (leBytes 4 (j.w 5)).getD (o % 4) 0) ∧ done 0 t ∧ KeepsRegs s t []) ∧
     (∀ data, s.starts i 3 j → into → s.hostMaster = true → n ≤ data.length → Completes (.hostRd i data) s fun t =>
       Stores s t j.dst (data.take n) ∧ done n t ∧ KeepsRegs s t []) ∧
     (∀ ok, s.starts i 4 j → s.plain j.src n → s.hostMaster = true → n ≤ ok → n < 2 ^ 32 → Completes (.hostWr i ok) s fun t =>
       (∀ x, x < n → t.dev.host.mem.look 0 ((j.w 5 + 2 ^ 32 * j.w 6 + x) % 2 ^ 64) = s.dramByte (j.src + x)) ∧ done n t ∧
       KeepsDram s t ∧ KeepsRegs s t []) ∧
     (s.starts i 0x31 j → s.plain j.src n → s.member j.die = true → Completes (.storeWr i none) s fun t =>
       t.diskRead j.die cu n = s.dramBytes j.src n ∧ done n t ∧ (t.drive j.die).errs = 0 ∧ KeepsDram s t ∧ KeepsRegs s t []) ∧
     (s.starts i 0x32 j → into → s.member j.die = true → Completes (.storeRd i none) s fun t =>
       Stores s t j.dst (s.diskRead j.die cu n) ∧ done n t ∧ (t.drive j.die).errs = 0 ∧ KeepsRegs s t []) ∧
     (s.startable i 0x33 = some j → s.descBad j = false → s.member j.die = true → Completes (.storeFlush i none) s fun t =>
       t.job i = some { j with res := some (.plain .ok) } ∧ (t.drive j.die).errs = 0 ∧ KeepsDram s t ∧ KeepsRegs s t []))

/-- R396, R400 to R403, R409 to R411, R413, R415, R417, R418: a compression job that starts keeps its engine busy and ends its work with a
result: BAD_DESC when its descriptor check fails, a result of no bytes when it has no input, else one that its work gives. In plain memory,
beside no job that it overlaps (R420): a ZBC encode writes each block of the plane coded from its pixels, those beyond the edge repeated; a ZBC
decode writes each pixel as its block decodes and counts the invalid blocks; a ZLC compress writes the coded stream with its CRC, or ends
NO_GAIN or OUT_FULL; a ZLC decompress writes what the stream decodes to, or ends OUT_FULL or BAD_DESC with the fault of R410. No other byte of
DRAM changes but, where a ZLC job fails, in its output range. How much of its input a failed job has read is not stated
(notes/assumptions/12.md). -/
def Obligations.CompressionJobs : Prop :=
  ∀ (s : State) (i : Nat) (j : Job),
    (∀ x ∈ [(Instr.zbcEncode i, 0x21, j.zbcEmpty, 0), (.zbcDecode i, 0x22, j.zbcEmpty, 0),
        (.zlcCompress i, 0x23, decide (j.total = 0), (crc32c []).toNat), (.zlcDecompress i, 0x24, decide (j.total = 0), (crc32c []).toNat)],
      s.startable i x.2.1 = some j →
      Completes x.1 s fun t =>
        (∃ r, t.job i = some { j with res := some r }) ∧ (s.live j.die = true → bitOf (t.f CMP_STATUS CMP_STATUS.BUSY) j.die = true) ∧
        (s.descBad j = true → t.job i = some { j with res := some (.plain .badDesc) } ∧ KeepsDram s t) ∧
        (s.descBad j = false → x.2.2.1 = true → t.job i = some { j with res := some ⟨.ok, 0, 0, 0, x.2.2.2⟩ } ∧ KeepsDram s t)) ∧
    (∀ z, j.zbc = some z → j.zbcEmpty = false →
      (let f := z.form
       let pixel := fun (x y : Nat) => z.raw + y * z.rawStride + x * f.px
       (s.compresses i 0x21 j → Completes (.zbcEncode i) s fun t =>
         t.job i = some { j with res := some ⟨.ok, 0, z.blocks * f.size, z.w * z.h * f.px, 0⟩ } ∧
         (∀ b, b < z.blocks → t.dramBytes (z.blockAt b) f.size = f.encode ((List.range 32).map fun n =>
           f.unpack (s.dramBytes (pixel (min (8 * (b % z.cols) + n % 8) (z.w - 1)) (min (4 * (b / z.cols) + n / 8) (z.h - 1))) f.px))) ∧
         ∀ a, (∀ b, b < z.blocks → a < z.blockAt b ∨ z.blockAt b + f.size ≤ a) → t.dramByte a = s.dramByte a) ∧
       (s.compresses i 0x22 j →
         (let block := fun b => s.dramBytes (z.blockAt b) f.size
          let bad := ((List.range z.blocks).filter fun b => f.invalid (leNat (block b))).length
          Completes (.zbcDecode i) s fun t =>
            t.job i = some { j with res := some ⟨.ok, 0, z.w * z.h * f.px, z.blocks * f.size, bad⟩ } ∧
            t.reg CMP_ZBC_BAD_CNT = min 0xFFFFFFFF (s.reg CMP_ZBC_BAD_CNT + bad) ∧
            (∀ x y, x < z.w → y < z.h → t.dramBytes (pixel x y) f.px =
              f.pack ((f.decode (block (y / 4 * z.cols + x / 8))).getD (8 * (y % 4) + x % 8) [])) ∧
            ∀ a, (∀ y, y < z.h → a < pixel 0 y ∨ pixel z.w y ≤ a) → t.dramByte a = s.dramByte a)))) ∧
    (j.total ≠ 0 →
      (let inp := j.inputs.flatMap fun r => s.dramBytes r.1 r.2
       let cap := j.w 5
       (s.compresses i 0x23 j →
         (let out := zlcEncode ⟨bitOf (j.w 0) 8, j.w 6 * 1024, j.flushes⟩ inp
          (j.total ≤ out.length → j.total ≤ cap → Completes (.zlcCompress i) s fun t => s.failsAs t i j .noGain 0) ∧
          (cap < out.length → cap < j.total → Completes (.zlcCompress i) s fun t => s.failsAs t i j .outFull 0) ∧
          (out.length < j.total → out.length ≤ cap → Completes (.zlcCompress i) s fun t =>
            Stores s t j.dst out ∧ t.job i = some { j with res := some ⟨.ok, 0, out.length, j.total, (crc32c inp).toNat⟩ }))) ∧
       (s.compresses i 0x24 j →
         (∀ out rest, zlcDecode cap inp = .ok out rest → Completes (.zlcDecompress i) s fun t =>
           Stores s t j.dst out ∧
           t.job i = some { j with res := some ⟨.ok, 0, out.length, (8 * inp.length - rest.length + 7) / 8, (crc32c out).toNat⟩ }) ∧
         (zlcDecode cap inp = .full → Completes (.zlcDecompress i) s fun t => s.failsAs t i j .outFull 0) ∧
         ∀ k, zlcDecode cap inp = .bad k → Completes (.zlcDecompress i) s fun t => s.failsAs t i j .badDesc k)))

/-- R398 to R402, R404 to R409, R411: a decode gives back what an encode took. A block coded by ZBC is valid, of its format's size, and
decodes to samples within half a step of 2^SH, exactly where SH is 0, so to the block itself when the bit lengths of its ranges fit the
budget. A ZLC stream of 1 to `cap` bytes, whatever matches and code lengths its search proposes, decodes to its input and leaves only the
padding of its last byte. -/
def Obligations.CodecRoundTrip : Prop :=
  (∀ (fmt : Nat) (z : ZbcForm) (px : List (List Nat)), zbcForm fmt = some z → px.length = 32 →
    (∀ p ∈ px, p.length = 3 ∧ ∀ x ∈ p, x < 2 ^ z.n) →
    (let bs := z.encode px
     let comp := fun (c : Nat) => px.map fun p => p.getD c 0
     let range := fun (c : Nat) => (comp c).foldl max 0 - (comp c).foldl min (2 ^ z.n - 1)
     bs.length = z.size ∧ z.invalid (leNat bs) = false ∧
     (∀ k c, k < 32 → c < 3 →
       (let sh := (z.header (leNat bs) c).2.2
        let v := (px.getD k []).getD c 0
        let w := ((z.decode bs).getD k []).getD c 0
        if sh = 0 then w = v else w ≤ v + 2 ^ (sh - 1) ∧ v ≤ w + 2 ^ (sh - 1))) ∧
     (bitLen (range 0) + bitLen (range 1) + bitLen (range 2) ≤ z.budget → z.decode bs = px))) ∧
  ∀ (cap : Nat) (fl : ZlcFlags) (inp : List Byte), inp ≠ [] → inp.length ≤ cap → 0 < fl.blk → fl.blk ≤ 65536 →
    ∃ rest : List Bool, zlcDecode cap (zlcEncode fl inp) = .ok inp rest ∧ rest.length < 8

/-! ### Record store -/

/-- R424, R426, R428, R431, R432, R433, R436: the commands of a channel: a read gives the record of the key or ABSENT; a write or a tombstone
of an allowed type in an unprotected zone is appended with the next SEQ on every readable die, die 0 first, with result OK, MIRROR or MEDIA as
both, one or none accept it, and becomes the record of its key; a counter is read; before it is stepped or set a die whose value is lower is
brought up; a step of 1 programs one cell or rolls over a full slot, every other amount rolls over, and a roll-over gives the counter its new
base. Block protection takes a write unless it is locked or the host lowers it. How an append finds room is the reading of
notes/assumptions/41.md. -/
def Obligations.RecordStore : Prop :=
  ∀ (s : State),
    (∀ who k, k < 2 → (k = 0 ∨ who = .mgmt) → s.admits who (NVM_CMD k) → s.b (NVM_STAT k) NVM_STAT.BUSY = false →
      (let ty := s.f (NVM_ID k) NVM_ID.TYPE
       let key := s.f (NVM_ID k) NVM_ID.KEY
       let v := s.pair (NVM_VAL_LO k) (NVM_VAL_HI k) 32
       let ds := s.nvmDies
       let array : NvmRun := ⟨s.dev.nvm, none⟩
       let ended := fun (r : Nat) (t : State) => t.f (NVM_STAT k) NVM_STAT.RESULT = r ∧
         bitOf (t.f NVM_STATUS NVM_STATUS.DONE) k = true ∧ KeepsDram s t
       (∀ x, ty ≠ 0 → s.nvmResolve ty key = some x → x.payload ≠ [] → x.payload.length ≤ 4044 → x.seq < 2 ^ 32 →
         Completes (.nvmRead who k) s fun t =>
           ended 0 t ∧ t.f (NVM_LEN k) NVM_LEN.LEN = x.payload.length ∧ t.reg (NVM_SEQ k) = x.seq ∧
           ∀ b, b < x.payload.length → (t.dev.nvm.buf.look 0 (k * 1024 + b / 4)).extractLsb' (8 * (b % 4)) 8 = x.payload.getD b 0) ∧
       (ty ≠ 0 → s.nvmResolve ty key = none → Completes (.nvmRead who k) s (ended 1)) ∧
       (∀ f, f.cut = none → nvmAllowed k ty = none → ty ≠ 0x21 → s.nvmProt (nvmZone ty) = false → ds ≠ [] → s.nvmTied ty key = false →
         s.f (NVM_LEN k) NVM_LEN.LEN ≤ 4044 → (∀ d ∈ ds, s.dev.nvm.topSeq d ty key < 0xFFFFFFFE) →
         ∀ x ∈ [(Instr.nvmWrite who k f, s.nvmPayload k), (.nvmDelete who k f, [])],
           (∀ d ∈ ds, s.dev.nvm.zoneLive d (nvmZone ty) - s.dev.nvm.liveSize d ty key + nvmSize x.2.length ≤ 524288) →
           (let top := ds.foldl (fun m d => max m (s.dev.nvm.topSeq d ty key)) 0
            let put := fun (d : Nat) (n : NvmRun) =>
              n.append ds d (f.verify.getD d 0) (f.erase.contains d) ⟨ty, key, top + 1, x.2, true⟩
            (∀ n, allTake put ds array = some n → Completes x.1 s fun t =>
              ended 0 t ∧ t.dev.nvm = n.st ∧ t.reg (NVM_SEQ k) = top + 1) ∧
            (ds = [0, 1] → ∀ y, put 0 array = some y → ∀ z, put 1 y.1 = some z → Completes x.1 s fun t =>
              ended (if y.2 && z.2 then 0 else if y.2 || z.2 then 7 else 8) t ∧ t.dev.nvm = z.1.st ∧ t.reg (NVM_SEQ k) = top + 1))) ∧
       (key ≤ 4095 → Completes (.ctrRead who k) s fun t =>
         ended 0 t ∧ t.pair (NVM_VAL_LO k) (NVM_VAL_HI k) 32 = s.ctrVal key ∧ t.dev.nvm = s.dev.nvm) ∧
       (∀ f, f.cut = none → key ≤ 4095 → s.nvmProt 0 = false → ds ≠ [] →
         (let top := s.ctrVal key
          let raise := fun (d : Nat) (n : NvmRun) => if n.st.ctr d key < top then n.rollTo ds f d key top else some (n, true)
          let roll := fun (v d : Nat) (n : NvmRun) => n.rollTo ds f d key v
          let step := fun (d : Nat) (n : NvmRun) =>
            match (n.st.base d key).bind fun b => ((List.range 32).find? fun c => n.st.cell d b.2.2 c = 0xFFFFFFFF).map fun c => (b, c) with
            | some (b, c) => some (n.setCell d b.2.2 c (tagCell b.1), true)
            | none => roll (min (2 ^ 64 - 1) (n.st.ctr d key + 1)) d n
          let done := fun (n : NvmRun) (t : State) =>
            ended 0 t ∧ t.dev.nvm = n.st ∧ t.pair (NVM_VAL_LO k) (NVM_VAL_HI k) 32 = t.ctrVal key % 2 ^ 64
          ∀ r, allTake raise ds array = some r →
            (∀ n, v = 1 → allTake step ds r = some n → Completes (.ctrAdd who k f) s (done n)) ∧
            (∀ n, 1 < v → v < 2 ^ 32 → allTake (roll (min (2 ^ 64 - 1) (top + v))) ds r = some n →
              Completes (.ctrAdd who k f) s (done n)) ∧
            ∀ n, allTake (roll v) ds r = some n → Completes (.ctrSet who k f) s (done n))))) ∧
    (∀ (n : NvmSt) (ds : List Nat) (d : Nat) (r : NvmRec) (i : Nat), r.valid = true → n.openSec d (nvmZone r.ty) = some i →
      (n.sec d i).used + nvmSize r.payload.length ≤ 4096 → n.topSeq d r.ty r.key < r.seq →
      ∃ m, (⟨n, none⟩ : NvmRun).append ds d 0 false r = some (m, true) ∧ (m.st.nominate d r.ty r.key).map (·.2.2) = some r) ∧
    (∀ (n : NvmSt) (ds : List Nat) (d k v sl i : Nat), 64 ≤ n.freeSlots d → n.freeSlot d none = some sl → n.topSeq d 0xC000 k < 0xFFFFFFFE →
      n.zoneLive d 0 - n.liveSize d 0xC000 k + nvmSize 12 ≤ 524288 → n.openSec d 0 = some i → (n.sec d i).used + nvmSize 12 ≤ 4096 →
      v < 2 ^ 64 →
      ∃ m, (⟨n, none⟩ : NvmRun).rollTo ds nvmNoFail d k v = some (m, true) ∧ m.st.ctr d k = v ∧
        m.st.base d k = some (n.topSeq d 0xC000 k + 1, v, sl)) ∧
    (∀ (n : NvmSt) (d k q b sl c : Nat), n.base d k = some (q, b, sl) → c < 32 → n.cell d sl c = 0xFFFFFFFF →
      (NvmRun.setCell ⟨n, none⟩ d sl c (tagCell q)).st.ctr d k = min (2 ^ 64 - 1) (n.ctr d k + 1)) ∧
    (∀ who v, s.admits who NVM_BP →
      (s.b NVM_BP_LOCK NVM_BP_LOCK.LOCK = false → (who = .mgmt ∨ s.f NVM_BP NVM_BP.BP ≤ v.toNat % 4) →
        Completes (.nvmBpWrite who v) s fun t =>
          t.f NVM_BP NVM_BP.BP = v.toNat % 4 ∧ Keeps s t [NVM_BP] fun x => { x with nvm := { x.nvm with bp := s.dev.nvm.bp } }) ∧
      ((s.b NVM_BP_LOCK NVM_BP_LOCK.LOCK = true ∨ (who = .host ∧ v.toNat % 4 < s.f NVM_BP NVM_BP.BP)) →
        Completes (.nvmBpWrite who v) s fun t =>
          t.f NVM_STATUS NVM_STATUS.BP_DENIED = 1 ∧ t.f ERR_STATUS ERR_STATUS.NVM = 1 ∧ t.reg NVM_BP = s.reg NVM_BP ∧ t.dev.nvm = s.dev.nvm)) ∧
    ∀ who v, s.admits who NVM_BP_LOCK →
      (bitOf v.toNat 0 = true → Completes (.nvmBpLockWrite who v) s fun t =>
        t.b NVM_BP_LOCK NVM_BP_LOCK.LOCK = true ∧ KeepsButRegs s t [NVM_BP_LOCK]) ∧
      (bitOf v.toNat 0 = false → Completes (.nvmBpLockWrite who v) s fun t => KeepsButRegs s t [])

/-! ### Calibration, pace, power -/

/-- R439, R440, R446, R455: a calibration run ends in Idle; a check of the supplies reports them and finds a lost reference; a temperature
sample gives the sensors' codes; a supply step is acknowledged, is repeated, or fails with AVS_ERR. When a run, a check and a sample act is
the reading of notes/assumptions/17.md and 18.md. -/
def Obligations.CalibrationAndPace : Prop :=
  ∀ (s : State),
    (∀ refs pairs, s.mode = .calibrate → Completes (.calRunDone refs pairs) s fun t =>
      t.mode = .idle ∧ t.f CHIP_MODE CHIP_MODE.REASON = 12 ∧ t.f CAL_STATUS CAL_STATUS.BUSY = 0 ∧
      (s.f CAL_CTL CAL_CTL.SEL = 0 → t.f CAL_STATUS CAL_STATUS.FAIL = 0 ∧ t.f CAL_STATUS CAL_STATUS.PAIRS = 0) ∧ KeepsDram s t) ∧
    (∀ xs d x, s.mode ≠ .reset → d < 8 → d < s.dies → xs[d]? = some x → Completes (.vrefCheck xs) s fun t =>
      t.f (CAL_SUPPLY d) CAL_SUPPLY.VCORE = min 65535 x.1 ∧ t.f (CAL_SUPPLY d) CAL_SUPPLY.VREF = min 65535 x.2.1 ∧
      (s.dev.cal.mode = 1 → s.mode ≠ .calibrate → s.live d = true → refBad x.2.1 x.2.2 = true → d ∉ s.dev.cal.lost →
        d ∈ t.dev.cal.lost ∧ t.f CAL_STATUS CAL_STATUS.REF_LOST = 1) ∧ KeepsDram s t) ∧
    (∀ xs, s.mode = .idle → (∀ d, s.live d = true → dieTemp (xs.getD d []) < 110 * 256) → Completes (.tempSample xs) s fun t =>
      (let code := fun (d i : Nat) =>
         let x := (xs.getD d []).getD i (-41 * 256)
         if tempValid x then s78 x else 0x8000
       ∀ d m, d < s.dies → m < 8 → t.reg (CAL_TEMP d m) = code d (2 * m) + 2 ^ 16 * code d (2 * m + 1)) ∧
      t.mode = .idle ∧ KeepsDram s t) ∧
    ∀ d c, d < 8 → (s.pace d).cmd = some c →
      Completes (.avsAck d) s (fun t =>
        t.pace d = { s.pace d with cmd := none, tries := 0, failed := none, settling := true } ∧
        t.f (CAL_PACE_STAT d) CAL_PACE_STAT.VCODE = c % 32 ∧ Keeps s t [CAL_PACE_STAT d] fun x => { x with cal := s.dev.cal }) ∧
      ((s.pace d).tries < 2 → Completes (.avsTimeout d) s fun t =>
        t.pace d = { s.pace d with tries := (s.pace d).tries + 1 } ∧ Keeps s t [] fun x => { x with cal := s.dev.cal }) ∧
      (2 ≤ (s.pace d).tries → Completes (.avsTimeout d) s fun t =>
        t.pace d = { s.pace d with cmd := none, tries := 0, failed := some c, settling := false } ∧
        t.f (CAL_PACE_STAT d) CAL_PACE_STAT.AVS_ERR = 1 ∧ KeepsDram s t)

/-- R447: THERM_WARN is raised by the sample with which the chip temperature (R446: the maximum over the live dies) reaches WARN, and then
not again until a sample has found it below WARN − HYST. -/
def Obligations.ThermalWarning : Prop :=
  ∀ (s : State) (xs : List (List Int)) (top : Nat), s.mode ≠ .reset → (s.mode = .dormant → s.dev.boot.wake = none) →
    s.live top = true → (∀ d, s.live d = true → dieTemp (xs.getD d []) ≤ dieTemp (xs.getD top [])) →
    (let chip := dieTemp (xs.getD top [])
     let warn := sext 8 (s.f CAL_THERM CAL_THERM.WARN)
     let hyst : Int := s.f CAL_THERM CAL_THERM.HYST
     Completes (.tempSample xs) s fun t =>
       (s.dev.cal.warned = false → warn * 256 ≤ chip →
         t.f CAL_EVT CAL_EVT.THERM_WARN = 1 ∧ bitOf (t.reg HOST_IRQ_STAT) 25 = true ∧ bitOf (t.reg HOST_MGMT_IRQ_STAT) 25 = true ∧
         t.dev.cal.warned = true) ∧
       (s.dev.cal.warned = false → chip < warn * 256 → t.f CAL_EVT CAL_EVT.THERM_WARN = s.f CAL_EVT CAL_EVT.THERM_WARN ∧
         t.dev.cal.warned = false) ∧
       (s.dev.cal.warned = true → t.f CAL_EVT CAL_EVT.THERM_WARN = s.f CAL_EVT CAL_EVT.THERM_WARN ∧
         (t.dev.cal.warned = false ↔ chip < (warn - hyst) * 256)))

/-- R457, R458, R461, R462, R463, R466, R467: a unit that wakes takes Run while it has work in progress, else the deepest allowed state
whose entry and wake, with 2 µs more, fit the time to its next known event; a region counts the time in its state and a wake on demand. In
Dormant a unit goes back to its state there, and the timer or the management port makes a wake pending. What counts as work, and where in
its line the next event falls, is the reading of notes/assumptions/19.md. -/
def Obligations.PowerStates : Prop :=
  ∀ (s : State) (d us next : Nat) (starved : Bool), d < 8 →
    (s.live d = true → s.mode ≠ .dormant →
      (∀ u, u < 9 →
        (let c := s.pwrNext d u next starved
         (s.unitWorks d u = true → c = 0) ∧
         (s.unitWorks d u = false → c < 4 ∧ s.pwrAllowed d u starved c = true ∧ pwrTicks u c ≤ s.tNext d u next ∧
           ∀ b, c < b → b < 4 → s.pwrAllowed d u starved b = true → s.tNext d u next < pwrTicks u b))) ∧
      (∀ u, u < 8 → s.pwr d 8 < 2 →
        ∀ c ∈ [Instr.unitWakeTimer d u us next starved, .wakeOnDemand d u us next starved], Completes c s fun t =>
          t.pwr d u = s.pwrNext d u next starved ∧ KeepsButRegs s t [PWR_DIE_STAT d]) ∧
      (s.dev.hold.filter (·.1 / 16 = d) = [] → ∀ k (_ : 1 ≤ k) (_ : k < 4), s.pwr d 8 = k →
        ∀ x ∈ [(Instr.unitWakeTimer d 8 us next starved, 0), (.wakeOnDemand d 8 us next starved, 1)], Completes x.1 s fun t =>
          (let res := if k = 1 then PWR_RES_QUIET d else if k = 2 then PWR_RES_NAP d else PWR_RES_DEEP d
           t.pwr d 8 = s.pwrNext d 8 next starved ∧ t.reg res = min 0xFFFFFFFF (s.reg res + us) ∧
           t.reg (PWR_DEMAND_CNT d) = min 0xFFFFFFFF (s.reg (PWR_DEMAND_CNT d) + x.2) ∧
           KeepsButRegs s t [res, PWR_DEMAND_CNT d, PWR_STATUS, PWR_DIE_STAT d]))) ∧
    (s.live d = true → s.mode = .dormant → ∀ u, u < 8 →
      ∀ c ∈ [Instr.unitWakeTimer d u us next starved, .wakeOnDemand d u us next starved], Completes c s fun t =>
        t.pwr d u = (if s.unitWorks d u then 0 else 2) ∧ KeepsButRegs s t [PWR_DIE_STAT d]) ∧
    (s.mode = .dormant → s.dev.boot.wake = none →
      (let pending := fun (r : Nat) (t : State) =>
         t.dev.boot.wake = some r ∧ t.f PWR_STATUS PWR_STATUS.WAKE_PEND = 1 ∧ t.f PWR_STATUS PWR_STATUS.TEMP_HOLD = 1 ∧
         Keeps s t [PWR_STATUS] fun x => { x with boot := s.dev.boot }
       (s.f PWR_WAKE_MS PWR_WAKE_MS.MS ≠ 0 → Completes .dormantWakeTimer s (pending 8)) ∧
       (s.admits .mgmt PWR_WAKE_REQ → Completes .pwrWakeReq s (pending 9))))

/-! ### Management port, JTAG -/

/-- R163, R165, R166: the Lanyard layer's registers: a commit becomes pending; the protected range moves unless the buffer in force would
leave it; the lock is set, and refuses what it locks. -/
def Obligations.LanyardWrites : Prop :=
  ∀ (s : State) (v : Word),
    (∀ buf, buf < 2 → s.admits .mgmt LANY_COMMIT → Completes (.lanyCommitReq buf) s fun t =>
      t.f LANY_COMMIT LANY_COMMIT.BUF = buf ∧ t.f LANY_STATUS LANY_STATUS.PEND = 1 ∧ KeepsButRegs s t [LANY_COMMIT, LANY_STATUS]) ∧
    (∀ len, s.admits .mgmt (if len then LANY_PROT_LEN else LANY_PROT_BASE) →
      (let lo := (if len then s.f LANY_PROT_BASE LANY_PROT_BASE.ADDR else v.toNat % 2 ^ 24) * 2 ^ 16
       let n := (if len then v.toNat % 2 ^ 16 else s.f LANY_PROT_LEN LANY_PROT_LEN.LEN) * 2 ^ 16
       (s.b LANY_LOCK LANY_LOCK.LOCK = false → s.lanyFits lo (lo + n) = true → Completes (.lanyProtWrite len v) s fun t =>
         t.lanyLo = lo ∧ t.lanyHi = lo + n ∧ KeepsButRegs s t [if len then LANY_PROT_LEN else LANY_PROT_BASE]) ∧
       (s.b LANY_LOCK LANY_LOCK.LOCK = false → s.lanyFits lo (lo + n) = false → Completes (.lanyProtWrite len v) s fun t =>
         t.f LANY_STATUS LANY_STATUS.BAD = 1 ∧ KeepsButRegs s t [LANY_STATUS]) ∧
       (s.b LANY_LOCK LANY_LOCK.LOCK = true → Completes (.lanyProtWrite len v) s fun t =>
         t.f LANY_STATUS LANY_STATUS.LOCK_WR = 1 ∧ KeepsButRegs s t [LANY_STATUS]))) ∧
    (s.admits .mgmt LANY_LOCK → s.b LANY_LOCK LANY_LOCK.LOCK = false →
      (bitOf v.toNat 0 = true → Completes (.lanyLockWrite v) s fun t =>
        t.b LANY_LOCK LANY_LOCK.LOCK = true ∧ t.f LANY_STATUS LANY_STATUS.LOCKED = 1 ∧ KeepsButRegs s t [LANY_LOCK, LANY_STATUS]) ∧
      (bitOf v.toNat 0 = false → Completes (.lanyLockWrite v) s fun t => KeepsButRegs s t []))

/-- R485, R486, R487, R488, R17: management frames. A good register write of one word acts by the class of each bit, a good memory write
stores its words; a bad frame gives its RESULT and an access error. Reads, status and identify answer with their bytes; a read whose data is
not ready in time, or whose header fails, is not performed. The order in which the checks of a frame are made is the reading of
notes/assumptions/24.md. -/
def Obligations.ManagementFrames : Prop :=
  ∀ (s : State) (body : List Byte), s.dev.boot.fused = true →
    (∀ a data, frameParse 0x02 3 13 true body = (.ok, 1, a, data) → s.admits .mgmt a → s.there a → plainReg a = true →
      Completes (.registerWrite body false) s fun t =>
        t.dev.host.frameRes = 0 ∧ Written s t [(a, BitVec.ofNat 32 (frameWord data 0))] fun x => { x with host := s.dev.host }) ∧
    (∀ e, (frameParse 0x02 3 13 true body).1 = e → e ≠ .ok → Completes (.registerWrite body false) s fun t =>
      t.dev.host.frameRes = e.code ∧ t.dev.host.miso = [] ∧ t.reg HOST_ACC_ERR_CNT = min 0xFFFFFFFF (s.reg HOST_ACC_ERR_CNT + 1) ∧ KeepsDram s t) ∧
    (∀ a x, frameParse 0x0B 3 13 false body = (.ok, 1, a, x) → s.admits .mgmt a → a < 0x90000 →
      s.dev.latchHi.look none (halfKey .mgmt a) = none → Completes (.registerRead ⟨body, false⟩) s fun t =>
        t.dev.host.miso = frameData (leBytes 4 (s.seen .mgmt a)) ∧ KeepsDram s t) ∧
    (∀ n a data, frameParse 0x12 5 12 true body = (.ok, n, a, data) → s.plain a (4 * n) → s.unpinned a (4 * n) →
      Completes (.memoryWrite body false) s fun t => Stores s t a data ∧ data.length = 4 * n ∧ t.dev.host.frameRes = 0 ∧ KeepsRegs s t []) ∧
    (∀ n a x, frameParse 0x1B 5 12 false body = (.ok, n, a, x) → s.plain a (4 * n) → s.dev.mem.merge = [] →
      Completes (.memoryRead ⟨body, false⟩) s fun t =>
        t.dev.host.miso = frameData (s.dramBytes a (4 * n)) ∧ Keeps s t [] fun x => { x with host := s.dev.host }) ∧
    (∀ late, ∀ x ∈ [(Instr.registerRead ⟨body, late⟩, frameParse 0x0B 3 13 false body), (.memoryRead ⟨body, late⟩, frameParse 0x1B 5 12 false body)],
      (x.2.1 = .ok → late = true) → Completes x.1 s fun t =>
        t.dev.host.miso = [if x.2.1 = .ok then 0xE1 else 0xEC] ∧ Keeps s t [] fun x => { x with host := s.dev.host }) ∧
    Completes .statusFrame s (fun t =>
      t.dev.host.miso = [BitVec.ofNat 8 s.statusByte] ∧ Keeps s t [] fun x => { x with host := s.dev.host }) ∧
    Completes .identify s fun t =>
      t.dev.host.miso = leBytes 4 (s.reg CHIP_ID) ∧ Keeps s t [] fun x => { x with host := s.dev.host }

/-- R516: edges of TCK: TRST_L resets the TAP; a rising edge in Capture-DR loads the IDCODE of every die, and one bit of a die in BYPASS,
the last die next to TDO; one in Capture-IR loads 01 into each die's two bits next to TDO, one in a Shift state shifts TDI in; a falling
edge in a Shift state puts the next bit on TDO, one in Update-IR gives each die its instruction, one in Test-Logic-Reset selects IDCODE.
R516 gives IDCODE and the order of the dies; the controller, BYPASS and the captured 01 are those of IEEE 1149.1 (notes/assumptions/25.md).
-/
def Obligations.JtagPort : Prop :=
  ∀ (s : State) (tms tdi : Bool), s.dev.boot.supplies = true →
    (let becomes := fun (x : TapSt) (t : State) => t.dev.tap = x ∧ Keeps s t [] fun v => { v with tap := s.dev.tap }
     let p := s.dev.tap
     (∀ rise, Completes (.tckEdge rise tms tdi true) s (becomes .reset)) ∧
     (p.st = .capDr → (∀ d, d < s.dies → p.instr d = .idcode ∨ p.instr d = .bypass) →
       Completes (.tckEdge true tms tdi false) s (becomes { p with
         st := p.st.next tms
         path := (List.range s.dies).reverse.flatMap fun d =>
           if p.instr d = .idcode then (List.range 32).map fun b => bitOf 0xB1A5B6F7 b else [false] })) ∧
     (p.st = .capIr → Completes (.tckEdge true tms tdi false) s fun t =>
       t.dev.tap.st = p.st.next tms ∧ t.dev.tap.path = p.path ∧ t.dev.tap.instrs = p.instrs ∧ t.dev.tap.ir.length = s.dies * tapIrLen ∧
       (∀ i, i < s.dies → t.dev.tap.ir.getD (i * tapIrLen) false = true ∧ t.dev.tap.ir.getD (i * tapIrLen + 1) true = false) ∧
       KeepsDram s t ∧ KeepsRegs s t []) ∧
     (∀ b q, p.st = .shDr → p.path = b :: q →
       Completes (.tckEdge true tms tdi false) s (becomes { p with st := p.st.next tms, path := q ++ [tdi] }) ∧
       Completes (.tckEdge false tms tdi false) s (becomes { p with tdo := some b })) ∧
     (∀ b q, p.st = .shIr → p.ir = b :: q →
       Completes (.tckEdge true tms tdi false) s (becomes { p with st := p.st.next tms, ir := q ++ [tdi] }) ∧
       Completes (.tckEdge false tms tdi false) s (becomes { p with tdo := some b })) ∧
     (p.st = .updIr → p.ir.length = s.dies * tapIrLen → Completes (.tckEdge false tms tdi false) s fun t =>
       (∀ d, d < s.dies → ((p.ir.drop ((s.dies - 1 - d) * tapIrLen)).take tapIrLen).all id = true → t.dev.tap.instr d = .bypass) ∧
       t.dev.tap.st = p.st ∧ t.dev.tap.path = p.path ∧ t.dev.tap.ir = p.ir ∧ KeepsDram s t ∧ KeepsRegs s t []) ∧
     (p.st = .reset → Completes (.tckEdge false tms tdi false) s (becomes { p with instrs := [], tdo := none })))

/-! ### Images -/

/-- R62, R65, R69, R70, R71, R73: BOOT_GO loads the staged image, and the last source of a start-up delivers one: the part ends in Idle with
STAGE 7 and no error, or halts in Load; a staging range that is not there is SOURCE_IO. A source whose bytes pass every check has its image
installed: at start-up in Idle, in a Reload with every pending request dropped, Idle following at the next knot line. A source that delivers
no image gives ERR 0xA, and the loader turns to the next one. A Reload whose source fails keeps the old image and waits for the knot line to
return to Idle (notes/assumptions/20.md and 21.md). -/
def Obligations.ImageLoads : Prop :=
  (∀ (s : State),
      (let ends := fun (t : State) =>
         (t.mode = .idle ∧ t.f CHIP_BOOT_STATUS CHIP_BOOT_STATUS.STAGE = 7 ∧ t.f CHIP_BOOT_STATUS CHIP_BOOT_STATUS.ERR = 0) ∨
         (t.mode = .load ∧ t.f CHIP_BOOT_STATUS CHIP_BOOT_STATUS.STAGE = 15)
       (∀ who, s.admits who CHIP_BOOT_CTL → s.mode = .load →
         (s.f CHIP_BOOT_STATUS CHIP_BOOT_STATUS.STAGE = 8 ∨ s.f CHIP_BOOT_STATUS CHIP_BOOT_STATUS.STAGE = 15) →
         s.f CHIP_BOOT_STATUS CHIP_BOOT_STATUS.ERR ≠ 12 → s.f CHIP_STAGE_LEN CHIP_STAGE_LEN.LEN ≠ 0 →
         Completes (.bootGo who) s fun t => ends t ∧
           (s.rangeBad s.stageBase 544 = true → t.mode = .load ∧ t.f CHIP_BOOT_STATUS CHIP_BOOT_STATUS.ERR = 10 ∧
             t.f CHIP_BOOT_STATUS CHIP_BOOT_STATUS.SOURCE = 1 ∧ KeepsDram s t)) ∧
       (∀ x bs, s.mode = .load → s.dev.boot.loading = some x → s.dev.boot.sources = [] → Completes (.imageSourceReadDone bs) s ends)) ∧
      (∀ x bytes, s.dev.boot.loading = some x → ∀ y u, s.deliver x bytes = (some y, u) →
        (let installed := fun (t : State) =>
           t.dev.image = some (parseImage s.dies y.bytes) ∧ t.dev.boot.loading = none ∧ t.dev.boot.sources = [] ∧
           t.f CHIP_BOOT_STATUS CHIP_BOOT_STATUS.STAGE = 7 ∧ t.f CHIP_BOOT_STATUS CHIP_BOOT_STATUS.ERR = 0 ∧
           t.f CHIP_BOOT_STATUS CHIP_BOOT_STATUS.ERR_SECTION = 255
         (s.mode = .reload → u.accepts y true → Completes (.reloadDone bytes) s fun t =>
           installed t ∧ t.mode = .reload ∧ t.dev.boot.idlePending = true ∧ t.f KNOT_STATUS KNOT_STATUS.PEND = 0 ∧
           t.f KNOT_STATUS KNOT_STATUS.INDEP_PEND = 0) ∧
         (s.mode = .load → u.accepts y false → Completes (.imageSourceReadDone bytes) s fun t => installed t ∧ t.mode = .idle))) ∧
      ∀ x, s.mode = .reload → s.dev.boot.loading = some x → x ≠ .staged → s.dev.boot.sources = [] →
        Completes (.reloadDone none) s fun t =>
          t.mode = .reload ∧ t.dev.boot.idlePending = true ∧ t.dev.image = s.dev.image ∧ t.f CHIP_BOOT_STATUS CHIP_BOOT_STATUS.STAGE = 7 ∧
          t.f CHIP_BOOT_STATUS CHIP_BOOT_STATUS.ERR = 10 ∧ KeepsDram s t) ∧
  (∀ (s : State) (x : ImgSource), s.dev.boot.loading = some x → s.mode ≠ .reload →
      (∀ c ∈ [Instr.imageSourceReadDone none] ++ (match x with
          | .store _ => [.nvmeDriveTimeout]
          | _ => []), x ≠ .staged →
        Completes c s fun t =>
          t.f CHIP_BOOT_STATUS CHIP_BOOT_STATUS.ERR = 10 ∧ t.f CHIP_BOOT_STATUS CHIP_BOOT_STATUS.ERR_SECTION = 255 ∧ KeepsDram s t ∧
          match s.dev.boot.sources with
          | [] => t.mode = .load ∧ t.f CHIP_BOOT_STATUS CHIP_BOOT_STATUS.STAGE = 15 ∧ t.dev.boot.loading = none
          | y :: r => t.dev.boot.loading = some y ∧ t.dev.boot.sources = r ∧ t.mode = s.mode ∧
            t.f CHIP_BOOT_STATUS CHIP_BOOT_STATUS.SOURCE = y.codes.1))

/-! ### The block as a whole -/

/-- One step takes the command at the front of the queue, with the rest still waiting; on an empty queue it changes nothing (the model's
choice, notes/assumptions/4.md). -/
def Obligations.StepTakesFront : Prop :=
  ∀ (s : State), (∀ c, step { s with pending := c :: s.pending } = exec c s) ∧ (s.pending = [] → step s = .next s)

/-- R42, R44: after reset the part is in Reset with every register at its reset value, no die fenced, no request, fence, ring or image in
force and no command waiting; DRAM lists nothing (the model's choice, notes/assumptions/5.md), and the state that the register index does
not list has the values of notes/assumptions/10.md and 11.md. -/
def Obligations.ResetState : Prop :=
  AtReset State.reset [] ∧ ModeInv State.reset ∧ State.reset.mode = .reset ∧ State.reset.pending = [] ∧ State.reset.journal = [] ∧
  State.reset.dram = [] ∧
  (∀ d, State.reset.fenced d = false) ∧ (∀ who, State.reset.req who = ⟨3, 0⟩) ∧ (∀ r, r < 8 → State.reset.ringEn r = false) ∧
  State.reset.dev.image = none ∧ State.reset.strandList = [] ∧ (∀ eng, State.reset.engine eng = Engine.zero)

/-- Every command answers a next state, but for the three pin and supply events whose effect the spec does not define; none faults. -/
def Obligations.EveryCommandAnswers : Prop :=
  ∀ (c : Instr) (s : State),
    (∃ t, exec c s = .next t) ∨
    (∃ p, c = .resetLAssert p ∧ exec c s = .refused .undefinedPulse) ∨
    (∃ m r, c = .resetLRelease m r ∧ exec c s = .refused .undefinedRelease) ∨
    (c = .powerDown ∧ exec c s = .refused .undefinedSupply)

/-- From every state whose DRAM is in canonical form a step gives one whose DRAM is, keeps the die count, leaves no write under way and takes
one command off the queue; a command that nothing connects with DRAM leaves it as it is. Two canonical memories that read alike are
equal. -/
def Obligations.EveryStep : Prop :=
  (∀ (s t : State), Memory.wf s.dram → s.journal = [] → step s = .next t →
    Memory.wf t.dram ∧ t.journal = [] ∧ t.dies = s.dies ∧ t.pending = s.pending.tail ∧
    ∀ c, s.pending.head? = some c → dramOpen c = false → t.dram = s.dram) ∧
  ∀ (s t : State), Memory.wf s.dram → Memory.wf t.dram → KeepsDram s t → t.dram = s.dram
end

