-- ==== Sys2Proof/Laws/Map.lean ====
section
/-! SUPPORT. Laws of the sparse tables: a read after a write to the same key gives the value written, a write leaves every other key
alone, and every write keeps the canonical form. -/
namespace Sys2Proof.Machine.AMap
variable {β : Type}

theorem get_erase_same (d : Nat → β) (m : AMap β) (k : Nat) : (erase m k).get d k = d k := by
  induction m with
  | nil => rfl
  | cons e t ih =>
    obtain ⟨j, v⟩ := e
    by_cases h : k = j
    · simp [erase, h]; subst h; exact ih
    · simp [erase, h, get, ih]

theorem get_erase_other (d : Nat → β) (m : AMap β) {k a : Nat} (n : a ≠ k) : (erase m k).get d a = m.get d a := by
  induction m with
  | nil => rfl
  | cons e t ih =>
    obtain ⟨j, v⟩ := e
    by_cases h : k = j
    · subst h; simp [erase, get, n, ih]
    · by_cases g : a = j
      · simp [erase, h, get, g]
      · simp [erase, h, get, g, ih]

theorem get_insert_same (d : Nat → β) (m : AMap β) (k : Nat) (v : β) : (insert m k v).get d k = v := by
  induction m with
  | nil => simp [insert, get]
  | cons e t ih =>
    obtain ⟨j, u⟩ := e
    by_cases h : k < j
    · simp [insert, h, get]
    · by_cases g : k = j
      · simp [insert, g, get]
      · simp [insert, h, g, get, ih]

theorem get_insert_other (d : Nat → β) (m : AMap β) {k a : Nat} (v : β) (n : a ≠ k) :
    (insert m k v).get d a = m.get d a := by
  induction m with
  | nil => simp [insert, get, n]
  | cons e t ih =>
    obtain ⟨j, u⟩ := e
    by_cases h : k < j
    · simp [insert, h, get, n]
    · by_cases g : k = j
      · subst g; simp [insert, get, n]
      · by_cases i : a = j
        · simp [insert, h, g, get, i]
        · simp [insert, h, g, get, i, ih]

/-- A read after a write, in every table. -/
@[simp] theorem get_set [DecidableEq β] (d : Nat → β) (m : AMap β) (k a : Nat) (v : β) :
    (m.set d k v).get d a = if a = k then v else m.get d a := by
  by_cases n : a = k
  · subst n
    by_cases h : v = d a
    · simp [set, h, get_erase_same]
    · simp [set, h, get_insert_same]
  · by_cases h : v = d k
    · simp [set, h, get_erase_other d m n, n]
    · simp [set, h, get_insert_other d m v n, n]

@[simp] theorem look_put [DecidableEq β] (m : AMap β) (b : β) (k a : Nat) (v : β) :
    (m.put b k v).look b a = if a = k then v else m.look b a := by
  simp [look, put]

@[simp] theorem look_nil (b : β) (k : Nat) : look ([] : AMap β) b k = b := rfl

theorem wfFrom_mono [DecidableEq β] (d : Nat → β) {lo lo' : Nat} (m : AMap β) (h : lo' ≤ lo) (w : wfFrom d lo m = true) :
    wfFrom d lo' m = true := by
  cases m with
  | nil => rfl
  | cons e t =>
    obtain ⟨j, v⟩ := e
    simp [wfFrom] at w ⊢
    exact ⟨⟨Nat.le_trans h w.1.1, w.1.2⟩, w.2⟩

theorem wfFrom_erase [DecidableEq β] (d : Nat → β) (k : Nat) :
    ∀ (lo : Nat) (m : AMap β), wfFrom d lo m = true → wfFrom d lo (erase m k) = true
  | _, [], _ => rfl
  | lo, (j, v) :: t, w => by
    simp [wfFrom] at w
    by_cases h : k = j
    · simp [erase, h]
      subst h
      exact wfFrom_mono d _ (Nat.le_succ_of_le w.1.1) (wfFrom_erase d k (k + 1) t w.2)
    · simp [erase, h, wfFrom, w.1]
      exact wfFrom_erase d k (j + 1) t w.2

theorem wfFrom_insert [DecidableEq β] (d : Nat → β) (k : Nat) (v : β) (n : v ≠ d k) :
    ∀ (lo : Nat) (m : AMap β), lo ≤ k → wfFrom d lo m = true → wfFrom d lo (insert m k v) = true
  | lo, [], l, _ => by simp [insert, wfFrom, l, n]
  | lo, (j, u) :: t, l, w => by
    simp [wfFrom] at w
    by_cases h : k < j
    · simp [insert, h, wfFrom, l, n, w] <;> omega
    · by_cases g : k = j
      · subst g; simp [insert, wfFrom, l, n, w]
      · simp [insert, h, g, wfFrom, w.1]
        exact wfFrom_insert d k v n (j + 1) t (by omega) w.2

/-- A write keeps the canonical form. -/
theorem wf_set [DecidableEq β] (d : Nat → β) (m : AMap β) (k : Nat) (v : β) (w : m.wf d = true) : (m.set d k v).wf d = true := by
  unfold set wf
  split
  · exact wfFrom_erase d k 0 m w
  · exact wfFrom_insert d k v ‹_› 0 m (Nat.zero_le _) w

end Sys2Proof.Machine.AMap
end

