-- ==== Sys2Proof/Laws/State.lean ====
section
/-! SUPPORT. What each update of the state leaves alone, field by field: a later proof never unfolds a record update. -/
namespace Sys2Proof.Machine

/-! ### setReg -/

@[simp] theorem State.setReg_dies (s : State) (a v : Nat) : (s.setReg a v).dies = s.dies := rfl
@[simp] theorem State.setReg_dram (s : State) (a v : Nat) : (s.setReg a v).dram = s.dram := rfl
@[simp] theorem State.setReg_journal (s : State) (a v : Nat) : (s.setReg a v).journal = s.journal := rfl
@[simp] theorem State.setReg_pending (s : State) (a v : Nat) : (s.setReg a v).pending = s.pending := rfl
@[simp] theorem State.setReg_dev_shadow (s : State) (a v : Nat) : (s.setReg a v).dev.shadow = s.dev.shadow := rfl
@[simp] theorem State.setReg_dev_heldLo (s : State) (a v : Nat) : (s.setReg a v).dev.heldLo = s.dev.heldLo := rfl
@[simp] theorem State.setReg_dev_latchHi (s : State) (a v : Nat) : (s.setReg a v).dev.latchHi = s.dev.latchHi := rfl
@[simp] theorem State.setReg_dev_snap (s : State) (a v : Nat) : (s.setReg a v).dev.snap = s.dev.snap := rfl
@[simp] theorem State.setReg_dev_latched (s : State) (a v : Nat) : (s.setReg a v).dev.latched = s.dev.latched := rfl
@[simp] theorem State.setReg_dev_free (s : State) (a v : Nat) : (s.setReg a v).dev.free = s.dev.free := rfl
@[simp] theorem State.setReg_dev_boot (s : State) (a v : Nat) : (s.setReg a v).dev.boot = s.dev.boot := rfl
@[simp] theorem State.setReg_dev_image (s : State) (a v : Nat) : (s.setReg a v).dev.image = s.dev.image := rfl
@[simp] theorem State.setReg_dev_knot (s : State) (a v : Nat) : (s.setReg a v).dev.knot = s.dev.knot := rfl
@[simp] theorem State.setReg_dev_mem (s : State) (a v : Nat) : (s.setReg a v).dev.mem = s.dev.mem := rfl
@[simp] theorem State.setReg_dev_engines (s : State) (a v : Nat) : (s.setReg a v).dev.engines = s.dev.engines := rfl
@[simp] theorem State.setReg_dev_host (s : State) (a v : Nat) : (s.setReg a v).dev.host = s.dev.host := rfl
@[simp] theorem State.setReg_dev_nvm (s : State) (a v : Nat) : (s.setReg a v).dev.nvm = s.dev.nvm := rfl
@[simp] theorem State.setReg_dev_tb (s : State) (a v : Nat) : (s.setReg a v).dev.tb = s.dev.tb := rfl
@[simp] theorem State.setReg_dev_src (s : State) (a v : Nat) : (s.setReg a v).dev.src = s.dev.src := rfl
@[simp] theorem State.setReg_dev_comp (s : State) (a v : Nat) : (s.setReg a v).dev.comp = s.dev.comp := rfl
@[simp] theorem State.setReg_dev_work (s : State) (a v : Nat) : (s.setReg a v).dev.work = s.dev.work := rfl
@[simp] theorem State.setReg_dev_workOld (s : State) (a v : Nat) : (s.setReg a v).dev.workOld = s.dev.workOld := rfl
@[simp] theorem State.setReg_dev_coil (s : State) (a v : Nat) : (s.setReg a v).dev.coil = s.dev.coil := rfl
@[simp] theorem State.setReg_dev_lamp (s : State) (a v : Nat) : (s.setReg a v).dev.lamp = s.dev.lamp := rfl
@[simp] theorem State.setReg_dev_scan (s : State) (a v : Nat) : (s.setReg a v).dev.scan = s.dev.scan := rfl
@[simp] theorem State.setReg_dev_strands (s : State) (a v : Nat) : (s.setReg a v).dev.strands = s.dev.strands := rfl
@[simp] theorem State.setReg_dev_partners (s : State) (a v : Nat) : (s.setReg a v).dev.partners = s.dev.partners := rfl
@[simp] theorem State.setReg_dev_jobs (s : State) (a v : Nat) : (s.setReg a v).dev.jobs = s.dev.jobs := rfl
@[simp] theorem State.setReg_dev_cal (s : State) (a v : Nat) : (s.setReg a v).dev.cal = s.dev.cal := rfl
@[simp] theorem State.setReg_dev_tap (s : State) (a v : Nat) : (s.setReg a v).dev.tap = s.dev.tap := rfl
@[simp] theorem State.setReg_dev_frozen (s : State) (a v : Nat) : (s.setReg a v).dev.frozen = s.dev.frozen := rfl
@[simp] theorem State.setReg_dev_frozenAct (s : State) (a v : Nat) : (s.setReg a v).dev.frozenAct = s.dev.frozenAct := rfl
@[simp] theorem State.setReg_dev_frozenShape (s : State) (a v : Nat) : (s.setReg a v).dev.frozenShape = s.dev.frozenShape := rfl
@[simp] theorem State.setReg_dev_hold (s : State) (a v : Nat) : (s.setReg a v).dev.hold = s.dev.hold := rfl
@[simp] theorem State.setReg_dev_fuse (s : State) (a v : Nat) : (s.setReg a v).dev.fuse = s.dev.fuse := rfl

/-! ### setSh -/

@[simp] theorem State.setSh_dies (s : State) (a v : Nat) : (s.setSh a v).dies = s.dies := rfl
@[simp] theorem State.setSh_dram (s : State) (a v : Nat) : (s.setSh a v).dram = s.dram := rfl
@[simp] theorem State.setSh_journal (s : State) (a v : Nat) : (s.setSh a v).journal = s.journal := rfl
@[simp] theorem State.setSh_pending (s : State) (a v : Nat) : (s.setSh a v).pending = s.pending := rfl
@[simp] theorem State.setSh_dev_regs (s : State) (a v : Nat) : (s.setSh a v).dev.regs = s.dev.regs := rfl
@[simp] theorem State.setSh_dev_heldLo (s : State) (a v : Nat) : (s.setSh a v).dev.heldLo = s.dev.heldLo := rfl
@[simp] theorem State.setSh_dev_latchHi (s : State) (a v : Nat) : (s.setSh a v).dev.latchHi = s.dev.latchHi := rfl
@[simp] theorem State.setSh_dev_snap (s : State) (a v : Nat) : (s.setSh a v).dev.snap = s.dev.snap := rfl
@[simp] theorem State.setSh_dev_latched (s : State) (a v : Nat) : (s.setSh a v).dev.latched = s.dev.latched := rfl
@[simp] theorem State.setSh_dev_free (s : State) (a v : Nat) : (s.setSh a v).dev.free = s.dev.free := rfl
@[simp] theorem State.setSh_dev_boot (s : State) (a v : Nat) : (s.setSh a v).dev.boot = s.dev.boot := rfl
@[simp] theorem State.setSh_dev_image (s : State) (a v : Nat) : (s.setSh a v).dev.image = s.dev.image := rfl
@[simp] theorem State.setSh_dev_knot (s : State) (a v : Nat) : (s.setSh a v).dev.knot = s.dev.knot := rfl
@[simp] theorem State.setSh_dev_mem (s : State) (a v : Nat) : (s.setSh a v).dev.mem = s.dev.mem := rfl
@[simp] theorem State.setSh_dev_engines (s : State) (a v : Nat) : (s.setSh a v).dev.engines = s.dev.engines := rfl
@[simp] theorem State.setSh_dev_host (s : State) (a v : Nat) : (s.setSh a v).dev.host = s.dev.host := rfl
@[simp] theorem State.setSh_dev_nvm (s : State) (a v : Nat) : (s.setSh a v).dev.nvm = s.dev.nvm := rfl
@[simp] theorem State.setSh_dev_tb (s : State) (a v : Nat) : (s.setSh a v).dev.tb = s.dev.tb := rfl
@[simp] theorem State.setSh_dev_src (s : State) (a v : Nat) : (s.setSh a v).dev.src = s.dev.src := rfl
@[simp] theorem State.setSh_dev_comp (s : State) (a v : Nat) : (s.setSh a v).dev.comp = s.dev.comp := rfl
@[simp] theorem State.setSh_dev_work (s : State) (a v : Nat) : (s.setSh a v).dev.work = s.dev.work := rfl
@[simp] theorem State.setSh_dev_workOld (s : State) (a v : Nat) : (s.setSh a v).dev.workOld = s.dev.workOld := rfl
@[simp] theorem State.setSh_dev_coil (s : State) (a v : Nat) : (s.setSh a v).dev.coil = s.dev.coil := rfl
@[simp] theorem State.setSh_dev_lamp (s : State) (a v : Nat) : (s.setSh a v).dev.lamp = s.dev.lamp := rfl
@[simp] theorem State.setSh_dev_scan (s : State) (a v : Nat) : (s.setSh a v).dev.scan = s.dev.scan := rfl
@[simp] theorem State.setSh_dev_strands (s : State) (a v : Nat) : (s.setSh a v).dev.strands = s.dev.strands := rfl
@[simp] theorem State.setSh_dev_partners (s : State) (a v : Nat) : (s.setSh a v).dev.partners = s.dev.partners := rfl
@[simp] theorem State.setSh_dev_jobs (s : State) (a v : Nat) : (s.setSh a v).dev.jobs = s.dev.jobs := rfl
@[simp] theorem State.setSh_dev_cal (s : State) (a v : Nat) : (s.setSh a v).dev.cal = s.dev.cal := rfl
@[simp] theorem State.setSh_dev_tap (s : State) (a v : Nat) : (s.setSh a v).dev.tap = s.dev.tap := rfl
@[simp] theorem State.setSh_dev_frozen (s : State) (a v : Nat) : (s.setSh a v).dev.frozen = s.dev.frozen := rfl
@[simp] theorem State.setSh_dev_frozenAct (s : State) (a v : Nat) : (s.setSh a v).dev.frozenAct = s.dev.frozenAct := rfl
@[simp] theorem State.setSh_dev_frozenShape (s : State) (a v : Nat) : (s.setSh a v).dev.frozenShape = s.dev.frozenShape := rfl
@[simp] theorem State.setSh_dev_hold (s : State) (a v : Nat) : (s.setSh a v).dev.hold = s.dev.hold := rfl
@[simp] theorem State.setSh_dev_fuse (s : State) (a v : Nat) : (s.setSh a v).dev.fuse = s.dev.fuse := rfl

/-! ### unlatch -/

@[simp] theorem State.unlatch_dies (s : State) (k : Nat) : (s.unlatch k).dies = s.dies := rfl
@[simp] theorem State.unlatch_dram (s : State) (k : Nat) : (s.unlatch k).dram = s.dram := rfl
@[simp] theorem State.unlatch_journal (s : State) (k : Nat) : (s.unlatch k).journal = s.journal := rfl
@[simp] theorem State.unlatch_pending (s : State) (k : Nat) : (s.unlatch k).pending = s.pending := rfl
@[simp] theorem State.unlatch_dev_regs (s : State) (k : Nat) : (s.unlatch k).dev.regs = s.dev.regs := rfl
@[simp] theorem State.unlatch_dev_shadow (s : State) (k : Nat) : (s.unlatch k).dev.shadow = s.dev.shadow := rfl
@[simp] theorem State.unlatch_dev_heldLo (s : State) (k : Nat) : (s.unlatch k).dev.heldLo = s.dev.heldLo := rfl
@[simp] theorem State.unlatch_dev_latchHi (s : State) (k : Nat) : (s.unlatch k).dev.latchHi = s.dev.latchHi := rfl
@[simp] theorem State.unlatch_dev_snap (s : State) (k : Nat) : (s.unlatch k).dev.snap = s.dev.snap := rfl
@[simp] theorem State.unlatch_dev_free (s : State) (k : Nat) : (s.unlatch k).dev.free = s.dev.free := rfl
@[simp] theorem State.unlatch_dev_boot (s : State) (k : Nat) : (s.unlatch k).dev.boot = s.dev.boot := rfl
@[simp] theorem State.unlatch_dev_image (s : State) (k : Nat) : (s.unlatch k).dev.image = s.dev.image := rfl
@[simp] theorem State.unlatch_dev_knot (s : State) (k : Nat) : (s.unlatch k).dev.knot = s.dev.knot := rfl
@[simp] theorem State.unlatch_dev_mem (s : State) (k : Nat) : (s.unlatch k).dev.mem = s.dev.mem := rfl
@[simp] theorem State.unlatch_dev_engines (s : State) (k : Nat) : (s.unlatch k).dev.engines = s.dev.engines := rfl
@[simp] theorem State.unlatch_dev_host (s : State) (k : Nat) : (s.unlatch k).dev.host = s.dev.host := rfl
@[simp] theorem State.unlatch_dev_nvm (s : State) (k : Nat) : (s.unlatch k).dev.nvm = s.dev.nvm := rfl
@[simp] theorem State.unlatch_dev_tb (s : State) (k : Nat) : (s.unlatch k).dev.tb = s.dev.tb := rfl
@[simp] theorem State.unlatch_dev_src (s : State) (k : Nat) : (s.unlatch k).dev.src = s.dev.src := rfl
@[simp] theorem State.unlatch_dev_comp (s : State) (k : Nat) : (s.unlatch k).dev.comp = s.dev.comp := rfl
@[simp] theorem State.unlatch_dev_work (s : State) (k : Nat) : (s.unlatch k).dev.work = s.dev.work := rfl
@[simp] theorem State.unlatch_dev_workOld (s : State) (k : Nat) : (s.unlatch k).dev.workOld = s.dev.workOld := rfl
@[simp] theorem State.unlatch_dev_coil (s : State) (k : Nat) : (s.unlatch k).dev.coil = s.dev.coil := rfl
@[simp] theorem State.unlatch_dev_lamp (s : State) (k : Nat) : (s.unlatch k).dev.lamp = s.dev.lamp := rfl
@[simp] theorem State.unlatch_dev_scan (s : State) (k : Nat) : (s.unlatch k).dev.scan = s.dev.scan := rfl
@[simp] theorem State.unlatch_dev_strands (s : State) (k : Nat) : (s.unlatch k).dev.strands = s.dev.strands := rfl
@[simp] theorem State.unlatch_dev_partners (s : State) (k : Nat) : (s.unlatch k).dev.partners = s.dev.partners := rfl
@[simp] theorem State.unlatch_dev_jobs (s : State) (k : Nat) : (s.unlatch k).dev.jobs = s.dev.jobs := rfl
@[simp] theorem State.unlatch_dev_cal (s : State) (k : Nat) : (s.unlatch k).dev.cal = s.dev.cal := rfl
@[simp] theorem State.unlatch_dev_tap (s : State) (k : Nat) : (s.unlatch k).dev.tap = s.dev.tap := rfl
@[simp] theorem State.unlatch_dev_frozen (s : State) (k : Nat) : (s.unlatch k).dev.frozen = s.dev.frozen := rfl
@[simp] theorem State.unlatch_dev_frozenAct (s : State) (k : Nat) : (s.unlatch k).dev.frozenAct = s.dev.frozenAct := rfl
@[simp] theorem State.unlatch_dev_frozenShape (s : State) (k : Nat) : (s.unlatch k).dev.frozenShape = s.dev.frozenShape := rfl
@[simp] theorem State.unlatch_dev_hold (s : State) (k : Nat) : (s.unlatch k).dev.hold = s.dev.hold := rfl
@[simp] theorem State.unlatch_dev_fuse (s : State) (k : Nat) : (s.unlatch k).dev.fuse = s.dev.fuse := rfl

/-! ### setF, setB, setBitF, clrBitF, count -/

@[simp] theorem State.setF_dies (s : State) (a : Nat) (f : Fd) (x : Nat) : (s.setF a f x).dies = s.dies := rfl
@[simp] theorem State.setF_dram (s : State) (a : Nat) (f : Fd) (x : Nat) : (s.setF a f x).dram = s.dram := rfl
@[simp] theorem State.setF_journal (s : State) (a : Nat) (f : Fd) (x : Nat) : (s.setF a f x).journal = s.journal := rfl
@[simp] theorem State.setF_pending (s : State) (a : Nat) (f : Fd) (x : Nat) : (s.setF a f x).pending = s.pending := rfl
@[simp] theorem State.setF_dev_shadow (s : State) (a : Nat) (f : Fd) (x : Nat) : (s.setF a f x).dev.shadow = s.dev.shadow := rfl
@[simp] theorem State.setF_dev_heldLo (s : State) (a : Nat) (f : Fd) (x : Nat) : (s.setF a f x).dev.heldLo = s.dev.heldLo := rfl
@[simp] theorem State.setF_dev_latchHi (s : State) (a : Nat) (f : Fd) (x : Nat) : (s.setF a f x).dev.latchHi = s.dev.latchHi := rfl
@[simp] theorem State.setF_dev_snap (s : State) (a : Nat) (f : Fd) (x : Nat) : (s.setF a f x).dev.snap = s.dev.snap := rfl
@[simp] theorem State.setF_dev_latched (s : State) (a : Nat) (f : Fd) (x : Nat) : (s.setF a f x).dev.latched = s.dev.latched := rfl
@[simp] theorem State.setF_dev_free (s : State) (a : Nat) (f : Fd) (x : Nat) : (s.setF a f x).dev.free = s.dev.free := rfl
@[simp] theorem State.setF_dev_boot (s : State) (a : Nat) (f : Fd) (x : Nat) : (s.setF a f x).dev.boot = s.dev.boot := rfl
@[simp] theorem State.setF_dev_image (s : State) (a : Nat) (f : Fd) (x : Nat) : (s.setF a f x).dev.image = s.dev.image := rfl
@[simp] theorem State.setF_dev_knot (s : State) (a : Nat) (f : Fd) (x : Nat) : (s.setF a f x).dev.knot = s.dev.knot := rfl
@[simp] theorem State.setF_dev_mem (s : State) (a : Nat) (f : Fd) (x : Nat) : (s.setF a f x).dev.mem = s.dev.mem := rfl
@[simp] theorem State.setF_dev_engines (s : State) (a : Nat) (f : Fd) (x : Nat) : (s.setF a f x).dev.engines = s.dev.engines := rfl
@[simp] theorem State.setF_dev_host (s : State) (a : Nat) (f : Fd) (x : Nat) : (s.setF a f x).dev.host = s.dev.host := rfl
@[simp] theorem State.setF_dev_nvm (s : State) (a : Nat) (f : Fd) (x : Nat) : (s.setF a f x).dev.nvm = s.dev.nvm := rfl
@[simp] theorem State.setF_dev_tb (s : State) (a : Nat) (f : Fd) (x : Nat) : (s.setF a f x).dev.tb = s.dev.tb := rfl
@[simp] theorem State.setF_dev_src (s : State) (a : Nat) (f : Fd) (x : Nat) : (s.setF a f x).dev.src = s.dev.src := rfl
@[simp] theorem State.setF_dev_comp (s : State) (a : Nat) (f : Fd) (x : Nat) : (s.setF a f x).dev.comp = s.dev.comp := rfl
@[simp] theorem State.setF_dev_work (s : State) (a : Nat) (f : Fd) (x : Nat) : (s.setF a f x).dev.work = s.dev.work := rfl
@[simp] theorem State.setF_dev_workOld (s : State) (a : Nat) (f : Fd) (x : Nat) : (s.setF a f x).dev.workOld = s.dev.workOld := rfl
@[simp] theorem State.setF_dev_coil (s : State) (a : Nat) (f : Fd) (x : Nat) : (s.setF a f x).dev.coil = s.dev.coil := rfl
@[simp] theorem State.setF_dev_lamp (s : State) (a : Nat) (f : Fd) (x : Nat) : (s.setF a f x).dev.lamp = s.dev.lamp := rfl
@[simp] theorem State.setF_dev_scan (s : State) (a : Nat) (f : Fd) (x : Nat) : (s.setF a f x).dev.scan = s.dev.scan := rfl
@[simp] theorem State.setF_dev_strands (s : State) (a : Nat) (f : Fd) (x : Nat) : (s.setF a f x).dev.strands = s.dev.strands := rfl
@[simp] theorem State.setF_dev_partners (s : State) (a : Nat) (f : Fd) (x : Nat) : (s.setF a f x).dev.partners = s.dev.partners := rfl
@[simp] theorem State.setF_dev_jobs (s : State) (a : Nat) (f : Fd) (x : Nat) : (s.setF a f x).dev.jobs = s.dev.jobs := rfl
@[simp] theorem State.setF_dev_cal (s : State) (a : Nat) (f : Fd) (x : Nat) : (s.setF a f x).dev.cal = s.dev.cal := rfl
@[simp] theorem State.setF_dev_tap (s : State) (a : Nat) (f : Fd) (x : Nat) : (s.setF a f x).dev.tap = s.dev.tap := rfl
@[simp] theorem State.setF_dev_frozen (s : State) (a : Nat) (f : Fd) (x : Nat) : (s.setF a f x).dev.frozen = s.dev.frozen := rfl
@[simp] theorem State.setF_dev_frozenAct (s : State) (a : Nat) (f : Fd) (x : Nat) : (s.setF a f x).dev.frozenAct = s.dev.frozenAct := rfl
@[simp] theorem State.setF_dev_frozenShape (s : State) (a : Nat) (f : Fd) (x : Nat) : (s.setF a f x).dev.frozenShape = s.dev.frozenShape := rfl
@[simp] theorem State.setF_dev_hold (s : State) (a : Nat) (f : Fd) (x : Nat) : (s.setF a f x).dev.hold = s.dev.hold := rfl
@[simp] theorem State.setF_dev_fuse (s : State) (a : Nat) (f : Fd) (x : Nat) : (s.setF a f x).dev.fuse = s.dev.fuse := rfl

@[simp] theorem State.setB_dies (s : State) (a : Nat) (f : Fd) (x : Bool) : (s.setB a f x).dies = s.dies := rfl
@[simp] theorem State.setB_dram (s : State) (a : Nat) (f : Fd) (x : Bool) : (s.setB a f x).dram = s.dram := rfl
@[simp] theorem State.setB_journal (s : State) (a : Nat) (f : Fd) (x : Bool) : (s.setB a f x).journal = s.journal := rfl
@[simp] theorem State.setB_pending (s : State) (a : Nat) (f : Fd) (x : Bool) : (s.setB a f x).pending = s.pending := rfl
@[simp] theorem State.setB_dev_shadow (s : State) (a : Nat) (f : Fd) (x : Bool) : (s.setB a f x).dev.shadow = s.dev.shadow := rfl
@[simp] theorem State.setB_dev_heldLo (s : State) (a : Nat) (f : Fd) (x : Bool) : (s.setB a f x).dev.heldLo = s.dev.heldLo := rfl
@[simp] theorem State.setB_dev_latchHi (s : State) (a : Nat) (f : Fd) (x : Bool) : (s.setB a f x).dev.latchHi = s.dev.latchHi := rfl
@[simp] theorem State.setB_dev_snap (s : State) (a : Nat) (f : Fd) (x : Bool) : (s.setB a f x).dev.snap = s.dev.snap := rfl
@[simp] theorem State.setB_dev_latched (s : State) (a : Nat) (f : Fd) (x : Bool) : (s.setB a f x).dev.latched = s.dev.latched := rfl
@[simp] theorem State.setB_dev_free (s : State) (a : Nat) (f : Fd) (x : Bool) : (s.setB a f x).dev.free = s.dev.free := rfl
@[simp] theorem State.setB_dev_boot (s : State) (a : Nat) (f : Fd) (x : Bool) : (s.setB a f x).dev.boot = s.dev.boot := rfl
@[simp] theorem State.setB_dev_image (s : State) (a : Nat) (f : Fd) (x : Bool) : (s.setB a f x).dev.image = s.dev.image := rfl
@[simp] theorem State.setB_dev_knot (s : State) (a : Nat) (f : Fd) (x : Bool) : (s.setB a f x).dev.knot = s.dev.knot := rfl
@[simp] theorem State.setB_dev_mem (s : State) (a : Nat) (f : Fd) (x : Bool) : (s.setB a f x).dev.mem = s.dev.mem := rfl
@[simp] theorem State.setB_dev_engines (s : State) (a : Nat) (f : Fd) (x : Bool) : (s.setB a f x).dev.engines = s.dev.engines := rfl
@[simp] theorem State.setB_dev_host (s : State) (a : Nat) (f : Fd) (x : Bool) : (s.setB a f x).dev.host = s.dev.host := rfl
@[simp] theorem State.setB_dev_nvm (s : State) (a : Nat) (f : Fd) (x : Bool) : (s.setB a f x).dev.nvm = s.dev.nvm := rfl
@[simp] theorem State.setB_dev_tb (s : State) (a : Nat) (f : Fd) (x : Bool) : (s.setB a f x).dev.tb = s.dev.tb := rfl
@[simp] theorem State.setB_dev_src (s : State) (a : Nat) (f : Fd) (x : Bool) : (s.setB a f x).dev.src = s.dev.src := rfl
@[simp] theorem State.setB_dev_comp (s : State) (a : Nat) (f : Fd) (x : Bool) : (s.setB a f x).dev.comp = s.dev.comp := rfl
@[simp] theorem State.setB_dev_work (s : State) (a : Nat) (f : Fd) (x : Bool) : (s.setB a f x).dev.work = s.dev.work := rfl
@[simp] theorem State.setB_dev_workOld (s : State) (a : Nat) (f : Fd) (x : Bool) : (s.setB a f x).dev.workOld = s.dev.workOld := rfl
@[simp] theorem State.setB_dev_coil (s : State) (a : Nat) (f : Fd) (x : Bool) : (s.setB a f x).dev.coil = s.dev.coil := rfl
@[simp] theorem State.setB_dev_lamp (s : State) (a : Nat) (f : Fd) (x : Bool) : (s.setB a f x).dev.lamp = s.dev.lamp := rfl
@[simp] theorem State.setB_dev_scan (s : State) (a : Nat) (f : Fd) (x : Bool) : (s.setB a f x).dev.scan = s.dev.scan := rfl
@[simp] theorem State.setB_dev_strands (s : State) (a : Nat) (f : Fd) (x : Bool) : (s.setB a f x).dev.strands = s.dev.strands := rfl
@[simp] theorem State.setB_dev_partners (s : State) (a : Nat) (f : Fd) (x : Bool) : (s.setB a f x).dev.partners = s.dev.partners := rfl
@[simp] theorem State.setB_dev_jobs (s : State) (a : Nat) (f : Fd) (x : Bool) : (s.setB a f x).dev.jobs = s.dev.jobs := rfl
@[simp] theorem State.setB_dev_cal (s : State) (a : Nat) (f : Fd) (x : Bool) : (s.setB a f x).dev.cal = s.dev.cal := rfl
@[simp] theorem State.setB_dev_tap (s : State) (a : Nat) (f : Fd) (x : Bool) : (s.setB a f x).dev.tap = s.dev.tap := rfl
@[simp] theorem State.setB_dev_frozen (s : State) (a : Nat) (f : Fd) (x : Bool) : (s.setB a f x).dev.frozen = s.dev.frozen := rfl
@[simp] theorem State.setB_dev_frozenAct (s : State) (a : Nat) (f : Fd) (x : Bool) : (s.setB a f x).dev.frozenAct = s.dev.frozenAct := rfl
@[simp] theorem State.setB_dev_frozenShape (s : State) (a : Nat) (f : Fd) (x : Bool) : (s.setB a f x).dev.frozenShape = s.dev.frozenShape := rfl
@[simp] theorem State.setB_dev_hold (s : State) (a : Nat) (f : Fd) (x : Bool) : (s.setB a f x).dev.hold = s.dev.hold := rfl
@[simp] theorem State.setB_dev_fuse (s : State) (a : Nat) (f : Fd) (x : Bool) : (s.setB a f x).dev.fuse = s.dev.fuse := rfl

@[simp] theorem State.setBitF_dies (s : State) (a : Nat) (f : Fd) (i : Nat) : (s.setBitF a f i).dies = s.dies := rfl
@[simp] theorem State.setBitF_dram (s : State) (a : Nat) (f : Fd) (i : Nat) : (s.setBitF a f i).dram = s.dram := rfl
@[simp] theorem State.setBitF_journal (s : State) (a : Nat) (f : Fd) (i : Nat) : (s.setBitF a f i).journal = s.journal := rfl
@[simp] theorem State.setBitF_pending (s : State) (a : Nat) (f : Fd) (i : Nat) : (s.setBitF a f i).pending = s.pending := rfl
@[simp] theorem State.setBitF_dev_shadow (s : State) (a : Nat) (f : Fd) (i : Nat) : (s.setBitF a f i).dev.shadow = s.dev.shadow := rfl
@[simp] theorem State.setBitF_dev_heldLo (s : State) (a : Nat) (f : Fd) (i : Nat) : (s.setBitF a f i).dev.heldLo = s.dev.heldLo := rfl
@[simp] theorem State.setBitF_dev_latchHi (s : State) (a : Nat) (f : Fd) (i : Nat) : (s.setBitF a f i).dev.latchHi = s.dev.latchHi := rfl
@[simp] theorem State.setBitF_dev_snap (s : State) (a : Nat) (f : Fd) (i : Nat) : (s.setBitF a f i).dev.snap = s.dev.snap := rfl
@[simp] theorem State.setBitF_dev_latched (s : State) (a : Nat) (f : Fd) (i : Nat) : (s.setBitF a f i).dev.latched = s.dev.latched := rfl
@[simp] theorem State.setBitF_dev_free (s : State) (a : Nat) (f : Fd) (i : Nat) : (s.setBitF a f i).dev.free = s.dev.free := rfl
@[simp] theorem State.setBitF_dev_boot (s : State) (a : Nat) (f : Fd) (i : Nat) : (s.setBitF a f i).dev.boot = s.dev.boot := rfl
@[simp] theorem State.setBitF_dev_image (s : State) (a : Nat) (f : Fd) (i : Nat) : (s.setBitF a f i).dev.image = s.dev.image := rfl
@[simp] theorem State.setBitF_dev_knot (s : State) (a : Nat) (f : Fd) (i : Nat) : (s.setBitF a f i).dev.knot = s.dev.knot := rfl
@[simp] theorem State.setBitF_dev_mem (s : State) (a : Nat) (f : Fd) (i : Nat) : (s.setBitF a f i).dev.mem = s.dev.mem := rfl
@[simp] theorem State.setBitF_dev_engines (s : State) (a : Nat) (f : Fd) (i : Nat) : (s.setBitF a f i).dev.engines = s.dev.engines := rfl
@[simp] theorem State.setBitF_dev_host (s : State) (a : Nat) (f : Fd) (i : Nat) : (s.setBitF a f i).dev.host = s.dev.host := rfl
@[simp] theorem State.setBitF_dev_nvm (s : State) (a : Nat) (f : Fd) (i : Nat) : (s.setBitF a f i).dev.nvm = s.dev.nvm := rfl
@[simp] theorem State.setBitF_dev_tb (s : State) (a : Nat) (f : Fd) (i : Nat) : (s.setBitF a f i).dev.tb = s.dev.tb := rfl
@[simp] theorem State.setBitF_dev_src (s : State) (a : Nat) (f : Fd) (i : Nat) : (s.setBitF a f i).dev.src = s.dev.src := rfl
@[simp] theorem State.setBitF_dev_comp (s : State) (a : Nat) (f : Fd) (i : Nat) : (s.setBitF a f i).dev.comp = s.dev.comp := rfl
@[simp] theorem State.setBitF_dev_work (s : State) (a : Nat) (f : Fd) (i : Nat) : (s.setBitF a f i).dev.work = s.dev.work := rfl
@[simp] theorem State.setBitF_dev_workOld (s : State) (a : Nat) (f : Fd) (i : Nat) : (s.setBitF a f i).dev.workOld = s.dev.workOld := rfl
@[simp] theorem State.setBitF_dev_coil (s : State) (a : Nat) (f : Fd) (i : Nat) : (s.setBitF a f i).dev.coil = s.dev.coil := rfl
@[simp] theorem State.setBitF_dev_lamp (s : State) (a : Nat) (f : Fd) (i : Nat) : (s.setBitF a f i).dev.lamp = s.dev.lamp := rfl
@[simp] theorem State.setBitF_dev_scan (s : State) (a : Nat) (f : Fd) (i : Nat) : (s.setBitF a f i).dev.scan = s.dev.scan := rfl
@[simp] theorem State.setBitF_dev_strands (s : State) (a : Nat) (f : Fd) (i : Nat) : (s.setBitF a f i).dev.strands = s.dev.strands := rfl
@[simp] theorem State.setBitF_dev_partners (s : State) (a : Nat) (f : Fd) (i : Nat) : (s.setBitF a f i).dev.partners = s.dev.partners := rfl
@[simp] theorem State.setBitF_dev_jobs (s : State) (a : Nat) (f : Fd) (i : Nat) : (s.setBitF a f i).dev.jobs = s.dev.jobs := rfl
@[simp] theorem State.setBitF_dev_cal (s : State) (a : Nat) (f : Fd) (i : Nat) : (s.setBitF a f i).dev.cal = s.dev.cal := rfl
@[simp] theorem State.setBitF_dev_tap (s : State) (a : Nat) (f : Fd) (i : Nat) : (s.setBitF a f i).dev.tap = s.dev.tap := rfl
@[simp] theorem State.setBitF_dev_frozen (s : State) (a : Nat) (f : Fd) (i : Nat) : (s.setBitF a f i).dev.frozen = s.dev.frozen := rfl
@[simp] theorem State.setBitF_dev_frozenAct (s : State) (a : Nat) (f : Fd) (i : Nat) : (s.setBitF a f i).dev.frozenAct = s.dev.frozenAct := rfl
@[simp] theorem State.setBitF_dev_frozenShape (s : State) (a : Nat) (f : Fd) (i : Nat) : (s.setBitF a f i).dev.frozenShape = s.dev.frozenShape := rfl
@[simp] theorem State.setBitF_dev_hold (s : State) (a : Nat) (f : Fd) (i : Nat) : (s.setBitF a f i).dev.hold = s.dev.hold := rfl
@[simp] theorem State.setBitF_dev_fuse (s : State) (a : Nat) (f : Fd) (i : Nat) : (s.setBitF a f i).dev.fuse = s.dev.fuse := rfl

@[simp] theorem State.clrBitF_dies (s : State) (a : Nat) (f : Fd) (i : Nat) : (s.clrBitF a f i).dies = s.dies := rfl
@[simp] theorem State.clrBitF_dram (s : State) (a : Nat) (f : Fd) (i : Nat) : (s.clrBitF a f i).dram = s.dram := rfl
@[simp] theorem State.clrBitF_journal (s : State) (a : Nat) (f : Fd) (i : Nat) : (s.clrBitF a f i).journal = s.journal := rfl
@[simp] theorem State.clrBitF_pending (s : State) (a : Nat) (f : Fd) (i : Nat) : (s.clrBitF a f i).pending = s.pending := rfl
@[simp] theorem State.clrBitF_dev_shadow (s : State) (a : Nat) (f : Fd) (i : Nat) : (s.clrBitF a f i).dev.shadow = s.dev.shadow := rfl
@[simp] theorem State.clrBitF_dev_heldLo (s : State) (a : Nat) (f : Fd) (i : Nat) : (s.clrBitF a f i).dev.heldLo = s.dev.heldLo := rfl
@[simp] theorem State.clrBitF_dev_latchHi (s : State) (a : Nat) (f : Fd) (i : Nat) : (s.clrBitF a f i).dev.latchHi = s.dev.latchHi := rfl
@[simp] theorem State.clrBitF_dev_snap (s : State) (a : Nat) (f : Fd) (i : Nat) : (s.clrBitF a f i).dev.snap = s.dev.snap := rfl
@[simp] theorem State.clrBitF_dev_latched (s : State) (a : Nat) (f : Fd) (i : Nat) : (s.clrBitF a f i).dev.latched = s.dev.latched := rfl
@[simp] theorem State.clrBitF_dev_free (s : State) (a : Nat) (f : Fd) (i : Nat) : (s.clrBitF a f i).dev.free = s.dev.free := rfl
@[simp] theorem State.clrBitF_dev_boot (s : State) (a : Nat) (f : Fd) (i : Nat) : (s.clrBitF a f i).dev.boot = s.dev.boot := rfl
@[simp] theorem State.clrBitF_dev_image (s : State) (a : Nat) (f : Fd) (i : Nat) : (s.clrBitF a f i).dev.image = s.dev.image := rfl
@[simp] theorem State.clrBitF_dev_knot (s : State) (a : Nat) (f : Fd) (i : Nat) : (s.clrBitF a f i).dev.knot = s.dev.knot := rfl
@[simp] theorem State.clrBitF_dev_mem (s : State) (a : Nat) (f : Fd) (i : Nat) : (s.clrBitF a f i).dev.mem = s.dev.mem := rfl
@[simp] theorem State.clrBitF_dev_engines (s : State) (a : Nat) (f : Fd) (i : Nat) : (s.clrBitF a f i).dev.engines = s.dev.engines := rfl
@[simp] theorem State.clrBitF_dev_host (s : State) (a : Nat) (f : Fd) (i : Nat) : (s.clrBitF a f i).dev.host = s.dev.host := rfl
@[simp] theorem State.clrBitF_dev_nvm (s : State) (a : Nat) (f : Fd) (i : Nat) : (s.clrBitF a f i).dev.nvm = s.dev.nvm := rfl
@[simp] theorem State.clrBitF_dev_tb (s : State) (a : Nat) (f : Fd) (i : Nat) : (s.clrBitF a f i).dev.tb = s.dev.tb := rfl
@[simp] theorem State.clrBitF_dev_src (s : State) (a : Nat) (f : Fd) (i : Nat) : (s.clrBitF a f i).dev.src = s.dev.src := rfl
@[simp] theorem State.clrBitF_dev_comp (s : State) (a : Nat) (f : Fd) (i : Nat) : (s.clrBitF a f i).dev.comp = s.dev.comp := rfl
@[simp] theorem State.clrBitF_dev_work (s : State) (a : Nat) (f : Fd) (i : Nat) : (s.clrBitF a f i).dev.work = s.dev.work := rfl
@[simp] theorem State.clrBitF_dev_workOld (s : State) (a : Nat) (f : Fd) (i : Nat) : (s.clrBitF a f i).dev.workOld = s.dev.workOld := rfl
@[simp] theorem State.clrBitF_dev_coil (s : State) (a : Nat) (f : Fd) (i : Nat) : (s.clrBitF a f i).dev.coil = s.dev.coil := rfl
@[simp] theorem State.clrBitF_dev_lamp (s : State) (a : Nat) (f : Fd) (i : Nat) : (s.clrBitF a f i).dev.lamp = s.dev.lamp := rfl
@[simp] theorem State.clrBitF_dev_scan (s : State) (a : Nat) (f : Fd) (i : Nat) : (s.clrBitF a f i).dev.scan = s.dev.scan := rfl
@[simp] theorem State.clrBitF_dev_strands (s : State) (a : Nat) (f : Fd) (i : Nat) : (s.clrBitF a f i).dev.strands = s.dev.strands := rfl
@[simp] theorem State.clrBitF_dev_partners (s : State) (a : Nat) (f : Fd) (i : Nat) : (s.clrBitF a f i).dev.partners = s.dev.partners := rfl
@[simp] theorem State.clrBitF_dev_jobs (s : State) (a : Nat) (f : Fd) (i : Nat) : (s.clrBitF a f i).dev.jobs = s.dev.jobs := rfl
@[simp] theorem State.clrBitF_dev_cal (s : State) (a : Nat) (f : Fd) (i : Nat) : (s.clrBitF a f i).dev.cal = s.dev.cal := rfl
@[simp] theorem State.clrBitF_dev_tap (s : State) (a : Nat) (f : Fd) (i : Nat) : (s.clrBitF a f i).dev.tap = s.dev.tap := rfl
@[simp] theorem State.clrBitF_dev_frozen (s : State) (a : Nat) (f : Fd) (i : Nat) : (s.clrBitF a f i).dev.frozen = s.dev.frozen := rfl
@[simp] theorem State.clrBitF_dev_frozenAct (s : State) (a : Nat) (f : Fd) (i : Nat) : (s.clrBitF a f i).dev.frozenAct = s.dev.frozenAct := rfl
@[simp] theorem State.clrBitF_dev_frozenShape (s : State) (a : Nat) (f : Fd) (i : Nat) : (s.clrBitF a f i).dev.frozenShape = s.dev.frozenShape := rfl
@[simp] theorem State.clrBitF_dev_hold (s : State) (a : Nat) (f : Fd) (i : Nat) : (s.clrBitF a f i).dev.hold = s.dev.hold := rfl
@[simp] theorem State.clrBitF_dev_fuse (s : State) (a : Nat) (f : Fd) (i : Nat) : (s.clrBitF a f i).dev.fuse = s.dev.fuse := rfl

@[simp] theorem State.countN_dies (s : State) (a n : Nat) : (s.countN a n).dies = s.dies := rfl
@[simp] theorem State.countN_dram (s : State) (a n : Nat) : (s.countN a n).dram = s.dram := rfl
@[simp] theorem State.countN_journal (s : State) (a n : Nat) : (s.countN a n).journal = s.journal := rfl
@[simp] theorem State.countN_pending (s : State) (a n : Nat) : (s.countN a n).pending = s.pending := rfl
@[simp] theorem State.countN_dev_shadow (s : State) (a n : Nat) : (s.countN a n).dev.shadow = s.dev.shadow := rfl
@[simp] theorem State.countN_dev_heldLo (s : State) (a n : Nat) : (s.countN a n).dev.heldLo = s.dev.heldLo := rfl
@[simp] theorem State.countN_dev_latchHi (s : State) (a n : Nat) : (s.countN a n).dev.latchHi = s.dev.latchHi := rfl
@[simp] theorem State.countN_dev_snap (s : State) (a n : Nat) : (s.countN a n).dev.snap = s.dev.snap := rfl
@[simp] theorem State.countN_dev_latched (s : State) (a n : Nat) : (s.countN a n).dev.latched = s.dev.latched := rfl
@[simp] theorem State.countN_dev_free (s : State) (a n : Nat) : (s.countN a n).dev.free = s.dev.free := rfl
@[simp] theorem State.countN_dev_boot (s : State) (a n : Nat) : (s.countN a n).dev.boot = s.dev.boot := rfl
@[simp] theorem State.countN_dev_image (s : State) (a n : Nat) : (s.countN a n).dev.image = s.dev.image := rfl
@[simp] theorem State.countN_dev_knot (s : State) (a n : Nat) : (s.countN a n).dev.knot = s.dev.knot := rfl
@[simp] theorem State.countN_dev_mem (s : State) (a n : Nat) : (s.countN a n).dev.mem = s.dev.mem := rfl
@[simp] theorem State.countN_dev_engines (s : State) (a n : Nat) : (s.countN a n).dev.engines = s.dev.engines := rfl
@[simp] theorem State.countN_dev_host (s : State) (a n : Nat) : (s.countN a n).dev.host = s.dev.host := rfl
@[simp] theorem State.countN_dev_nvm (s : State) (a n : Nat) : (s.countN a n).dev.nvm = s.dev.nvm := rfl
@[simp] theorem State.countN_dev_tb (s : State) (a n : Nat) : (s.countN a n).dev.tb = s.dev.tb := rfl
@[simp] theorem State.countN_dev_src (s : State) (a n : Nat) : (s.countN a n).dev.src = s.dev.src := rfl
@[simp] theorem State.countN_dev_comp (s : State) (a n : Nat) : (s.countN a n).dev.comp = s.dev.comp := rfl
@[simp] theorem State.countN_dev_work (s : State) (a n : Nat) : (s.countN a n).dev.work = s.dev.work := rfl
@[simp] theorem State.countN_dev_workOld (s : State) (a n : Nat) : (s.countN a n).dev.workOld = s.dev.workOld := rfl
@[simp] theorem State.countN_dev_coil (s : State) (a n : Nat) : (s.countN a n).dev.coil = s.dev.coil := rfl
@[simp] theorem State.countN_dev_lamp (s : State) (a n : Nat) : (s.countN a n).dev.lamp = s.dev.lamp := rfl
@[simp] theorem State.countN_dev_scan (s : State) (a n : Nat) : (s.countN a n).dev.scan = s.dev.scan := rfl
@[simp] theorem State.countN_dev_strands (s : State) (a n : Nat) : (s.countN a n).dev.strands = s.dev.strands := rfl
@[simp] theorem State.countN_dev_partners (s : State) (a n : Nat) : (s.countN a n).dev.partners = s.dev.partners := rfl
@[simp] theorem State.countN_dev_jobs (s : State) (a n : Nat) : (s.countN a n).dev.jobs = s.dev.jobs := rfl
@[simp] theorem State.countN_dev_cal (s : State) (a n : Nat) : (s.countN a n).dev.cal = s.dev.cal := rfl
@[simp] theorem State.countN_dev_tap (s : State) (a n : Nat) : (s.countN a n).dev.tap = s.dev.tap := rfl
@[simp] theorem State.countN_dev_frozen (s : State) (a n : Nat) : (s.countN a n).dev.frozen = s.dev.frozen := rfl
@[simp] theorem State.countN_dev_frozenAct (s : State) (a n : Nat) : (s.countN a n).dev.frozenAct = s.dev.frozenAct := rfl
@[simp] theorem State.countN_dev_frozenShape (s : State) (a n : Nat) : (s.countN a n).dev.frozenShape = s.dev.frozenShape := rfl
@[simp] theorem State.countN_dev_hold (s : State) (a n : Nat) : (s.countN a n).dev.hold = s.dev.hold := rfl
@[simp] theorem State.countN_dev_fuse (s : State) (a n : Nat) : (s.countN a n).dev.fuse = s.dev.fuse := rfl

@[simp] theorem State.count_dies (s : State) (a : Nat) : (s.count a).dies = s.dies := rfl
@[simp] theorem State.count_dram (s : State) (a : Nat) : (s.count a).dram = s.dram := rfl
@[simp] theorem State.count_journal (s : State) (a : Nat) : (s.count a).journal = s.journal := rfl
@[simp] theorem State.count_pending (s : State) (a : Nat) : (s.count a).pending = s.pending := rfl
@[simp] theorem State.count_dev_shadow (s : State) (a : Nat) : (s.count a).dev.shadow = s.dev.shadow := rfl
@[simp] theorem State.count_dev_heldLo (s : State) (a : Nat) : (s.count a).dev.heldLo = s.dev.heldLo := rfl
@[simp] theorem State.count_dev_latchHi (s : State) (a : Nat) : (s.count a).dev.latchHi = s.dev.latchHi := rfl
@[simp] theorem State.count_dev_snap (s : State) (a : Nat) : (s.count a).dev.snap = s.dev.snap := rfl
@[simp] theorem State.count_dev_latched (s : State) (a : Nat) : (s.count a).dev.latched = s.dev.latched := rfl
@[simp] theorem State.count_dev_free (s : State) (a : Nat) : (s.count a).dev.free = s.dev.free := rfl
@[simp] theorem State.count_dev_boot (s : State) (a : Nat) : (s.count a).dev.boot = s.dev.boot := rfl
@[simp] theorem State.count_dev_image (s : State) (a : Nat) : (s.count a).dev.image = s.dev.image := rfl
@[simp] theorem State.count_dev_knot (s : State) (a : Nat) : (s.count a).dev.knot = s.dev.knot := rfl
@[simp] theorem State.count_dev_mem (s : State) (a : Nat) : (s.count a).dev.mem = s.dev.mem := rfl
@[simp] theorem State.count_dev_engines (s : State) (a : Nat) : (s.count a).dev.engines = s.dev.engines := rfl
@[simp] theorem State.count_dev_host (s : State) (a : Nat) : (s.count a).dev.host = s.dev.host := rfl
@[simp] theorem State.count_dev_nvm (s : State) (a : Nat) : (s.count a).dev.nvm = s.dev.nvm := rfl
@[simp] theorem State.count_dev_tb (s : State) (a : Nat) : (s.count a).dev.tb = s.dev.tb := rfl
@[simp] theorem State.count_dev_src (s : State) (a : Nat) : (s.count a).dev.src = s.dev.src := rfl
@[simp] theorem State.count_dev_comp (s : State) (a : Nat) : (s.count a).dev.comp = s.dev.comp := rfl
@[simp] theorem State.count_dev_work (s : State) (a : Nat) : (s.count a).dev.work = s.dev.work := rfl
@[simp] theorem State.count_dev_workOld (s : State) (a : Nat) : (s.count a).dev.workOld = s.dev.workOld := rfl
@[simp] theorem State.count_dev_coil (s : State) (a : Nat) : (s.count a).dev.coil = s.dev.coil := rfl
@[simp] theorem State.count_dev_lamp (s : State) (a : Nat) : (s.count a).dev.lamp = s.dev.lamp := rfl
@[simp] theorem State.count_dev_scan (s : State) (a : Nat) : (s.count a).dev.scan = s.dev.scan := rfl
@[simp] theorem State.count_dev_strands (s : State) (a : Nat) : (s.count a).dev.strands = s.dev.strands := rfl
@[simp] theorem State.count_dev_partners (s : State) (a : Nat) : (s.count a).dev.partners = s.dev.partners := rfl
@[simp] theorem State.count_dev_jobs (s : State) (a : Nat) : (s.count a).dev.jobs = s.dev.jobs := rfl
@[simp] theorem State.count_dev_cal (s : State) (a : Nat) : (s.count a).dev.cal = s.dev.cal := rfl
@[simp] theorem State.count_dev_tap (s : State) (a : Nat) : (s.count a).dev.tap = s.dev.tap := rfl
@[simp] theorem State.count_dev_frozen (s : State) (a : Nat) : (s.count a).dev.frozen = s.dev.frozen := rfl
@[simp] theorem State.count_dev_frozenAct (s : State) (a : Nat) : (s.count a).dev.frozenAct = s.dev.frozenAct := rfl
@[simp] theorem State.count_dev_frozenShape (s : State) (a : Nat) : (s.count a).dev.frozenShape = s.dev.frozenShape := rfl
@[simp] theorem State.count_dev_hold (s : State) (a : Nat) : (s.count a).dev.hold = s.dev.hold := rfl
@[simp] theorem State.count_dev_fuse (s : State) (a : Nat) : (s.count a).dev.fuse = s.dev.fuse := rfl

@[simp] theorem State.countF_dies (s : State) (a : Nat) (f : Fd) (n : Nat) : (s.countF a f n).dies = s.dies := rfl
@[simp] theorem State.countF_dram (s : State) (a : Nat) (f : Fd) (n : Nat) : (s.countF a f n).dram = s.dram := rfl
@[simp] theorem State.countF_journal (s : State) (a : Nat) (f : Fd) (n : Nat) : (s.countF a f n).journal = s.journal := rfl
@[simp] theorem State.countF_pending (s : State) (a : Nat) (f : Fd) (n : Nat) : (s.countF a f n).pending = s.pending := rfl
@[simp] theorem State.countF_dev_shadow (s : State) (a : Nat) (f : Fd) (n : Nat) : (s.countF a f n).dev.shadow = s.dev.shadow := rfl
@[simp] theorem State.countF_dev_heldLo (s : State) (a : Nat) (f : Fd) (n : Nat) : (s.countF a f n).dev.heldLo = s.dev.heldLo := rfl
@[simp] theorem State.countF_dev_latchHi (s : State) (a : Nat) (f : Fd) (n : Nat) : (s.countF a f n).dev.latchHi = s.dev.latchHi := rfl
@[simp] theorem State.countF_dev_snap (s : State) (a : Nat) (f : Fd) (n : Nat) : (s.countF a f n).dev.snap = s.dev.snap := rfl
@[simp] theorem State.countF_dev_latched (s : State) (a : Nat) (f : Fd) (n : Nat) : (s.countF a f n).dev.latched = s.dev.latched := rfl
@[simp] theorem State.countF_dev_free (s : State) (a : Nat) (f : Fd) (n : Nat) : (s.countF a f n).dev.free = s.dev.free := rfl
@[simp] theorem State.countF_dev_boot (s : State) (a : Nat) (f : Fd) (n : Nat) : (s.countF a f n).dev.boot = s.dev.boot := rfl
@[simp] theorem State.countF_dev_image (s : State) (a : Nat) (f : Fd) (n : Nat) : (s.countF a f n).dev.image = s.dev.image := rfl
@[simp] theorem State.countF_dev_knot (s : State) (a : Nat) (f : Fd) (n : Nat) : (s.countF a f n).dev.knot = s.dev.knot := rfl
@[simp] theorem State.countF_dev_mem (s : State) (a : Nat) (f : Fd) (n : Nat) : (s.countF a f n).dev.mem = s.dev.mem := rfl
@[simp] theorem State.countF_dev_engines (s : State) (a : Nat) (f : Fd) (n : Nat) : (s.countF a f n).dev.engines = s.dev.engines := rfl
@[simp] theorem State.countF_dev_host (s : State) (a : Nat) (f : Fd) (n : Nat) : (s.countF a f n).dev.host = s.dev.host := rfl
@[simp] theorem State.countF_dev_nvm (s : State) (a : Nat) (f : Fd) (n : Nat) : (s.countF a f n).dev.nvm = s.dev.nvm := rfl
@[simp] theorem State.countF_dev_tb (s : State) (a : Nat) (f : Fd) (n : Nat) : (s.countF a f n).dev.tb = s.dev.tb := rfl
@[simp] theorem State.countF_dev_src (s : State) (a : Nat) (f : Fd) (n : Nat) : (s.countF a f n).dev.src = s.dev.src := rfl
@[simp] theorem State.countF_dev_comp (s : State) (a : Nat) (f : Fd) (n : Nat) : (s.countF a f n).dev.comp = s.dev.comp := rfl
@[simp] theorem State.countF_dev_work (s : State) (a : Nat) (f : Fd) (n : Nat) : (s.countF a f n).dev.work = s.dev.work := rfl
@[simp] theorem State.countF_dev_workOld (s : State) (a : Nat) (f : Fd) (n : Nat) : (s.countF a f n).dev.workOld = s.dev.workOld := rfl
@[simp] theorem State.countF_dev_coil (s : State) (a : Nat) (f : Fd) (n : Nat) : (s.countF a f n).dev.coil = s.dev.coil := rfl
@[simp] theorem State.countF_dev_lamp (s : State) (a : Nat) (f : Fd) (n : Nat) : (s.countF a f n).dev.lamp = s.dev.lamp := rfl
@[simp] theorem State.countF_dev_scan (s : State) (a : Nat) (f : Fd) (n : Nat) : (s.countF a f n).dev.scan = s.dev.scan := rfl
@[simp] theorem State.countF_dev_strands (s : State) (a : Nat) (f : Fd) (n : Nat) : (s.countF a f n).dev.strands = s.dev.strands := rfl
@[simp] theorem State.countF_dev_partners (s : State) (a : Nat) (f : Fd) (n : Nat) : (s.countF a f n).dev.partners = s.dev.partners := rfl
@[simp] theorem State.countF_dev_jobs (s : State) (a : Nat) (f : Fd) (n : Nat) : (s.countF a f n).dev.jobs = s.dev.jobs := rfl
@[simp] theorem State.countF_dev_cal (s : State) (a : Nat) (f : Fd) (n : Nat) : (s.countF a f n).dev.cal = s.dev.cal := rfl
@[simp] theorem State.countF_dev_tap (s : State) (a : Nat) (f : Fd) (n : Nat) : (s.countF a f n).dev.tap = s.dev.tap := rfl
@[simp] theorem State.countF_dev_frozen (s : State) (a : Nat) (f : Fd) (n : Nat) : (s.countF a f n).dev.frozen = s.dev.frozen := rfl
@[simp] theorem State.countF_dev_frozenAct (s : State) (a : Nat) (f : Fd) (n : Nat) : (s.countF a f n).dev.frozenAct = s.dev.frozenAct := rfl
@[simp] theorem State.countF_dev_frozenShape (s : State) (a : Nat) (f : Fd) (n : Nat) : (s.countF a f n).dev.frozenShape = s.dev.frozenShape := rfl
@[simp] theorem State.countF_dev_hold (s : State) (a : Nat) (f : Fd) (n : Nat) : (s.countF a f n).dev.hold = s.dev.hold := rfl
@[simp] theorem State.countF_dev_fuse (s : State) (a : Nat) (f : Fd) (n : Nat) : (s.countF a f n).dev.fuse = s.dev.fuse := rfl

/-! ### run, runDev -/

@[simp] theorem State.run_dies (s : State) (f : State → State) : (s.run f).dies = s.dies := rfl
@[simp] theorem State.run_pending (s : State) (f : State → State) : (s.run f).pending = s.pending := rfl
@[simp] theorem State.run_journal (s : State) (f : State → State) : (s.run f).journal = [] := rfl
@[simp] theorem State.run_dev (s : State) (f : State → State) : (s.run f).dev = (f { s with journal := [] }).dev := rfl
@[simp] theorem State.runDev_dies (s : State) (f : State → State) : (s.runDev f).dies = s.dies := rfl
@[simp] theorem State.runDev_pending (s : State) (f : State → State) : (s.runDev f).pending = s.pending := rfl
@[simp] theorem State.runDev_journal (s : State) (f : State → State) : (s.runDev f).journal = [] := rfl
@[simp] theorem State.runDev_dev (s : State) (f : State → State) : (s.runDev f).dev = (f { s with journal := [] }).dev := rfl
@[simp] theorem State.runDev_dram (s : State) (f : State → State) : (s.runDev f).dram = s.dram := rfl

end Sys2Proof.Machine
end

