-- ==== Sys2Proof/Laws/Ops.lean ====
section
/-! SUPPORT. Laws of the shared operations of Machine/Ops.lean: registers and fields (a read after a write), DRAM (the canonical form
and what a commit changes), and what `run` and `runDev` can do. -/
namespace Sys2Proof.Machine

/-! ### Registers -/

theorem State.regW_setReg (s : State) (a v b : Nat) :
    (s.setReg a v).regW b = if b = a then BitVec.ofNat 32 v else s.regW b := by
  simp [State.regW, State.setReg]

@[simp] theorem State.reg_setReg_same (s : State) (a v : Nat) : (s.setReg a v).reg a = v % 2 ^ 32 := by
  simp [State.reg, State.regW_setReg]

@[simp] theorem State.reg_setReg_other (s : State) {a b : Nat} (v : Nat) (n : b ≠ a) : (s.setReg a v).reg b = s.reg b := by
  simp [State.reg, State.regW_setReg, n]

@[simp] theorem State.regW_setSh (s : State) (a v b : Nat) : (s.setSh a v).regW b = s.regW b := rfl

@[simp] theorem State.reg_setSh (s : State) (a v b : Nat) : (s.setSh a v).reg b = s.reg b := rfl

@[simp] theorem State.shW_setReg (s : State) (a v b : Nat) : (s.setReg a v).shW b = s.shW b := rfl

theorem State.shW_setSh (s : State) (a v b : Nat) :
    (s.setSh a v).shW b = if b = a then BitVec.ofNat 32 v else s.shW b := by
  simp [State.shW, State.setSh]

theorem State.reg_lt (s : State) (a : Nat) : s.reg a < 2 ^ 32 := (s.regW a).isLt

/-! ### Fields -/

theorem Fd.get_le (f : Fd) (v : Nat) : f.get v * 2 ^ f.lsb ≤ v := by
  unfold Fd.get
  exact Nat.le_trans (Nat.mul_le_mul_right _ (Nat.mod_le _ _)) (Nat.div_mul_le_self _ _)

theorem Fd.get_lt (f : Fd) (v : Nat) : f.get v < 2 ^ f.w := Nat.mod_lt _ (Nat.two_pow_pos _)

/-- A number as the bits below a field, the field, and the bits above it. -/
theorem Fd.split (f : Fd) (v : Nat) :
    v = v % 2 ^ f.lsb + 2 ^ f.lsb * (f.get v + 2 ^ f.w * (v / 2 ^ f.lsb / 2 ^ f.w)) := by
  have h1 := Nat.mod_add_div v (2 ^ f.lsb)
  have h2 := Nat.mod_add_div (v / 2 ^ f.lsb) (2 ^ f.w)
  unfold Fd.get
  rw [h2]; exact h1.symm

theorem Fd.put_eq (f : Fd) (v x : Nat) :
    f.put v x = v % 2 ^ f.lsb + 2 ^ f.lsb * (x % 2 ^ f.w + 2 ^ f.w * (v / 2 ^ f.lsb / 2 ^ f.w)) := by
  have h := f.split v
  unfold Fd.put
  generalize f.get v = g at *
  generalize v / 2 ^ f.lsb / 2 ^ f.w = q at *
  generalize v % 2 ^ f.lsb = r at *
  subst h
  rw [Nat.mul_add, Nat.mul_add, Nat.mul_comm g, Nat.mul_comm (x % 2 ^ f.w)]
  omega

theorem Fd.get_put (f : Fd) (v x : Nat) : f.get (f.put v x) = x % 2 ^ f.w := by
  rw [Fd.put_eq]
  unfold Fd.get
  rw [Nat.add_mul_div_left _ _ (Nat.two_pow_pos _), Nat.div_eq_of_lt (Nat.mod_lt _ (Nat.two_pow_pos _)), Nat.zero_add,
    Nat.add_mul_mod_self_left, Nat.mod_mod]

theorem Fd.put_lt (f : Fd) (v x n : Nat) (h : f.lsb + f.w ≤ n) (l : v < 2 ^ n) : f.put v x < 2 ^ n := by
  rw [Fd.put_eq]
  obtain ⟨k, rfl⟩ := Nat.exists_eq_add_of_le h
  have hq : v / 2 ^ f.lsb / 2 ^ f.w < 2 ^ k := by
    rw [Nat.div_div_eq_div_mul, ← Nat.pow_add]
    exact Nat.div_lt_of_lt_mul (by rw [← Nat.pow_add]; exact l)
  have hr : v % 2 ^ f.lsb < 2 ^ f.lsb := Nat.mod_lt _ (Nat.two_pow_pos _)
  have hx : x % 2 ^ f.w < 2 ^ f.w := Nat.mod_lt _ (Nat.two_pow_pos _)
  have e : 2 ^ (f.lsb + f.w + k) = 2 ^ f.lsb * (2 ^ f.w * 2 ^ k) := by rw [Nat.pow_add, Nat.pow_add, Nat.mul_assoc]
  rw [e]
  have h3 : x % 2 ^ f.w + 2 ^ f.w * (v / 2 ^ f.lsb / 2 ^ f.w) + 1 ≤ 2 ^ f.w * 2 ^ k := by
    have h4 : 2 ^ f.w * (v / 2 ^ f.lsb / 2 ^ f.w + 1) ≤ 2 ^ f.w * 2 ^ k := Nat.mul_le_mul_left _ hq
    rw [Nat.mul_add] at h4
    omega
  have h5 := Nat.mul_le_mul_left (2 ^ f.lsb) h3
  rw [Nat.mul_add] at h5
  omega

/-- A field that lies below another keeps its value when the other is written. -/
theorem Fd.get_put_below (f g : Fd) (v x : Nat) (h : g.lsb + g.w ≤ f.lsb) : g.get (f.put v x) = g.get v := by
  have hs := f.split v
  rw [Fd.put_eq]
  generalize x % 2 ^ f.w + 2 ^ f.w * (v / 2 ^ f.lsb / 2 ^ f.w) = y
  have e : ∀ z, g.get (v % 2 ^ f.lsb + 2 ^ f.lsb * z) = g.get (v % 2 ^ f.lsb) := by
    intro z
    obtain ⟨k, hk⟩ := Nat.exists_eq_add_of_le h
    unfold Fd.get
    rw [hk, Nat.pow_add, Nat.pow_add, Nat.mul_assoc, Nat.mul_assoc, Nat.add_mul_div_left _ _ (Nat.two_pow_pos _),
      Nat.mul_assoc, Nat.add_mul_mod_self_left]
  rw [e]
  exact ((congrArg g.get hs).trans (e _)).symm

/-- A field that lies above another keeps its value when the other is written. -/
theorem Fd.get_put_above (f g : Fd) (v x : Nat) (h : f.lsb + f.w ≤ g.lsb) : g.get (f.put v x) = g.get v := by
  have e : ∀ u, u / 2 ^ g.lsb = u / 2 ^ f.lsb / 2 ^ f.w / 2 ^ (g.lsb - (f.lsb + f.w)) := by
    intro u
    rw [Nat.div_div_eq_div_mul, Nat.div_div_eq_div_mul, ← Nat.pow_add, ← Nat.pow_add]
    congr 2; omega
  unfold Fd.get
  rw [e (f.put v x), e v, Fd.put_eq, Nat.add_mul_div_left _ _ (Nat.two_pow_pos _),
    Nat.div_eq_of_lt (Nat.mod_lt _ (Nat.two_pow_pos _)), Nat.zero_add, Nat.add_mul_div_left _ _ (Nat.two_pow_pos _),
    Nat.div_eq_of_lt (Nat.mod_lt _ (Nat.two_pow_pos _)), Nat.zero_add]

theorem Fd.get_put_apart (f g : Fd) (v x : Nat) (h : g.lsb + g.w ≤ f.lsb ∨ f.lsb + f.w ≤ g.lsb) :
    g.get (f.put v x) = g.get v :=
  h.elim (f.get_put_below g v x) (f.get_put_above g v x)

theorem State.reg_setF_same (s : State) (a : Nat) (f : Fd) (x : Nat) (h : f.lsb + f.w ≤ 32) :
    (s.setF a f x).reg a = f.put (s.reg a) x := by
  rw [State.setF, State.reg_setReg_same, Nat.mod_eq_of_lt (f.put_lt _ _ 32 h (s.reg_lt a))]

@[simp] theorem State.reg_setF_other (s : State) {a b : Nat} (f : Fd) (x : Nat) (n : b ≠ a) : (s.setF a f x).reg b = s.reg b := by
  simp [State.setF, n]

/-- A field reads as written, to its width. -/
theorem State.f_setF_same (s : State) (a : Nat) (f : Fd) (x : Nat) (h : f.lsb + f.w ≤ 32) : (s.setF a f x).f a f = x % 2 ^ f.w := by
  rw [State.f, State.reg_setF_same s a f x h, Fd.get_put]

/-- Fields of other registers keep their values. -/
@[simp] theorem State.f_setF_reg (s : State) {a b : Nat} (f g : Fd) (x : Nat) (n : b ≠ a) : (s.setF a f x).f b g = s.f b g := by
  simp [State.f, n]

/-- Fields of the same register that do not overlap keep their values. -/
theorem State.f_setF_apart (s : State) (a : Nat) (f g : Fd) (x : Nat) (h : f.lsb + f.w ≤ 32)
    (d : g.lsb + g.w ≤ f.lsb ∨ f.lsb + f.w ≤ g.lsb) : (s.setF a f x).f a g = s.f a g := by
  rw [State.f, State.reg_setF_same s a f x h, Fd.get_put_apart f g _ _ d]; rfl

@[simp] theorem State.reg_setB_other (s : State) {a b : Nat} (f : Fd) (x : Bool) (n : b ≠ a) : (s.setB a f x).reg b = s.reg b := by
  simp [State.setB, n]

@[simp] theorem State.reg_setBitF_other (s : State) {a b : Nat} (f : Fd) (i : Nat) (n : b ≠ a) :
    (s.setBitF a f i).reg b = s.reg b := by
  simp [State.setBitF, n]

@[simp] theorem State.reg_clrBitF_other (s : State) {a b : Nat} (f : Fd) (i : Nat) (n : b ≠ a) :
    (s.clrBitF a f i).reg b = s.reg b := by
  simp [State.clrBitF, n]

@[simp] theorem State.reg_countN_other (s : State) {a b : Nat} (n : Nat) (h : b ≠ a) : (s.countN a n).reg b = s.reg b := by
  simp [State.countN, h]

theorem State.reg_countN_same (s : State) (a n : Nat) : (s.countN a n).reg a = min 0xFFFFFFFF (s.reg a + n) := by
  simp [State.countN] <;> omega

@[simp] theorem State.reg_count_other (s : State) {a b : Nat} (h : b ≠ a) : (s.count a).reg b = s.reg b := by
  simp [State.count, h]

/-! ### DRAM -/

/-- What DRAM holds at an address: the listed byte, else 0 (notes/assumptions/5.md). -/
theorem dramCommit_wf (m : List Host.Cell) (w : AMap.wf (fun _ => (0 : Byte)) m = true) :
    ∀ j : List Host.Cell, AMap.wf (fun _ => (0 : Byte)) (dramCommit m j) = true
  | [] => w
  | (a, b) :: t => AMap.wf_set _ _ a b (dramCommit_wf m w t)

/-- A commit changes only the addresses of its journal. -/
theorem dramCommit_get (m : List Host.Cell) (x : Nat) :
    ∀ j : List Host.Cell, (∀ e ∈ j, e.1 ≠ x) → AMap.get (fun _ => (0 : Byte)) (dramCommit m j) x = AMap.get (fun _ => 0) m x
  | [], _ => rfl
  | (a, b) :: t, h => by
    have n : x ≠ a := fun e => h (a, b) (by simp) e.symm
    have ih := dramCommit_get m x t (fun e he => h e (by simp [he]))
    rw [dramCommit, dramSet, AMap.get_set, if_neg n, ih]

/-! ### run and runDev -/

/-- Everything `runDev` can do: the part other than its DRAM, its die count and its queue. -/
theorem State.runDev_spec (s : State) (f : State → State) :
    ∃ d, s.runDev f = { s with dev := d, journal := [] } := ⟨_, rfl⟩

/-- Everything `run` can do: as `runDev`, and DRAM by a journal of writes. -/
theorem State.run_spec (s : State) (f : State → State) :
    ∃ d j, s.run f = { s with dev := d, dram := dramCommit s.dram j, journal := [] } := ⟨_, _, rfl⟩

/-- `run` keeps the canonical form of DRAM. -/
theorem State.run_wf (s : State) (f : State → State) (w : AMap.wf (fun _ => (0 : Byte)) s.dram = true) :
    AMap.wf (fun _ => (0 : Byte)) (s.run f).dram = true := dramCommit_wf _ w _

end Sys2Proof.Machine
end

