-- ==== Sys2Proof/Laws/Engine.lean ====
section
/-! SUPPORT. Laws of the pixel engines: what a write of a vector register, the accumulators or the predicates changes, what `issue`
leaves alone, and what `onEngine` can do. -/
namespace Sys2Proof.Machine

/-! ### Writes of four lanes -/

theorem put4_look {β : Type} [DecidableEq β] (m : AMap β) (b : β) (o : Nat) (f : Nat → β) (a : Nat) :
    ((List.range 4).foldl (fun v k => v.put b (o + k) (f k)) m).look b a =
      if o ≤ a ∧ a < o + 4 then f (a - o) else m.look b a := by
  have h : List.range 4 = [0, 1, 2, 3] := rfl
  simp only [h, List.foldl, AMap.look_put, Nat.add_zero]
  by_cases c : o ≤ a ∧ a < o + 4
  · have : a = o ∨ a = o + 1 ∨ a = o + 2 ∨ a = o + 3 := by omega
    rcases this with rfl | rfl | rfl | rfl <;> simp
  · have h0 : a ≠ o := by omega
    have h1 : a ≠ o + 1 := by omega
    have h2 : a ≠ o + 2 := by omega
    have h3 : a ≠ o + 3 := by omega
    simp [c, h0, h1, h2, h3]

theorem Engine.vl_setV_same (e : Engine) (r k : Nat) (f : Nat → Word) (h : k < 4) : (e.setV r f).vl r k = f k := by
  simp [Engine.vl, Engine.setV, put4_look, h]

theorem Engine.vl_setV_other (e : Engine) {r q : Nat} (k : Nat) (f : Nat → Word) (h : k < 4) (n : q ≠ r) :
    (e.setV r f).vl q k = e.vl q k := by
  have : ¬ (4 * r ≤ 4 * q + k ∧ 4 * q + k < 4 * r + 4) := by omega
  simp [Engine.vl, Engine.setV, put4_look, this]

theorem Engine.al_setAcc (e : Engine) (k : Nat) (f : Nat → Int) (h : k < 4) :
    (e.setAcc f).al k = clampI (-(2 ^ 63)) (2 ^ 63 - 1) (f k) := by
  have := put4_look e.acc 0 0 (fun k => clampI (-(2 ^ 63)) (2 ^ 63 - 1) (f k)) k
  simp only [Nat.zero_add, Nat.zero_le, true_and, h, if_true, Nat.sub_zero] at this
  exact this

theorem Engine.pl_setP (e : Engine) (k : Nat) (f : Nat → Bool) (h : k < 4) : (e.setP f).pl k = f k := by
  have := put4_look e.p false 0 f k
  simp only [Nat.zero_add, Nat.zero_le, true_and, h, if_true, Nat.sub_zero] at this
  exact this

theorem Engine.sr_setS (e : Engine) (r q : Nat) (w : Word) : (e.setS r w).sr q = if q = r then w else e.sr q := by
  simp [Engine.sr, Engine.setS]

/-! ### Engines of the part -/

@[simp] theorem State.engine_setEngine (s : State) (x y : Nat) (e : Engine) :
    (s.setEngine x e).engine y = if y = x then e else s.engine y := by
  simp [State.engine, State.setEngine]

@[simp] theorem State.engine_countN (s : State) (a n x : Nat) : (s.countN a n).engine x = s.engine x := rfl

@[simp] theorem State.regW_setEngine (s : State) (x a : Nat) (e : Engine) : (s.setEngine x e).regW a = s.regW a := rfl

theorem State.regW_countN_zero (s : State) (a b : Nat) : (s.countN a 0).regW b = s.regW b := by
  rw [State.countN, State.regW_setReg]
  split
  · subst b
    have h := s.reg_lt a
    have : min 0xFFFFFFFF (s.reg a + 0) = s.reg a := by omega
    rw [this, State.reg, BitVec.ofNat_toNat, BitVec.setWidth_eq]
  · rfl

/-- Everything `onEngine` does on an engine that executes. -/
theorem State.onEngine_run (s : State) (eng : Nat) (f : Tabs → Engine → Engine) (h : s.engineRuns eng = true) :
    s.onEngine eng true f =
      ((s.setEngine eng (f (s.tabs (eng / 128) (eng % 128 / 16)) { s.engine eng with clips := 0, accErr := 0 })).countN
        (LAMP_CLIP_CNT (eng / 128)) (f (s.tabs (eng / 128) (eng % 128 / 16)) { s.engine eng with clips := 0, accErr := 0 }).clips).countN
        (PE_ACC_ERR (eng / 128)) (f (s.tabs (eng / 128) (eng % 128 / 16)) { s.engine eng with clips := 0, accErr := 0 }).accErr := by
  simp [State.onEngine, h]

/-- An engine that does not execute stays as it is. -/
theorem State.onEngine_idle (s : State) (eng : Nat) (ok : Bool) (f : Tabs → Engine → Engine) (h : s.engineRuns eng = false) :
    s.onEngine eng ok f = s := by
  simp [State.onEngine, h]

/-- The counts of the instruction before do not matter to a wait. -/
theorem Engine.await_clean (e : Engine) (l : List Nat) :
    ({ e with clips := 0, accErr := 0 }.await l) = { e.await l with clips := 0, accErr := 0 } := by
  unfold Engine.await
  simp only
  generalize e.pend.filter _ = q
  induction q generalizing e with
  | nil => rfl
  | cons r t ih => simp only [List.foldl]; rw [← ih]; rfl

/-- What a wait for pending results leaves alone. -/
theorem Engine.await_keep (e : Engine) (l : List Nat) : (e.await l).clips = e.clips ∧ (e.await l).accErr = e.accErr ∧ (e.await l).pc = e.pc ∧
   (e.await l).acc = e.acc ∧ (e.await l).p = e.p ∧ (e.await l).sc = e.sc ∧ (e.await l).pad = e.pad ∧ (e.await l).slot = e.slot := by
  unfold Engine.await
  generalize e.pend.filter _ = q
  induction q generalizing e with
  | nil => simp
  | cons r t ih =>
    simp only [List.foldl]
    have := ih { e.deliver r with hs := max e.hs r.ready }
    simpa [Engine.deliver, Engine.setV] using this


theorem State.regW_countN_if (s : State) (a b n : Nat) (h : n = 0 ∨ b ≠ a) : (s.countN a n).regW b = s.regW b := by
  rcases h with rfl | h
  · exact s.regW_countN_zero a b
  · rw [State.countN, State.regW_setReg, if_neg h]

/-- An instruction that is `onEngine` of a function: what it does to the engine, and that it changes nothing else. -/
theorem State.onEngine_completes (s : State) (c : Instr) (eng : Nat) (f : Tabs → Engine → Engine) (but : List Nat)
    (P : State → Prop) (hr : s.engineRuns eng = true)
    (hx : exec c s = .next (s.runDev (·.onEngine eng true f)) ∨ exec c s = .next (s.run (·.onEngine eng true f)))
    (e : Engine) (he : f (s.tabs (eng / 128) (eng % 128 / 16)) { s.engine eng with clips := 0, accErr := 0 } = e)
    (hb : LAMP_CLIP_CNT (eng/128) ∈ but ∨ e.clips = 0)
    (hb2 : PE_ACC_ERR (eng/128) ∈ but ∨ e.accErr = 0)
    (hp : ∀ t, t.engine eng = e → KeepsButEngine s t eng but → P t) : Completes c s P := by
  have key : ∀ t : State, t.dram = s.dram → t.dies = s.dies → t.pending = s.pending →
      t.dev = (({ s with journal := [] } : State).onEngine eng true f).dev → P t := by
    intro t h1 h2 h3 h4
    rw [State.onEngine_run _ _ _ (by exact hr)] at h4
    have hee : f (({ s with journal := [] } : State).tabs (eng / 128) (eng % 128 / 16)) { ({ s with journal := [] } : State).engine eng with clips := 0, accErr := 0 } = e := he
    rw [hee] at h4
    have e4 : ∀ x, t.engine x = if x = eng then e else s.engine x := by
      intro x
      have : t.engine x = ((({ s with journal := [] } : State).setEngine eng e)).engine x := by
        unfold State.engine; rw [h4]; rfl
      rw [this, State.engine_setEngine]; rfl
    apply hp t
    · rw [e4, if_pos rfl]
    · refine ⟨⟨?_, ?_, h2, h3, ?_⟩, ?_⟩
      · intro a; unfold State.dramByte; rw [h1]
      · intro a ha
        have : t.regW a = (((({ s with journal := [] } : State).setEngine eng e).countN (LAMP_CLIP_CNT (eng / 128)) e.clips).countN (PE_ACC_ERR (eng / 128)) e.accErr).regW a := by
          unfold State.regW; rw [h4, h2]; rfl
        rw [this, State.regW_countN_if, State.regW_countN_if]; rfl
        · rcases hb with h | h
          · right; rintro rfl; exact ha h
          · left; exact h
        · rcases hb2 with h | h
          · right; rintro rfl; exact ha h
          · left; exact h
      · rw [h4]; simp only [State.countN, State.setReg, State.setEngine]
      · intro x hx; rw [e4, if_neg hx]
  rcases hx with h | h
  · exact ⟨_, h, key _ rfl rfl rfl rfl⟩
  · refine ⟨_, h, key _ ?_ rfl rfl rfl⟩
    show dramCommit s.dram (State.onEngine _ eng true f).journal = s.dram
    rw [State.onEngine_run _ _ _ (by exact hr)]; rfl

/-- An instruction that waits for its sources and writes the lanes of VD. -/
theorem State.onEngine_vector (s : State) (c : Instr) (eng vd : Nat) (srcs : List Nat) (cost : Nat) (but : List Nat) (lane : Nat → Word)
    (g : Tabs → Engine → Nat → Word) (cl ae : Tabs → Engine → Nat)
    (hr : s.engineRuns eng = true)
    (hx : exec c s = .next (s.runDev (·.onEngine eng true fun t e => { ((e.issue srcs cost).setV vd (g t (e.issue srcs cost))) with clips := (e.issue srcs cost).clips + cl t (e.issue srcs cost), accErr := (e.issue srcs cost).accErr + ae t (e.issue srcs cost) })) ∨ exec c s = .next (s.run (·.onEngine eng true fun t e => { ((e.issue srcs cost).setV vd (g t (e.issue srcs cost))) with clips := (e.issue srcs cost).clips + cl t (e.issue srcs cost), accErr := (e.issue srcs cost).accErr + ae t (e.issue srcs cost) })))
    (hb : LAMP_CLIP_CNT (eng/128) ∈ but ∨ ∀ t e, cl t e = 0)
    (hb2 : PE_ACC_ERR (eng/128) ∈ but ∨ ∀ t e, ae t e = 0)
    (hl : ∀ e' : Engine, e' = { s.waited eng srcs with clips := 0, accErr := 0, hs := (s.waited eng srcs).hs + cost, pc := (s.waited eng srcs).pc + 1 } → ∀ k, k < 4 → g (s.tabs (eng / 128) (eng % 128 / 16)) e' k = lane k) :
    VectorResult c s eng vd srcs cost but lane := by
  have hw := Engine.await_keep (s.engine eng) srcs
  have hi : ({ s.engine eng with clips := 0, accErr := 0 } : Engine).issue srcs cost = { s.waited eng srcs with clips := 0, accErr := 0, hs := (s.waited eng srcs).hs + cost, pc := (s.waited eng srcs).pc + 1 } := by
    unfold Engine.issue State.waited; simp only; rw [Engine.await_clean]
  refine State.onEngine_completes s c eng _ but _ hr hx _ rfl ?_ ?_ ?_
  · rcases hb with h | h
    · exact .inl h
    · right; simp only [hi, h]
  · rcases hb2 with h | h
    · exact .inl h
    · right; simp only [hi, h]
  · intro t ht hk
    rw [hi] at ht
    refine ⟨?_, ?_, ?_, hk, ?_, ?_⟩
    · rw [ht]; show (s.waited eng srcs).pc + 1 = _; rw [State.waited, hw.2.2.1]
    · rw [ht]; rfl
    · rw [ht]; rfl
    · intro k h
      rw [ht, ← hl _ rfl k h]; exact Engine.vl_setV_same _ _ _ _ h
    · intro r k hn h
      rw [ht]; exact Engine.vl_setV_other _ _ _ h hn



end Sys2Proof.Machine
end

