-- ==== Sys2Proof/Machine/Arbiter.lean ====
section
/-! DEFINITION. Who is served when several requests wait (R369 to R372, R375, R376): the scratchpad port of a cell, the age arbiters, the choice of
a DRAM controller. A command of the queue is a request that has been granted, so these functions say which orders of the queue the part
takes (DEDUCED: notes/assumptions/9.md). -/
namespace Sys2Proof.Machine

/-! ### The scratchpad port (R369, R370) -/

/-- The handshakes of an instruction, true where it uses the scratchpad port; `f`: the fraction of a LUT1 is not 0 (R370).
(DEDUCED: notes/assumptions/9.md) -/
def insPort (w : Nat) (f : Bool) : List Bool :=
  match bits w 31 26 with
  | 0x01 => if bits w 13 12 = 2 then [true, true] else [true]
  | 0x02 => [true, true]
  | 0x03 => [true]
  | 0x08 | 0x0A => [true, false]
  | 0x09 => [false, false, true]
  | 0x10 => [true, f, false]
  | _ => List.replicate (insCost w) false

/-- The handshakes of a program in which it uses the scratchpad port. -/
def progPort (p : List Nat) : List Bool := p.flatMap fun w => insPort w true

/-- The longest run of handshakes that use the port, from a run of `n` on. -/
def longestRun : List Bool → Nat → Nat
  | [], n => n
  | true :: t, n => longestRun t (n + 1)
  | false :: t, n => max n (longestRun t 0)

/-- The feeder's wait for one access is at most this many handshakes (R370). -/
def portWait (group line : List Nat) : Nat := max (longestRun (progPort group) 0) (longestRun (progPort line) 0)

/-- The requester that a memory port serves of those that ask in one handshake, highest priority first (R369). -/
def portServes (asks : List Bool) : Option Nat := asks.findIdx? id

/-! ### Age arbiters (R371) -/

/-- A request that an input of an arbiter offers: the input, its age, its class and the deadline of its group (R371, R374). -/
structure Offer where
  input : Nat
  age : Nat
  cls : Nat
  deadline : Nat
deriving DecidableEq, Repr

/-- An arbiter with `n` inputs: the round robin pointer and the requests offered. -/
structure Arb where
  n : Nat
  ptr : Nat
  offers : List Offer
deriving DecidableEq, Repr

/-- Round robin: the first offer at or past the pointer. -/
def roundRobin (n ptr : Nat) (os : List Offer) : Option Offer :=
  (List.range n).findSome? fun i => os.find? fun o => o.input = (ptr + i) % n

/-- The highest age among the offers. -/
def topAge (os : List Offer) : Nat := os.foldl (fun m o => max m o.age) 0

/-- The choice among offers: the highest age, and among equal ages round robin. -/
def ageChoice (n ptr : Nat) (os : List Offer) : Option Offer := roundRobin n ptr (os.filter fun o => o.age = topAge os)

/-- What an arbiter chooses, and offers upward where it feeds another. -/
def Arb.choice (a : Arb) : Option Offer := ageChoice a.n a.ptr a.offers

/-- The request `g` is granted: the pointer moves past its input and every other request ages. -/
def Arb.granted (a : Arb) (g : Offer) : Arb :=
  { a with
    ptr := (g.input + 1) % a.n
    offers := (a.offers.filter (·.input != g.input)).map fun o => { o with age := min 15 (o.age + 1) } }

/-- A request enters at an input that offers none, with age 0. -/
def Arb.enter (a : Arb) (input cls deadline : Nat) : Arb :=
  if input < a.n && a.offers.all (·.input != input) then { a with offers := a.offers ++ [⟨input, 0, cls, deadline⟩] } else a

/-- An arbiter whose pointer and inputs are in its range, with one request at an input and ages of 0 to 15. -/
def Arb.wf (a : Arb) : Prop :=
  a.ptr < a.n ∧ (a.offers.map (·.input)).Nodup ∧ ∀ o ∈ a.offers, o.input < a.n ∧ o.age ≤ 15

/-- How many inputs lie between the pointer and this one. -/
def Arb.turn (a : Arb) (input : Nat) : Nat := (input + a.n - a.ptr) % a.n

/-- The resource went to a request on another path: every request of this arbiter ages. -/
def Arb.lost (a : Arb) : Arb := { a with offers := a.offers.map fun o => { o with age := min 15 (o.age + 1) } }

/-- The inputs served by grant after grant, where before each the requests of the next list of inputs enter. -/
def Arb.served (a : Arb) : List (List Nat) → List Nat
  | [] => []
  | es :: t =>
    let a := es.foldl (fun a i => a.enter i 0 0) a
    match a.choice with
    | some g => g.input :: (a.granted g).served t
    | none => a.served t

/-- Arbiters that feed a higher one, and the pointer of the higher one (R371). -/
structure Arb2 where
  ptr : Nat
  kids : List Arb
deriving DecidableEq, Repr

/-- What the arbiters offer upward: the request that each would choose, at the input of its arbiter. -/
def Arb2.top (a : Arb2) : Arb :=
  { n := a.kids.length, ptr := a.ptr
    offers := a.kids.zipIdx.filterMap fun q => q.1.choice.map fun o => { o with input := q.2 } }

/-- One grant of the resource, with the arbiter and the input that it went to. -/
def Arb2.grant (a : Arb2) : Option ((Nat × Nat) × Arb2) := do
  let k ← a.top.choice
  let g ← (← a.kids[k.input]?).choice
  let kids := a.kids.zipIdx.map fun q => if q.2 = k.input then q.1.granted g else q.1.lost
  some ((k.input, g.input), ⟨(k.input + 1) % a.kids.length, kids⟩)

/-- The arbiters and inputs served by grant after grant, where before each the requests of the next list enter. -/
def Arb2.served (a : Arb2) : List (List (Nat × Nat)) → List (Nat × Nat)
  | [] => []
  | es :: t =>
    let kids := a.kids.zipIdx.map fun q => es.foldl (fun b e => if e.1 = q.2 then b.enter e.2 0 0 else b) q.1
    let a : Arb2 := { a with kids := kids }
    match a.grant with
    | some g => g.1 :: g.2.served t
    | none => a.served t

/-! ### The DRAM controller (R375, R376) -/

/-- The choice of a DRAM controller, whose last grants were of the classes `last`, newest first (R375). -/
def dramChoice (last : List Nat) (a : Arb) : Option Offer :=
  let old := a.offers.filter fun o => 3 ≤ o.cls && o.cls ≤ 6 && o.age = 15
  let one := a.offers.filter (·.cls = 1)
  let low := (List.range 5).find? fun i => a.offers.any (·.cls = i + 2)
  if 31 ≤ last.length && (last.take 31).all (fun c => c = 1 || c = 2) && !old.isEmpty then roundRobin a.n a.ptr old
  else if !one.isEmpty then
    ageChoice a.n a.ptr (one.filter fun o => one.all fun p => o.deadline ≤ p.deadline)
  else match low with
    | some i => ageChoice a.n a.ptr (a.offers.filter (·.cls = i + 2))
    | none => ageChoice a.n a.ptr (a.offers.filter (·.cls = 7))

/-- A DRAM controller with this many reads in flight, of which `low` are of the classes 3 to 7, takes another read of class `cls`: 64 of the
256 places are reserved for classes 1 and 2 (R376). (DEDUCED: notes/assumptions/9.md) -/
def readPlace (reads low cls : Nat) : Bool := reads < 256 && (cls = 1 || cls = 2 || low < 192)

/-- A DRAM controller with this many writes in flight takes another (R376). -/
def writePlace (writes : Nat) : Bool := writes < 64

end Sys2Proof.Machine
end

