-- ==== Sys2Proof/Machine/Package.lean ====
section
/-! DEFINITION. The balls of the package: which signal or supply stands at a row and a column (R500 to R502), the level of the part's outputs in
Reset (R507, R517), the ranges of the supplies (R503). -/
namespace Sys2Proof.Machine

/-- What a ball carries. -/
inductive Net where
  | strTx | strBk | dpLane | dpAux | dpHpd | vrefExt
  | rcTx | rcRx | rcRefclk | rcPerst | rcClkreq | epTx | epRx | epRefclk | epPerst
  | dq | dmi | wck0 | wck1 | rdqs0 | rdqs1 | ck | ca | cs | memReset | memZq
  | refclk | syncOut | syncIn | resetL | bootMode
  | mgmtSclk | mgmtMosi | mgmtMiso | mgmtCsL | mgmtIntL | bootSclk | bootCsL | bootIo
  | tck | tms | tdi | tdo | trstL | avsClk | avsMdata | avsSdata | gpio
  | vddCore | vddPhy | vddq | vddAux | vddIo | vss | noConnect
deriving DecidableEq, Repr

/-- A ball: its net, the die of a signal of a slot, the channel of a DRAM signal, the lane or bit, and 0 for P or a single ball, 1 for N. -/
structure Ball where
  net : Net
  die : Nat := 0
  chan : Nat := 0
  idx : Nat := 0
  leg : Nat := 0
deriving DecidableEq, Repr

/-- The pair ball `k` balls past the first of a run of pairs. -/
def pairBall (net : Net) (d k : Nat) : Ball := ⟨net, d, 0, k / 2, k % 2⟩

/-- The ball at local column `j` of DRAM channel c of die d (R501). -/
def channelBall (d c j : Nat) : Ball :=
  if j ≤ 16 then ⟨.dq, d, c, j - 1, 0⟩ else if j ≤ 18 then ⟨.dmi, d, c, j - 17, 0⟩
  else if j ≤ 20 then ⟨.wck0, d, c, 0, j - 19⟩ else if j ≤ 22 then ⟨.wck1, d, c, 0, j - 21⟩
  else if j ≤ 24 then ⟨.rdqs0, d, c, 0, j - 23⟩ else if j ≤ 26 then ⟨.rdqs1, d, c, 0, j - 25⟩
  else if j ≤ 28 then ⟨.ck, d, c, 0, j - 27⟩ else if j ≤ 35 then ⟨.ca, d, c, j - 29, 0⟩
  else if j ≤ 37 then ⟨.cs, d, c, j - 36, 0⟩ else { net := .vddq }

/-- The ball at local row `i` and local column `j` of the slot of die d (R501). -/
def slotBall (d i j : Nat) : Ball :=
  if i ≤ 4 then
    if 33 ≤ j then { net := .vddPhy } else if i = 1 then pairBall .strTx d (j - 1) else if i = 3 then pairBall .strBk d (j - 1)
    else { net := .vss }
  else if i = 5 then
    if j ≤ 8 then pairBall .dpLane d (j - 1) else if j ≤ 10 then pairBall .dpAux d (j - 9) else if j = 11 then { net := .dpHpd, die := d }
    else if j = 12 then { net := .vrefExt, die := d } else if j ≤ 20 then { net := .vddAux } else { net := .vss }
  else if i = 6 then
    if 21 ≤ j then { net := .vddPhy } else if 2 ≤ d then { net := .noConnect }
    else if j ≤ 8 then pairBall .rcTx d (j - 1) else if j ≤ 16 then pairBall .rcRx d (j - 9)
    else if j ≤ 18 then pairBall .rcRefclk d (j - 17) else if j = 19 then { net := .rcPerst, die := d } else { net := .rcClkreq, die := d }
  else if i = 7 then
    if 36 ≤ j then { net := .vss } else if d ≠ 0 then { net := .noConnect }
    else if j ≤ 16 then pairBall .epTx d (j - 1) else if j ≤ 32 then pairBall .epRx d (j - 17)
    else if j ≤ 34 then pairBall .epRefclk d (j - 33) else { net := .epPerst }
  else if i ≤ 15 then channelBall d (i - 8) j
  else if i = 16 then
    if j = 1 then { net := .memReset, die := d } else if j = 2 then { net := .memZq, die := d }
    else if j ≤ 20 then { net := .vddq } else { net := .vss }
  else if j % 2 = 1 then { net := .vddCore, die := d } else { net := .vss }

/-- The ball of row DA at this column (R502). -/
def globalBall (j : Nat) : Ball :=
  if j ≤ 2 then pairBall .refclk 0 (j - 1) else if j ≤ 4 then pairBall .syncOut 0 (j - 3) else if j ≤ 6 then pairBall .syncIn 0 (j - 5)
  else if j = 7 then { net := .resetL } else if j ≤ 9 then { net := .bootMode, idx := j - 8 }
  else if j ≤ 14 then { net := [.mgmtSclk, .mgmtMosi, .mgmtMiso, .mgmtCsL, .mgmtIntL].getD (j - 10) .noConnect }
  else if j ≤ 16 then { net := [.bootSclk, .bootCsL].getD (j - 15) .noConnect } else if j ≤ 24 then { net := .bootIo, idx := j - 17 }
  else if j ≤ 29 then { net := [.tck, .tms, .tdi, .tdo, .trstL].getD (j - 25) .noConnect }
  else if j ≤ 32 then { net := [.avsClk, .avsMdata, .avsSdata].getD (j - 30) .noConnect }
  else if j ≤ 48 then { net := .gpio, idx := j - 33 } else if j ≤ 56 then { net := .vddIo } else { net := .vss }

/-- The die whose slot holds the ball at this row index and column, outside the spine and row DA (R500). -/
def slotOf (row col : Nat) : Nat := (row - 1) / 19 * 2 + if col < 39 then 0 else 1

/-- The ball at a row index and a column of a part with this many dies (R500 to R502). -/
def ballAt (dies row col : Nat) : Ball :=
  if row = 77 then globalBall col
  else if col = 39 then { net := if row % 2 = 1 then .vss else .vddAux }
  else if dies ≤ slotOf row col then { net := .noConnect }
  else slotBall (slotOf row col) ((row - 1) % 19 + 1) (if col < 39 then col else col - 39)

/-- The state of an output. -/
inductive Level where
  | low | high | highZ | idle | released
deriving DecidableEq, Repr

/-- The state of an output in Reset (R507, R517). TDO follows the JTAG port, which runs in Reset. -/
def resetLevel : Net → Option Level
  | .strTx => some .idle
  | .dpHpd | .rcPerst | .memReset | .syncOut | .bootSclk | .avsClk => some .low
  | .bootCsL | .avsMdata => some .high
  | .mgmtMiso => some .highZ
  | .mgmtIntL => some .released
  | _ => none

/-- The recommended static range of a supply in µV, with `set` the set point of its VDD_CORE in mV (R503). -/
def supplyRange (set : Nat) : Net → Option (Nat × Nat)
  | .vddCore => some ((set - 15) * 1000, (set + 15) * 1000)
  | .vddPhy => some (873000, 927000)
  | .vddq => some (485000, 515000)
  | .vddAux | .vddIo => some (1710000, 1890000)
  | _ => none

/-- A supply at this voltage in µV is in its range (R503). -/
def supplyOk (set : Nat) (net : Net) (v : Nat) : Bool := (supplyRange set net).any fun r => r.1 ≤ v && v ≤ r.2

end Sys2Proof.Machine
end

