-- ==== Sys2Proof/Tests/Slice0.lean ====
section
/-! SUPPORT. Tests: ill-formed terms that well-formedness refuses, small checks against the spec's own figures, and for every statement with
hypotheses a state and operands that meet them, clause by clause. -/
namespace Sys2Proof.Tests
open Sys2Proof Sys2Proof.Machine
set_option Elab.async false

/-- Mode Idle after start-up, host link up, two installed dies' worth of memory on each die. -/
def base : State :=
  let s : State := { State.reset with dev := { Dev.reset with boot := { BootSt.reset with fused := true, supplies := true, resetL := true } } }
  ((s.setF HOST_LINK HOST_LINK.SPEED 5).setMode .idle 0xC).setF (MEM_SIZE 0) MEM_SIZE.GIB 8

/-- `s` with `f` of everything but registers, DRAM and queue. -/
def withDev (s : State) (f : Dev → Dev) : State := { s with dev := f s.dev }

/-- `s` in mode `m`. -/
def inMode (s : State) (m : Mode) : State := s.setMode m 1

/-- `s` with engine `k` as given. -/
def withEngine (s : State) (k : Nat) (e : Engine) : State := withDev s fun d => { d with engines := d.engines.put Engine.zero k e }

/-- An engine that runs GROUP, with values in registers, work area and slot. -/
def busyEngine : Engine :=
  { Engine.zero with
    run := .group
    pc := 3
    hs := 5
    v := [(4, 0x11), (5, 0xFFFFFFFF), (6, 0x80000000), (7, 7), (8, 0x20), (9, 0x7FFFFFFF), (10, 0xFFFFFF00), (11, 3)]
    sc := [(1, 0xA5), (2, 0x100), (3, 0xFFFFFFFF)]
    acc := [(0, 123456), (1, -77), (2, 9223372036854775807), (3, -9223372036854775808)]
    p := [(1, true), (3, true)]
    pad := [(0x10, 0xAB), (0x11, 0xCD), (0x12, 0xEF), (0x13, 0x81), (0x17C00, 1), (0x17C08, 0x11), (0x17C0A, 5), (0x17C0D, 0xF0)]
    full := [(0, true)] }

/-- The same with a result that has not arrived. -/
def lateEngine : Engine := { busyEngine with pend := [⟨1, [1, 2, 3, 4], 20⟩] }

/-- Engines 0 and 130 run. -/
def running : State := withEngine (withEngine base 0 busyEngine) 130 lateEngine

/-- A canvas of 16 by 4 pixels on die 0, layers 0 to 6, one strand of two class H partners with a segment, one of a class L partner. -/
def picture : Image :=
  ⟨16, 4, [⟨0, 0, 16, 4⟩], 0xFF, [], 10, 0, true, 5, 9, 1,
    [⟨0, 1, [⟨false, 2, 0⟩, ⟨false, 2, 1⟩]⟩, ⟨4, 1, [⟨true, 2, 0⟩]⟩], [⟨0, 0, 8, 4, 0, 0, 0, 0, 0, 0⟩, ⟨8, 0, 8, 4, 0, 0, 0, 4, 0, 0⟩], []⟩

/-- Idle with the image `picture` in force. -/
def shown : State := withDev base fun d => { d with image := some picture, work := d.regs, tb := { d.tb with ras := { d.tb.ras with vtotal := 10, lineTicks := 1000 } } }

/-- Line 1 of the canvas has been composed; engine 1 waits with a complete slot, engine 2 has ended its group. -/
def fed : State :=
  let s := withDev shown fun d => { d with comp := { d.comp with full := [(lineKey 0 1, List.replicate 16 [1, 2, 3])] } }
  withEngine (withEngine s 1 { busyEngine with run := .none }) 2 { busyEngine with ended := true }

/-- The shadow transfer window is open. -/
def window : State := shown.setF KNOT_STATUS KNOT_STATUS.BUSY 1

/-- A part just reset, with RESET_L low; one in the fuse load; one after self-test has begun; one waiting for an image. -/
def low : State := { State.reset with dev := { Dev.reset with boot := { BootSt.reset with supplies := true } } }
def fusing : State := withDev (low.setF CHIP_BOOT_STATUS CHIP_BOOT_STATUS.STAGE 1) fun d => { d with boot := { d.boot with resetL := true } }
def testing : State := (withDev fusing fun d => { d with boot := { d.boot with fused := true } }).setMode .test 0 |>.setF CHIP_BOOT_STATUS CHIP_BOOT_STATUS.STAGE 2
def loading : State := withDev (testing.setMode .load 0) fun d => { d with boot := { d.boot with loading := some .spiPrimary, sources := [.store 1] } }

/-- Counts, fences and indices that are not at their reset values. -/
def counted : State :=
  ((((((((((shown.setReg HOST_ACC_ERR_CNT 5).setReg (LAMP_CLIP_CNT 1) 9).setReg KNOT_PEEK_ADDR (LYR_CTL 0 2)).setF (ERR_DIE 3) ERR_DIE.CELL 1).setReg
    (ECC_CE_CNT 0) 7).setF (LYR_READY 0 1) LYR_READY.ARMED 1).setF KNOT_STATUS KNOT_STATUS.INDEP_PEND 5).setF KNOT_STATUS KNOT_STATUS.PEND 1).setF
    CHIP_SNAP CHIP_SNAP.BUSY 1).setF (LYR_PAL_IDX 0 5) LYR_PAL_IDX.IDX 255)
/-- The same with a snapshot in view. -/
def viewed : State := withDev (counted.setF CHIP_SNAP CHIP_SNAP.VIEW 1) fun d => { d with snap := [(HOST_ACC_ERR_CNT, some 3)] }

/-- A master that sends sync words, its raster in line 3; a locked slave; lines to match. -/
def master : State :=
  withDev ((shown.setF TB_CTL TB_CTL.SYNC_OUT_EN 1).setF TB_CTL TB_CTL.SYNC_MEAS 1) fun d => { d with tb := { d.tb with line := 3, start := 10000 } }
def slave : State :=
  withDev ((shown.setF TB_CTL TB_CTL.ROLE 1).setF TB_STATUS TB_STATUS.STATE 2) fun d => { d with tb := { d.tb with setFrame := some (77, true), start := 50 } }
def matching : State :=
  let s := ((shown.setF (SCAN_LM 1 2) SCAN_LM.EN 1).setF (SCAN_LM 1 2) SCAN_LM.LINE 4).setF (SCAN_LM 0 3) SCAN_LM.EN 1
  withDev s fun d => { d with work := d.regs }

/-- A source frame of two lines of two pixels. -/
def twoLines : SrcFrame := ⟨0, 2, [[(1, 2, 3), (4, 5, 6)], [(7, 8, 9), (10, 11, 12)]]⟩
/-- Port 0 with its link up and no frame in capture; with a frame in capture in buffer 1. -/
def linked : State :=
  let s := (shown.setF (SRC_CTL 0) SRC_CTL.EN 1).setF (SRC_STATUS 0) SRC_STATUS.LINK_UP 1
  let s := (((s.setF (SRC_BUF_STATE 0) SRC_BUF_STATE.D 0).setF (SRC_BUF_STATE 0) SRC_BUF_STATE.C 2).setF (SRC_BUF_STATE 0) SRC_BUF_STATE.W 3).setF (SRC_BUF_STATE 0) SRC_BUF_STATE.REL 3
  withDev s fun d => { d with src := [(0, { SrcSt.reset with payload := some (List.replicate 64 0x5A) })] }
def capturing : State :=
  let s := (((linked.setF (SRC_BUF_STATE 0) SRC_BUF_STATE.W 1).setF (SRC_GEOM 0) SRC_GEOM.W 2).setF (SRC_GEOM 0) SRC_GEOM.H 2).setF (SRC_STRIDE 0) SRC_STRIDE.STRIDE 256
  withDev s fun d => { d with src := [(0, { SrcSt.reset with payload := some (List.replicate 64 0x5A), live := some twoLines, geo := ⟨2, 2, 256, 0⟩ })] }
/-- Writeback of die 0's section is due and every line of it has been composed. -/
def composed : State :=
  withDev shown fun d => { d with comp := { d.comp with wbDue := [(0, some 9)], full := (List.range 4).map fun y => (lineKey 0 y, List.replicate 16 [1, 2, 3]) } }

/-- Strand g stands in state c. -/
def strandIn (s : State) (g c : Nat) : State := s.setF (strReg STR_STATE g) STR_STATE.STATE c
/-- Strand g of `s` with `f`. -/
def withStrand (s : State) (g : Nat) (f : StrandSt → StrandSt) : State := s.setStrand g (f (s.strand g))

/-- What a class H partner, and a class L one, declares. -/
def declH : Decl := ⟨false, true, 3, 4, 2, 10, 32, 10, 0, 0x3F, 0⟩
def declL : Decl := ⟨true, true, 3, 4, 2, 10, 32, 10, 0, 0x3F, 8⟩

/-- Three partners: two of class H on strand 0, the first about to launch frame 4, one of class L on strand 4 with a pending row. -/
def partnersOn (s : State) : State :=
  let p0 : PartnerSt := { PartnerSt.reset with
    decl := declH
    addr := some 0
    relay := some 1
    codeW := 12
    trim := 40
    front := [(0, 1)]
    back := [(0, 7), (1, 8)]
    launch := some (4, true, 500)
    last := some (3, 100)
    veto := [2]
    tag := some 5
    queue := [.echo 3 1, .status 0 0 0 0 0]
    maker := [(0x20, 9)]
    errTotal := 6 }
  let p1 : PartnerSt := { p0 with
    addr := some 1
    launch := none
    veto := [3, 4]
    tag := none
    spoiled := true }
  let p2 : PartnerSt := { p0 with
    decl := declL
    row := some ⟨10, 5, 2⟩
    back := [(0, 3)]
    pending := [(0, 77)]
    veto := [] }
  { s with dev := { s.dev with partners := [(0, p0), (1, p1), (4 * 512, p2)] } }

/-- Strand 0 and strand 4 are Active with their partners, and commands wait for a reply on strand 0. -/
def active : State :=
  let s := partnersOn (strandIn (strandIn shown 0 10) 4 10)
  let s := (s.setF (strReg STR_LINK 0) STR_LINK.PARTNERS 2).setF (strReg STR_LINK 4) STR_LINK.PARTNERS 1
  let s := withStrand s 0 fun t => { t with
    since := true
    tag := 9
    out := [⟨0, 3, 7, 1, 0, 0, false, false⟩, ⟨1, 6, 8, 4, 0, 0, true, false⟩] }
  withDev (s.setF (strReg STR_PCMD_STAT 0) STR_PCMD_STAT.BUSY 1) fun d => { d with
    scan := { d.scan with
      queue := [(0, [.drive 1 0 0 0 [5, 6] [0], .drive 1 1 1 0 [9] [1]]), (4, [.row 0 0 0 2 10 5])] } }
/-- The same with no commands outstanding; with one; with packets for the last partner only; with its back direction off. -/
def quiet : State := withStrand (active.setF (strReg STR_PCMD_STAT 0) STR_PCMD_STAT.BUSY 0) 0 fun t => { t with out := [] }
def oneCmd : State := withStrand active 0 fun t => { t with out := [⟨1, 5, 8, 4, 0, 2, true, false⟩] }
def onePartner : State := withDev active fun d => { d with partners := d.partners.filter fun e => e.1 != 1 }
def asleep : State := (active.setF (strReg STR_SLEEP_STAT 0) STR_SLEEP_STAT.FWD 2).setF (strReg STR_SLEEP_CTL 0) STR_SLEEP_CTL.WAKE_ACT 1
def frozen : State := (quiet.setF (strReg STR_ADAPT 0) STR_ADAPT.FROZEN 1).setF (laneReg STR_ADAPT 0 1) STR_ADAPT.WINDOW 1
def backWaking : State := withStrand (quiet.setF (strReg STR_SLEEP_STAT 0) STR_SLEEP_STAT.BACK 1) 0 fun t => { t with backWake := true }

/-- Strand 0 at each step of bring-up. -/
def bringUp (c : Nat) : State :=
  let s := (strandIn shown 0 c).setF (strReg STR_TRAIN_STAT 0) STR_TRAIN_STAT.LANES_SEEN 1
  withStrand s 0 fun t => { t with stage := if c = 11 then 4 else 1 }
def linkTest : State :=
  let s := strandIn (inMode shown .linkTest) 0 12
  withStrand (s.setF (strReg STR_PRBS_TIME 0) STR_PRBS_TIME.US 100) 0 fun t => { t with since := true }
def testRuns : State := (withStrand linkTest 0 fun t => { t with test := some (0, 0, 1) }).setF (strReg STR_PRBS_STAT 0) STR_PRBS_STAT.BUSY 1
/-- Frame 1 is shown: frame 0 has been sent from die 0. -/
def scanning : State :=
  withDev (inMode active .live) fun d => { d with work := d.regs, scan := { d.scan with sentAny := [(1, 0), (0, 0)] } }

/-- Table loads run on die 0. -/
def tables : State := withDev ((((base.setF (LAMP_STATUS 0) LAMP_STATUS.LOAD_BANK 1).setF (LAMP_OUT_STATUS 0) LAMP_OUT_STATUS.LOAD_BANK 1).setF (LAMP_STATUS 0) LAMP_STATUS.LOAD_BUSY 1).setF (LAMP_OUT_STATUS 0) LAMP_STATUS.LOAD_BUSY 1) fun d => { d with
  lamp := { d.lamp with
    eotfLoad := [(0, some 0x1000)]
    outLoad := [(0, some 0x2000)] } }
def dormant : State := inMode base .dormant

/-- DRAM of die 0 with a few bytes, and a range that only the management port may write. -/
def filled : State :=
  let s := (base.setF LANY_PROT_BASE LANY_PROT_BASE.ADDR 0x100).setF LANY_PROT_LEN LANY_PROT_LEN.LEN 1
  let s : State := { s with dram := [(0x2000, 0x5A), (0x2001, 0xA5)] }
  withDev s fun d => { d with knot := { d.knot with pins := [(0, [⟨.layer 0 0, 0x3000, 0x3010, 1, none⟩, ⟨.layer 1 0, 0x3010, 0x3020, 0, none⟩])] } }

/-- Region 1 of die 0: 16 MiB from 2 MiB. Its first word is good, the second has a data bit in error, the third cannot be corrected; an
entry waits for the first and for the third. -/
def guarded : State :=
  let s := (((filled.setF (MEM_PROT_BASE 0 1) MEM_PROT_BASE.BASE 1).setF (MEM_PROT_LEN 0 1) MEM_PROT_LEN.LEN 1).setF (MEM_PROT_BASE 0 1) MEM_PROT_BASE.EN 1)
  { s with dram := [(0x200000, 0x11), (0x200008, 0x01), (0x200010, 0x03), (0x1200000, BitVec.ofNat 8 (eccCheck 0x11))] }
def merging : State :=
  withDev guarded fun d => { d with mem := { d.mem with merge := [⟨0, 0x200000, [(2, 0x77)], 7, [], false⟩, ⟨0, 0x200010, [(3, 0x78)], 7, [], false⟩] } }
def starting : State := guarded.setF (MEM_PROT_BASE 0 1) MEM_PROT_BASE.INIT 1
def scrubbing : State :=
  let s := ((guarded.setF (ECC_SCRUB_CTL 0) ECC_SCRUB_CTL.EN 1).setF (ECC_SCRUB_CTL 0) ECC_SCRUB_CTL.RATE 3)
  let s := (s.setF (ECC_WHIP_CTL 0) ECC_WHIP_CTL.EN 1).setF (ECC_WHIP_CTL 0) ECC_WHIP_CTL.SAVE 1
  withDev s fun d => { d with mem := { d.mem with
    whipBusy := [(1, true), (2, true)]
    unsaved := [0] } }

/-- A store of one drive on die 0, a playlist in loading, a ring slot in filling. -/
def store (errs : Nat) (down : Bool) : State :=
  let sb : Superblock := ⟨1, 0, 1, 1000, 7, 1, 1, 2, 1, 0, 0⟩
  let clip : Clip := ⟨16, 4, 0, 0, 4, 3, 64, 1, true⟩
  let s := (((base.setF (COIL_DRV_STAT 0) COIL_DRV_STAT.READY (if down then 0 else 1)).setF COIL_RING_SLOTS COIL_RING_SLOTS.SLOTS 3).setF COIL_SLOT_CU COIL_SLOT_CU.CU 1)
  withDev (s.setF COIL_RING_BASE_LO COIL_RING_BASE_LO.ADDR 0x10) fun d => { d with coil := { d.coil with
    drives := [(0, ⟨some sb, errs, down, false, ⟨true, 4096, 0, 0⟩, true, false, [(4, 1)], 1, 0⟩)]
    disk := [(16384, 9), (16390, 8)]
    clips := [clip]
    loading := some 0
    ring := [(0, some ⟨clip, 0, 0, true⟩), (1, some ⟨clip, 0, 0, false⟩)] } }

/-- The host link is up with bus mastering; ring 1 works, with two descriptors to fetch; `j` waits as the only job. -/
def jobless : State :=
  let s := (((store 1 false).setF (JOB_SIZE 1) JOB_SIZE.LOG2 4).setF (JOB_SIZE 2) JOB_SIZE.LOG2 4).setF (JOB_CTL 1) JOB_CTL.EN 1
  let s := ((s.setReg (JOB_CQ_BASE_LO 1) 0x1000).setReg (JOB_CQ_WB_LO 1) 0x2000)
  withDev { s with dram := [(0x2000, 0x5A), (0x2001, 0xA5)] } fun d => { d with
    jobs := { d.jobs with rings := [(1, ⟨2, 5, false, []⟩)] }
    host := { d.host with
      busMaster := true
      mem := [(0x5000, 3)] } }
def withJob (ws : List Nat) (r : Option JobRes) : State :=
  withDev jobless fun d => { d with jobs := { d.jobs with
    queue := [⟨0, 1, [ws], r⟩]
    next := 1 } }

/-- The record store of die 0 works; channel 0 names type `ty` and key `key`; record 0x30/5, a counter at key 7, and buffer words stand. -/
def recorded (ty key : Nat) : State :=
  let s := (((base.setF NVM_STATUS NVM_STATUS.DIE0_OK 1).setF (NVM_ID 0) NVM_ID.TYPE ty).setF (NVM_ID 0) NVM_ID.KEY key).setF (NVM_LEN 0) NVM_LEN.LEN 6
  let s := (s.setF (NVM_ID 1) NVM_ID.TYPE ty).setF (NVM_ID 1) NVM_ID.KEY key
  withDev (s.setReg (NVM_VAL_LO 0) 1) fun d => { d with nvm := { d.nvm with
    secs := [(192, ⟨.used 0 1 1, 100, [⟨0xC000, 7, 3, leBytes 8 10 ++ leBytes 4 2, true⟩]⟩),
      (192 + 144 * nvmZone 0x30, ⟨.used (nvmZone 0x30) 1 1, 100, [⟨0x30, 5, 3, [1, 2, 3, 4, 5], true⟩]⟩)]
    cells := [(64, tagCell 3)]
    buf := [(0, 0x04030201), (1, 0x0605)] } }
def calibrating : State := inMode base .calibrate
def pacing (tries : Nat) : State :=
  withDev base fun d => { d with cal := { d.cal with
    mode := 1
    pace := [(0, { PaceSt.reset with
      cmd := some 9
      tries := tries })] } }
def napping : State := (base.setF PWR_STATUS ⟨0, 3⟩ 1).setF (PWR_DIE_STAT 0) PWR_DIE_STAT.REGION 1
def sleeping : State := dormant.setF PWR_WAKE_MS PWR_WAKE_MS.MS 5
def tapIn (st : TapState) : State :=
  withDev base fun d => { d with tap := { d.tap with
    st := st
    instrs := []
    ir := [true, false, true, true]
    path := [true, false, true] } }
def stage8 : State :=
  ((testing.setMode .load 0).setF CHIP_BOOT_STATUS CHIP_BOOT_STATUS.STAGE 8).setF CHIP_STAGE_LEN CHIP_STAGE_LEN.LEN 600
def lastSource : State := withDev loading fun d => { d with boot := { d.boot with sources := [] } }
def reloading : State := withDev (inMode base .reload) fun d => { d with boot := { d.boot with loading := some .spiPrimary } }
/-- The window is open with a request pending that changes a register of layer 1; its fence armed; that layer independent; a value at fault; a
pin table that is full for now, or for good. -/
def asked : State := withDev { window.setF KNOT_STATUS KNOT_STATUS.PEND 1 with dies := 2 } fun d => { d with
  image := some { picture with layerEn := 3 }
  shadow := [(LYR_DST_POS 0 1, 0x20001), (LYR_DST_POS 1 1, 0x20001)]
  knot := { d.knot with seqStart := 7 } }
def askedFenced : State := asked.setF (LYR_READY 0 1) LYR_READY.ARMED 1
def askedApart : State := askedFenced.setF KNOT_INDEP KNOT_INDEP.LAYERS 2
def askedBad : State := withDev asked fun d => { d with shadow := [(TB_HTIMING1, 0)] }
def fullPins (o : PinOwner) (r : Option Nat) : List Pin := (List.range 65).map fun k => ⟨o, 4096 * k, 4096 * k + 4096, 2, r⟩
def askedFull : State := asked.setPins 0 (fullPins (.wb 0) (some 1))
def askedNever : State := asked.setPins 0 (fullPins (.src 0 0) none)
def askedPart : State := (asked.setF KNOT_STATUS KNOT_STATUS.PEND 0).setF KNOT_STATUS KNOT_STATUS.INDEP_PEND 2

/-- The words, each low byte first. -/
def words (ws : List Nat) : List Byte := ws.flatMap (leBytes 4)

/-- The six required sections of an image for two dies, of a canvas of 4 pixels on die 0, with no strand, a program that emits three lamps, layers 0 and 1. -/
def imageSections : List (List Byte) :=
  [words [0x01000004, 0x00040000, 0, 0, 0xE0000000, 0xE0000400, 0xE0000800, 0xFC000000], words [1],
    words [0x00010004, 0, 0x00010004, 0, 0], words [0x01000000, 0], words [0x01000001, 0x00010001, 0x00002400], words [3]]

/-- A structure image that passes every check (R53 to R58), its section CRCs and its digest written out. -/
def imageBytes : List Byte :=
  ((List.range 6).zip imageSections).foldl (fun acc x => acc ++ List.replicate (256 * (x.1 + 1) - acc.length) 0 ++ x.2)
      (words [0x41534D49, 0x01000206, 1572, 0, 0x1234, 0, 0, 0, 0x10000, 256, 32, 1448637792, 0x20000, 512, 4, 2502091135, 0x30000, 768, 20,
        1613930884, 0x40000, 1024, 8, 3023691046, 0x50000, 1280, 12, 934936085, 0x60000, 1536, 4, 709214974]) ++
    leBytes 32 59674189697582407193987903243114492521313588283067994154373432180340551704140

/-- The bytes of that image that are not 0, with their offsets (written out: each read of DRAM goes through them). -/
def imageCells : List (Nat × Byte) :=
  [(0, 0x49), (1, 0x4d), (2, 0x53), (3, 0x41), (4, 0x06), (5, 0x02), (7, 0x01), (8, 0x24), (9, 0x06),
    (16, 0x34), (17, 0x12), (34, 0x01), (37, 0x01), (40, 0x20), (44, 0x60), (45, 0x75), (46, 0x58), (47, 0x56),
    (50, 0x02), (53, 0x02), (56, 0x04), (60, 0x7f), (61, 0xe1), (62, 0x22), (63, 0x95), (66, 0x03), (69, 0x03),
    (72, 0x14), (76, 0x84), (77, 0xa1), (78, 0x32), (79, 0x60), (82, 0x04), (85, 0x04), (88, 0x08), (92, 0x26),
    (93, 0xdd), (94, 0x39), (95, 0xb4), (98, 0x05), (101, 0x05), (104, 0x0c), (108, 0x15), (109, 0xfe), (110, 0xb9),
    (111, 0x37), (114, 0x06), (117, 0x06), (120, 0x04), (124, 0xfe), (125, 0xc2), (126, 0x45), (127, 0x2a), (256, 0x04),
    (259, 0x01), (262, 0x04), (275, 0xe0), (277, 0x04), (279, 0xe0), (281, 0x08), (283, 0xe0), (287, 0xfc), (512, 0x01),
    (768, 0x04), (770, 0x01), (776, 0x04), (778, 0x01), (1027, 0x01), (1280, 0x01), (1283, 0x01), (1284, 0x01), (1286, 0x01),
    (1289, 0x24), (1536, 0x03), (1540, 0x4c), (1541, 0xde), (1542, 0x71), (1543, 0x48), (1544, 0x1e), (1545, 0x7b), (1546, 0x50),
    (1547, 0x05), (1548, 0xd8), (1549, 0x58), (1550, 0xc8), (1551, 0xdb), (1552, 0xaa), (1553, 0x12), (1554, 0xb1), (1555, 0xc3),
    (1556, 0x90), (1557, 0x71), (1558, 0xc7), (1559, 0xbf), (1560, 0x6c), (1561, 0x92), (1562, 0xe1), (1563, 0x31), (1564, 0x5a),
    (1565, 0x16), (1566, 0xb7), (1567, 0xa2), (1568, 0xfa), (1569, 0x64), (1570, 0xee), (1571, 0x83)]

/-- A Reload from the staging range, whose image stands in it, with a request and a part of it pending. -/
def stagedReload : State :=
  let s := (inMode { base with dies := 2 } .reload).setF CHIP_STAGE_LEN CHIP_STAGE_LEN.LEN 1572
  let s := (s.setF KNOT_STATUS KNOT_STATUS.PEND 1).setF KNOT_STATUS KNOT_STATUS.INDEP_PEND 3
  withDev { s with dram := imageCells } fun d =>
    { d with boot := { d.boot with loading := some .staged } }

/-! ### Well-formedness: one ill-formed term for each check -/

theorem test_wf_dieNo : (Instr.dpLinkLoss 8).wf = false := by decide
theorem test_wf_engNo : (Instr.nop 1024).wf = false := by decide
theorem test_wf_laneNo : (Instr.capSwitch 128).wf = false := by decide
theorem test_wf_chainNo : (Instr.rowTOn 0 512).wf = false := by decide
theorem test_wf_chainAddr : (Instr.stamp 0 512 ⟨0, []⟩ 0).wf = false := by decide
theorem test_wf_tagNo : (Instr.stamp 0 0 ⟨64, []⟩ 0).wf = false := by decide
theorem test_wf_regNo : (Instr.vbc 0 16 0).wf = false := by decide
theorem test_wf_sizeCode : (Instr.tst 0 0 0 3 0).wf = false := by decide
theorem test_wf_satCode : (Instr.clmp 0 0 0 7 false).wf = false := by decide
theorem test_wf_bar0Addr : (Instr.loRead 0x100000).wf = false := by decide
theorem test_wf_devAddr : (Instr.dramRead (2 ^ 40) 8 ⟨1, 0⟩ []).wf = false := by decide
theorem test_wf_memClass : (Instr.dramRead 0 8 ⟨8, 0⟩ []).wf = false := by decide
theorem test_wf_ringNo : (Instr.jobAbort .host 8 0).wf = false := by decide
theorem test_wf_chanNo : (Instr.nvmRead .mgmt 2).wf = false := by decide
theorem test_wf_driveNo : (Instr.driveReset 2).wf = false := by decide
theorem test_wf_unitNo : (Instr.whipBatchStart 0 9).wf = false := by decide
theorem test_wf_bondNo : (Instr.adaptFreeze 0 4).wf = false := by decide
/-- Each operand range that a single row checks. -/
theorem test_wf_ranges : ([.resetLRelease 4 true, .fuseLoadDone [] 4 4 8, .fuseLoadDone [] 0 16 8, .fuseLoadDone [] 0 4 16, .hostLinkUp 16 8, .hostLinkUp 4 16,
    .selftestDone (List.replicate 9 ⟨0, [], [], [], [], [], 8, 255, 8533⟩), .selftestDone [⟨0, [], [], [], [], [128], 8, 255, 8533⟩],
    .selftestDone [⟨0, [⟨9, 0, 0, 0, 0⟩], [], [], [], [], 8, 255, 8533⟩],
    .reqReservedMode .host 16, .fatalChipError 16, .dieFault 0 16 false, .blockFault 0 8, .cellFault 0 128 0, .cellFault 0 0 8,
    .lineStart (List.replicate 9 ⟨0, [], 0, false, false, false, 0, [], []⟩), .lineMatch 0 4, .knotLineStart [8], .protEnable .host 0 65536, .regWrite 0 0 0, .regWrite 0 5 0, .rcRead 0 0,
    .syncOutPulse (2 ^ 48), .syncInPulse 256 (2 ^ 64) 0, .frameSyncDeparture 0 ⟨2 ^ 48, 0⟩, .frameSyncDeparture 0 ⟨0, 2 ^ 16⟩, .frameDone 0 (2 ^ 48) 0,
    .segmentDeadline 8192 0 0, .segmentDeadline 0 65536 0, .sourceFrameStart 0 0 4 0 0 [], .sourceFrameStart 0 0 0 8 0 [],
    .auxTransaction 0 true false (2 ^ 20) [] 1, .auxTransaction 0 true false 0 [] 17, .feedSlotFill 0 65536 0,
    .feed 0 0 0 false 4 0, .feed 0 0 0 false 0 512, .feed 0 0 2 false 0 2, .feedc 0 0 false 2, .feeds 0 0 2, .tld 0 0 0 0 false 2048, .tlds 0 0 0 2048,
    .lut1 0 0 0 0 0 0, .lut1 0 0 0 0 17 0, .lut1 0 0 0 0 1 3, .odi 0 0 0 0 3, .lgi 0 0 0 3, .cmp 0 0 0 false 6, .adda 0 0 false 33,
    .rda 0 0 64 0, .mulr 0 0 0 0 false false 64 0, .shl 0 0 0 0 false 32 0, .shr 0 0 0 1 false 0 false false 0, .vldi 0 0 false 65536,
    .dith 0 0 0 0 3, .emit 0 0 3 0 false, .emit 0 0 0 3 false, .skip 0 0 32 true 1, .skip 0 0 0 true 4096, .peFenceReq .host 0 128,
    .enum 0 0 1024 declH, .enum 0 0 0 { declH with widths := 128 }, .stamp 0 0 ⟨0, []⟩ 65536, .trim 0 0 ⟨0, []⟩ (2 ^ 32),
    .cfgWr 0 0 ⟨0, []⟩ 256 0, .test 0 0 ⟨0, []⟩ 8 0 0 0, .test 0 0 ⟨0, []⟩ 0 0 16 0,
    .test 0 0 ⟨0, []⟩ 0 0 0 (2 ^ 24), .fwdState 0 ⟨0, []⟩ 3 0, .ack 0 0 0 16 0 0 0, .ack 0 0 0 0 256 0 0, .decl 0 0 2 false declH, .decl 0 0 0 false { declH with tol := 256 }, .frameSync 0 0 0 (2 ^ 24) ⟨0, none⟩,
    .keep 0 0 0 0 true (2 ^ 24) ⟨0, none⟩, .driveUp 0 ⟨⟨true, 512, 0, 256⟩, []⟩ [], .echo 0 0 0 0 65536 0, .backInvalidBlock 0 ⟨true, some 512⟩,
    .status 0 0 256 0 0 0 0, .status 0 0 0 0 0 0 32, .fault 0 0 [], .fault 0 0 [(65536, true)], .wake 0 0 256, .eq 0 0 4 0 false 0 0, .eq 0 0 0 0 false 256 0,
    .backTrainBlock 0 0 0 true false false 0 0 0 0, .backTrainBlock 0 0 2 true false false 64 0 0 0, .cmdTimeout 0 1024 0,
    .pcmdCfgRd .host 0 1024 0, .blockLock 0 16 0, .prbsNearEnd .host 0 8, .injSingle .host 0 16 0, .nvmeCompletion 0 65536,
    .bar2Read (2 ^ 36) 8, .mergeTimeout 4, .protInitDone 0 8, .sqDoorbell 512 0, .descriptorFetch (some []), .hostLinkDown 4,
    .lanyCommitReq 2, .msixTableWrite 2 0, .configurationRequest 4096 0 none, .configurationRequest 0 16 none] : List Instr).all
    (fun c => !c.wf) = true := by decide +kernel

/-! ### Witnesses: pixel engines -/

theorem witness_EngineArithmetic : running.engineRuns 0 = true ∧ running.engineRuns 130 = true ∧ 15 < 16 ∧ 63 < 64 ∧ 31 < 32 ∧ 6 < 7 := by
  decide +kernel
theorem witness_EngineMoves : running.engineRuns 130 = true ∧ 15 < 16 ∧ 65535 < 65536 ∧ 63 < 64 ∧ 6 < 7 ∧ 32 ≤ 32 ∧ 5 < 6 := by decide +kernel
theorem witness_EngineTableReads : running.engineRuns 0 = true ∧ 15 < 16 ∧ 2 < 3 ∧ 3 < 4 ∧ 508 < 512 ∧ 508 % 4 = 0 ∧
    508 % sizeBytes 2 = 0 ∧ 2047 < 2048 ∧ 1 ≤ 16 ∧ 16 ≤ 16 := by decide +kernel
theorem witness_EngineScalars : running.engineRuns 0 = true ∧ 15 < 16 ∧ 508 < 512 ∧ 508 % 4 = 0 ∧ 2047 < 2048 ∧ 65535 < 65536 ∧ 31 < 32 ∧
    1 ≤ 4095 ∧ 4095 < 4096 := by decide +kernel
theorem witness_EngineLateResults : running.engineRuns 130 = true ∧ 2 < 3 ∧ (running.engine 130).pend = [⟨1, [1, 2, 3, 4], 20⟩] ∧
    (running.engine 130).odiBad (running.tabs 1 0) 4 5 6 2 = 0 := by decide +kernel
theorem witness_EngineStores : running.engineRuns 130 = true ∧ 2 < 3 ∧ 2047 < 2048 ∧
    ((running.waited 130 [4]).valid (running.tabs 1 0) 0 = true) := by decide +kernel
/-- The same in Dormant with the block of cell 48 in Nap. -/
def fedAsleep : State := (inMode fed .dormant).setPwr 0 3 2
theorem witness_EngineGroups :
    (∀ s ∈ [fed, fedAsleep], s.journal = [] ∧ s.composes s.frameMode 0 = true ∧ (s.section 0).y ≤ 1 ∧
      1 < (s.section 0).y + (s.section 0).h ∧ (s.section 0).x / 4 ≤ 3 ∧ 3 ≤ ((s.section 0).x + (s.section 0).w - 1) / 4 ∧
      (s.dev.comp.full.look [] (lineKey 0 1)).isEmpty = false ∧ s.engineFor 0 (s.groupIdx 0 3) = some 48 ∧
      (s.engine 48).freeSlot = some 0) ∧
    fed.pwr 0 8 = 0 ∧ fed.pwr 0 (48 / 16) = 0 ∧ fed.live 0 = true ∧ 48 < 128 ∧ fed.mode ≠ .dormant ∧
    fedAsleep.mode = .dormant ∧ fedAsleep.pwr 0 (48 / 16) ≠ 0 ∧ fed.engineLive 1 = true ∧ (fed.engine 1).run = .none ∧
    (fed.engine 1).full.look false (fed.engine 1).slot = true ∧ fed.engineGoes 1 = true ∧ (fed.engine 1).full.look false 0 = true ∧
    (fed.engine 1).slot = 0 ∧ running.engineRuns 0 = true ∧ (running.engine 0).run = .group ∧ fed.engineGoes 2 = true ∧
    (fed.engine 2).run = .group ∧ (fed.engine 2).ended = true := by decide +kernel
/-! ### Witnesses: modes, reset, start-up -/

theorem witness_ModeRequests : base.admits .host CHIP_MODE_REQ ∧ shown.admits .mgmt CHIP_MODE_REQ ∧ 12 ≤ 15 ∧ 15 < 16 := by decide +kernel
theorem witness_ResetPinAndSupplies : low.dev.boot.resetL = false ∧ low.dev.boot.supplies = true ∧ State.reset.dev.boot.resetL = false ∧
    base.dev.boot.supplies = true ∧ base.dev.boot.resetL = true ∧ base.nvmCut = false ∧ 10000 ≤ 10000 ∧ 999 < 1000 ∧ 1000 ≤ 9999 ∧ 9999 < 10000 ∧
    (base.setF (NVM_STAT 1) NVM_STAT.BUSY 1).nvmCut = true ∧ (base.setF (NVM_STAT 1) NVM_STAT.BUSY 1).dev.boot.supplies = true ∧
    { low with dev := { low.dev with boot := { low.dev.boot with supplies := false } } }.dev.boot.supplies = false := by decide +kernel
theorem witness_StartUpStages : fusing.dev.boot.fused = false ∧ fusing.f CHIP_BOOT_STATUS CHIP_BOOT_STATUS.STAGE = 1 ∧ 0 < fusing.dies ∧
    ([] : List FuseMap).getD 0 noFuse = noFuse ∧ noFuse.slot = 0 ∧ ([{ noFuse with slot := 1 }].getD 0 noFuse).slot ≠ 0 ∧
    testing.mode = .test ∧ testing.f CHIP_BOOT_STATUS CHIP_BOOT_STATUS.STAGE = 2 ∧ (∀ d, d < testing.dies → (testing.pace d).cmd = none) := by
  decide +kernel

/-! ### Witnesses: registers, knot, snapshots, tables -/

/-- Die 7 is fenced. -/
def dieless : State := base.dieFence 7 2
/-- Ring 0 is enabled. -/
def ringOn : State := base.setF (JOB_CTL 0) JOB_CTL.EN 1
theorem witness_RegisterWriteClasses :
    (∀ a ∈ [0x400, TB_STAMP, SCAN_LM 1 2, LYR_DST_POS 7 6], shown.admits .host a ∧ shown.there a ∧ plainReg a = true) ∧
    (∀ a ∈ [0x8FFFC, 0x80000, 0x90000, 0xEFFFC], dieless.admits .host a ∧ 0x10000 ≤ a ∧ a < 0xF0000 ∧ a % 4 = 0 ∧
      (0x90000 ≤ a ∨ dieless.live (winDie a) = false)) ∧
    (∀ a ∈ [SCAN_LM 0 0, SCAN_LM 0 3, LYR_DST_POS 0 0], shown.admits .host (0xF0000 + (a - 0x10000)) ∧ a - 0x10000 < 0x10000 ∧
      plainReg a = true ∧ ∀ d ∈ shown.liveDies, shown.there (dieBase d + (a - 0x10000))) ∧
    (∀ x ∈ [(base, HOST_WIN_BASE_LO), (base, JOB_SQ_BASE_LO 7), (ringOn, JOB_SQ_BASE_LO 0), (ringOn, JOB_CQ_BASE_LO 0)],
      x.1.admits .host x.2 ∧ x.1.there x.2 ∧ isWriteLo x.2 = true ∧ ¬(0x2C00 ≤ x.2 ∧ x.2 < 0x3000) ∧ mgmtOnly x.2 = false ∧
      x.1.admits .host (x.2 + 4) ∧ x.1.there (x.2 + 4)) ∧
    ringOn.ringEn 0 = true ∧ window.portOn .host = true ∧ window.b KNOT_STATUS KNOT_STATUS.BUSY = true ∧ 0xFFFFF < 0x100000 := by
  decide +kernel
theorem witness_NarrowAccesses : base.admits .host (0xFFFFD / 4 * 4) ∧ base.listed (0xFFFFD / 4 * 4) = false ∧ 0xFFFFD % 4 + 3 ≤ 4 ∧
    base.admits .host (0x402 / 4 * 4) ∧ base.listed (0x402 / 4 * 4) = true ∧ base.dev.latched.look false HOST_ACC_ERR = false := by decide +kernel
theorem witness_RegisterReads : base.admits .host HOST_ACC_ERR_CNT ∧ HOST_ACC_ERR_CNT % 4 = 0 ∧ HOST_ACC_ERR_CNT < 0x10000 ∧
    rcBits HOST_ACC_ERR_CNT ≠ 0 ∧ base.present HOST_ACC_ERR_CNT = true ∧ base.dataReg HOST_ACC_ERR_CNT = none ∧
    base.dev.latchHi.look none (halfKey .host HOST_ACC_ERR_CNT) = none ∧
    base.admits .host (PE_ACC_ERR 7) ∧ PE_ACC_ERR 7 < 0x90000 ∧ rcBits (PE_ACC_ERR 7) ≠ 0 ∧ base.present (PE_ACC_ERR 7) = true ∧
    base.live (winDie (PE_ACC_ERR 7)) = true ∧ base.dataReg (PE_ACC_ERR 7) = none ∧
    base.admits .host TB_FRAME_LO ∧ TB_FRAME_LO % 4 = 0 ∧ isLo TB_FRAME_LO = true ∧ (rowAt TB_FRAME_LO).isSome = true ∧
    base.present TB_FRAME_LO = true ∧ base.dataReg TB_FRAME_LO = none ∧ base.dev.latchHi.look none (halfKey .host TB_FRAME_LO) = none ∧
    holdsRead TB_FRAME_LO = false ∧
    counted.admits .mgmt KNOT_PEEK_DATA ∧ counted.reg KNOT_PEEK_ADDR < 0x90000 ∧ counted.reg KNOT_PEEK_ADDR ≠ KNOT_PEEK_DATA ∧
    counted.dev.latchHi.look none (halfKey .mgmt KNOT_PEEK_DATA) = none ∧
    base.admits .host (PE_FENCE_CAUSE 7) ∧ base.live 7 = true ∧ base.dev.latchHi.look none (halfKey .host (PE_FENCE_CAUSE 7)) = none := by
  decide +kernel
theorem witness_KnotRequests : counted.admits .host KNOT_REQ ∧ counted.admits .mgmt KNOT_REQ ∧ shown.admits .mgmt (LYR_READY 7 6) ∧ shown.live 7 = true ∧ bitOf shown.img.layerEn 6 = true ∧
    shown.armBarred 7 6 = false ∧ shown.admits .host (LYR_READY 0 0) ∧ shown.live 0 = true ∧ bitOf shown.img.layerEn 0 = true ∧
    shown.admits .host CHIP_SNAP ∧ counted.b CHIP_SNAP CHIP_SNAP.BUSY = true ∧ viewed.admits .mgmt CHIP_SNAP ∧
    viewed.b CHIP_SNAP CHIP_SNAP.VIEW = true := by decide +kernel

theorem witness_TableData : (∀ n ∈ [4, 6], shown.admits .host (LYR_PAL_DATA 7 n) ∧ shown.live 7 = true ∧ bitOf shown.img.layerEn n = true ∧
      shown.dev.latchHi.look none (halfKey .host (LYR_PAL_DATA 7 n)) = none) ∧
    (∀ n ∈ [0, 3], shown.admits .host (LYR_COEF_DATA 0 n) ∧ shown.live 0 = true ∧ bitOf shown.img.layerEn n = true ∧
      shown.f (LYR_COEF_IDX 0 n) LYR_COEF_IDX.IDX < 448) ∧
    (∀ n ∈ [0, 6], shown.admits .host (LYR_LUT_DATA 0 n) ∧ bitOf shown.img.layerEn n = true) ∧
    shown.admits .mgmt LANY_PAL_DATA ∧ shown.b LANY_LOCK LANY_LOCK.LOCK = false ∧
    (∀ d ∈ [0, 7], base.live d = true ∧ base.admits .host (LAMP_DYN_DATA d) ∧ base.admits .host (ECC_REPAIR_DATA1 d) ∧
      base.admits .host (CAL_TRIM_DATA d) ∧ base.dev.latchHi.look none (halfKey .host (LAMP_DYN_DATA d)) = none ∧
      base.dev.latchHi.look none (halfKey .host (ECC_REPAIR_DATA1 d)) = none ∧
      base.dev.latchHi.look none (halfKey .host (CAL_TRIM_DATA d)) = none) ∧
    base.admits .mgmt (NVM_DATA 0) ∧ base.admits .mgmt (NVM_DATA 1) ∧ base.f (NVM_DIDX 1) NVM_DIDX.IDX ≤ 1010 := by decide +kernel

/-! ### Witnesses: raster, wall, source ports -/

theorem witness_FrameStart : shown.dies ≤ 8 ∧ shown.rasterOn = true ∧ shown.dev.image.isSome = true ∧ shown.live 7 = true := by decide +kernel
/-- The part with these requests of the management port and of the host. -/
def requested (s : State) (m h : ReqCopy) : State := withDev s fun d => { d with boot := { d.boot with reqMgmt := m, reqHost := h } }
/-- Port 0 feeds layer 0 and sleeps: in Live, and in Belay with the delay of Coil over. -/
def sleepy (m : Mode) : State :=
  let s := (shown.setF (LYR_CTL 0 0) LYR_CTL.EN 1).setF (LYR_CTL 0 0) LYR_CTL.SRC_SEL 1
  let s := (s.setF CHIP_MODE_CTL CHIP_MODE_CTL.AUTO_BELAY 1).setF CHIP_MODE_CTL CHIP_MODE_CTL.AUTO_COIL 1
  let s := (s.setF (SRC_STATUS 0) SRC_STATUS.ASLEEP 1).setF CHIP_MODE_CTL CHIP_MODE_CTL.COIL_DELAY 6
  let s := ((s.setReg (LYR_SRC_SIZE 0 0) 0x40004).setReg (LYR_DST_SIZE 0 0) 0x40004)
  withDev (inMode s m) fun d => { d with boot := { d.boot with coilFrames := 5 } }
theorem witness_LinesAndWindow : shown.rasterOn = true ∧ shown.dev.image.isSome = true ∧ shown.dev.tb.line < shown.dev.tb.ras.vtotal ∧
    (∀ l ∈ [(⟨-3, [], 0, false, false, false, 0, [], []⟩ : LineDie)], l.lockErr.natAbs ≤ 3) ∧ shown.b KNOT_STATUS KNOT_STATUS.BUSY = false ∧
    window.rasterOn = true ∧ window.dev.image.isSome = true ∧ window.b KNOT_STATUS KNOT_STATUS.BUSY = true ∧ window.dev.knot.held = [] ∧
    (∀ s ∈ [requested shown ⟨4, 1⟩ ⟨6, 1⟩, requested shown ⟨3, 1⟩ ⟨10, 1⟩, sleepy .live, sleepy .belay],
      s.rasterOn = true ∧ s.dev.image.isSome = true ∧ s.b KNOT_STATUS KNOT_STATUS.BUSY = false ∧ s.dev.boot.lanyLeft = 0 ∧
      s.dev.boot.idlePending = false ∧ s.dev.knot.fenceReq = []) ∧
    (requested shown ⟨4, 1⟩ ⟨6, 1⟩).req .mgmt = ⟨Mode.live.code, 1⟩ ∧ .live ∈ shown.mode.requests ∧
    (requested shown ⟨3, 1⟩ ⟨10, 1⟩).req .mgmt = ⟨Mode.idle.code, 1⟩ ∧ .idle ∉ shown.mode.requests ∧
    (requested shown ⟨3, 1⟩ ⟨10, 1⟩).req .host = ⟨Mode.dormant.code, 1⟩ ∧ .dormant ∈ shown.mode.requests ∧
    (∀ s ∈ [sleepy .live, sleepy .belay], (s.req .mgmt).result ≠ 1 ∧ (s.req .host).result ≠ 1 ∧ s.fedPorts = [0]) ∧
    (sleepy .live).mode = .live ∧ (sleepy .live).b CHIP_MODE_CTL CHIP_MODE_CTL.AUTO_BELAY = true ∧ (sleepy .live).asleep 0 = true ∧
    (sleepy .belay).mode = .belay ∧ (sleepy .belay).b CHIP_MODE_CTL CHIP_MODE_CTL.AUTO_COIL = true ∧
    (sleepy .belay).f CHIP_MODE_CTL CHIP_MODE_CTL.COIL_DELAY ≤ (sleepy .belay).dev.boot.coilFrames + 1 := by
  decide +kernel

/-! What a knot finds: whether the base view of the request has a fault, whether its pins fit, whether something holds it back. -/
theorem witness_knot_applies : asked.b KNOT_STATUS KNOT_STATUS.BUSY = true ∧ asked.dev.knot.held = [] ∧ asked.mode.knots = true ∧
    asked.dev.knot.dieLost = false ∧ asked.b KNOT_STATUS KNOT_STATUS.PEND = true ∧ asked.indepPend = [] ∧
    firstFault (asked.shadowFaults asked.img (asked.knotView true (List.range 7)) true) = none ∧
    asked.pinFit (asked.knotView true (List.range 7)) = .fits ∧
    ((List.range 7).any asked.fencePending || asked.loadWaits || asked.plWaits) = false := by decide +kernel
theorem witness_knot_deferred : askedFenced.fencePending 1 = true ∧ askedFenced.b KNOT_STATUS KNOT_STATUS.BUSY = true ∧
    askedFenced.dev.knot.held = [] ∧ askedFenced.indepPend = [] ∧ askedFenced.b KNOT_STATUS KNOT_STATUS.PEND = true ∧
    askedFenced.dev.knot.dieLost = false ∧ askedFenced.mode.knots = true ∧
    firstFault (askedFenced.shadowFaults askedFenced.img (askedFenced.knotView true (List.range 7)) true) = none ∧
    askedFenced.pinFit (askedFenced.knotView true (List.range 7)) = .fits := by decide +kernel
/-- The independent layer 1 stays behind, with the other layers in the base view. -/
theorem witness_knot_apart : ((List.range 7).filter fun k => askedApart.fencePending k && bitOf (askedApart.f KNOT_INDEP KNOT_INDEP.LAYERS) k) = [1] ∧
    askedApart.b KNOT_STATUS KNOT_STATUS.BUSY = true ∧ askedApart.dev.knot.held = [] ∧ askedApart.indepPend = [] ∧
    firstFault (askedApart.shadowFaults askedApart.img (askedApart.knotView true [0, 2, 3, 4, 5, 6]) true) = none ∧
    askedApart.pinFit (askedApart.knotView true [0, 2, 3, 4, 5, 6]) = .fits ∧
    ([0, 2, 3, 4, 5, 6].any askedApart.fencePending || askedApart.loadWaits || askedApart.plWaits) = false := by decide +kernel
theorem witness_knot_rejected : askedBad.b KNOT_STATUS KNOT_STATUS.BUSY = true ∧ askedBad.dev.knot.held = [] ∧ askedBad.indepPend = [] ∧
    firstFault (askedBad.shadowFaults askedBad.img (askedBad.knotView true (List.range 7)) true) = some (TB_HTIMING1, 1) := by decide +kernel
theorem witness_knot_pins :
    (∀ s ∈ [askedFull, askedNever], s.b KNOT_STATUS KNOT_STATUS.BUSY = true ∧ s.dev.knot.held = [] ∧ s.indepPend = [] ∧ s.mode.knots = true ∧
      s.dev.knot.dieLost = false ∧ s.b KNOT_STATUS KNOT_STATUS.PEND = true ∧ (List.range 7).any s.fencePending = false) ∧
    askedFull.pinFit (askedFull.knotView true (List.range 7)) = .waits ∧ askedNever.pinFit (askedNever.knotView true (List.range 7)) = .never 0 := by
  decide +kernel
/-- The pins and the values of the two have no fault. -/
theorem witness_knot_pins_good : firstFault (askedFull.shadowFaults askedFull.img (askedFull.knotView true (List.range 7)) true) = none ∧
    firstFault (askedNever.shadowFaults askedNever.img (askedNever.knotView true (List.range 7)) true) = none := by decide +kernel
/-- The part of layer 1: its fence pending; no room for its pins; a value at fault. -/
def partFenced : State := askedPart.setF (LYR_READY 0 1) LYR_READY.ARMED 1
def partFull : State := askedPart.setPins 0 (fullPins (.wb 0) (some 1))
def partBad : State := withDev askedPart fun d => { d with shadow := [(LYR_SRC_SIZE 0 1, 0x40004)] }
theorem witness_knot_parts :
    (∀ s ∈ [askedPart, partFenced, partFull, partBad], s.b KNOT_STATUS KNOT_STATUS.BUSY = true ∧ s.dev.knot.held = [] ∧ s.mode.knots = true ∧
      s.dev.knot.dieLost = false ∧ ¬ s.b KNOT_STATUS KNOT_STATUS.PEND = true ∧ s.indepPend = [1]) ∧ partFenced.fencePending 1 = true ∧
    askedPart.fencePending 1 = false ∧ askedPart.partFault (askedPart.knotView false [1]) 1 = none ∧
    askedPart.pinFit (askedPart.knotView false [1]) = .fits ∧ partFull.fencePending 1 = false ∧
    partFull.partFault (partFull.knotView false [1]) 1 = none ∧ partFull.pinFit (partFull.knotView false [1]) ≠ .fits ∧
    partBad.fencePending 1 = false ∧ partBad.partFault (partBad.knotView false [1]) 1 = some (LYR_SRC_SIZE 1 1) := by decide +kernel
/-- Held in a mode without knots, and after the loss of a die. -/
theorem witness_knot_held : (inMode asked .lanyardOnly).mode.knots = false ∧ (inMode asked .lanyardOnly).b KNOT_STATUS KNOT_STATUS.BUSY = true ∧
    (inMode asked .lanyardOnly).b KNOT_STATUS KNOT_STATUS.PEND = true ∧ (inMode asked .lanyardOnly).dev.knot.held = [] ∧
    (withDev asked fun d => { d with knot := { d.knot with dieLost := true } }).dev.knot.dieLost = true := by decide +kernel
/-- A part between the fuse load and its next step, in Idle, in a Reload and in Load, keeps what ties its state to the mode. -/
theorem witness_ModeChanges : (∀ s ∈ [base, loading, reloading], (s.dev.boot.fused = false → s.mode = .reset) ∧
      (s.dev.boot.loading.isSome = true → (s.mode = .load ∨ s.mode = .reload) ∧ s.dev.boot.idlePending = false ∧ s.dev.boot.lanyLeft = 0) ∧
      (s.dev.boot.idlePending = true → s.mode ∉ [Mode.reset, .test, .load]) ∧
      (s.dev.boot.lanyLeft ≠ 0 → s.mode ∉ [Mode.reset, .test, .load, .lanyardOnly])) ∧
    (step { base with pending := [.reqReset .host] } matches .next _) = true := by decide +kernel
theorem witness_RasterEvents : shown.rasterOn = true ∧ shown.dev.image.isSome = true ∧ shown.dev.boot.lanyLeft ≠ 1 ∧ matching.rasterOn = true ∧ matching.live 1 = true ∧ matching.wb (SCAN_LM 1 2) SCAN_LM.EN = true ∧
    matching.wf (SCAN_LM 1 2) SCAN_LM.LINE < matching.dev.tb.ras.vtotal ∧ matching.wb (SCAN_LM 0 3) SCAN_LM.EN = true ∧
    matching.wf (SCAN_LM 0 3) SCAN_LM.LINE < matching.dev.tb.ras.vtotal ∧ base.strandList = [] ∧ base.rasterOn = true := by decide +kernel
theorem witness_WallSync : master.rasterOn = true ∧ master.b TB_CTL TB_CTL.SYNC_OUT_EN = true ∧
    master.unsentPlace 0 = some master.dev.tb.place ∧ master.startAt master.dev.tb.place = some 10000 ∧ master.slave = false ∧
    (0 : Int) ≤ 10000 + (master.ofsAt master.dev.tb.place).1 ∧ (master.dev.tb.wordEnd : Int) ≤ 10000 + (master.ofsAt master.dev.tb.place).1 ∧
    ((master.ofsAt master.dev.tb.place).2 : Int) ≤ 10000 + (master.ofsAt master.dev.tb.place).1 ∧
    master.b TB_CTL TB_CTL.SYNC_MEAS = true ∧ slave.rasterOn = true ∧ slave.slave = true ∧ 223 < 224 ∧ 288 < 289 ∧ 224 ≤ 224 ∧ 288 ≤ 288 ∧
    syncWordOk 1 = false ∧ syncWord 5 7 4 false / 2 ^ 48 % 8 = 7 ∧ syncWordOk (syncWord 5 6 4 false) = true ∧
    syncWord 5 6 4 false / 2 ^ 48 % 8 < 7 ∧ slave.f TB_STATUS TB_STATUS.STATE = 2 := by decide +kernel
/-- The same with no line received. -/
def cutShort : State := withDev capturing fun d => { d with src := [(0, { capturing.port 0 with live := some { twoLines with rows := [] } })] }
theorem witness_SourceFrames : linked.srcAnswers 0 = true ∧ linked.hpd 0 = true ∧ linked.b (SRC_STATUS 0) SRC_STATUS.LINK_UP = true ∧
    linked.sw 0 = 3 ∧ ([0, 1, 2].find? fun b => !([linked.sd 0, linked.sc 0, linked.sr 0].contains b)) = some 1 ∧
    (capturing.port 0).live = some twoLines ∧ capturing.sw 0 < 3 ∧ (capturing.port 0).geo.w ≠ 0 ∧
    twoLines.rows.length = (capturing.port 0).geo.h ∧ twoLines.rows ≠ [] ∧
    (∀ r ∈ twoLines.rows, r.length = (capturing.port 0).geo.w) ∧
    twoLines.lineBytes (capturing.port 0).geo.w ≤ (capturing.port 0).geo.stride ∧
    (cutShort.port 0).live = some { twoLines with rows := [] } ∧ ([] : List (List (Nat × Nat × Nat))).length ≠ (cutShort.port 0).geo.h ∧
    twoLines.unsupported = false := by decide +kernel
theorem witness_SourceLinks : linked.srcAnswers 0 = true ∧ linked.hpd 0 = true ∧ linked.b (SRC_STATUS 0) SRC_STATUS.LINK_UP = true ∧ 7 < 8 := by
  decide +kernel
theorem witness_PortAndWriteback : shown.admits .host (SRC_CTL 0) ∧ shown.live 0 = true ∧ shown.b (SRC_CTL 0) SRC_CTL.EN = false ∧
    bitOf (0x80000000#32).toNat 31 = true ∧ linked.admits .host (SRC_CTL 0) ∧ linked.live 0 = true ∧ linked.b (SRC_CTL 0) SRC_CTL.EN = true ∧
    bitOf (0x7FFFFFFF#32).toNat 31 = false ∧ composed.dev.comp.wbDue.look none 0 = some 9 ∧
    (∀ i, i < (composed.section 0).h → (composed.dev.comp.full.look [] (lineKey 0 ((composed.section 0).y + i))).isEmpty = false) := by
  decide +kernel

/-! ### Witnesses: lamp tables, fences, faults -/

theorem witness_LampTableLoads : base.admits .host (LAMP_EOTF_LOAD 7) ∧ base.live 7 = true ∧ base.b (LAMP_STATUS 7) LAMP_STATUS.LOAD_BUSY = false ∧
    base.admits .mgmt (LAMP_OUT_LOAD 7) ∧ base.b (LAMP_OUT_STATUS 7) LAMP_OUT_STATUS.LOAD_BUSY = false ∧
    tables.admits .host (LAMP_EOTF_LOAD 0) ∧ tables.live 0 = true ∧ tables.b (LAMP_STATUS 0) LAMP_STATUS.LOAD_BUSY = true ∧
    tables.dev.lamp.eotfLoad.look none 0 = some 0x1000 ∧ tables.rasterOn = true ∧
    tables.wf (LAMP_CTL 0) LAMP_CTL.EOTF_BANK ≠ tables.f (LAMP_STATUS 0) LAMP_STATUS.LOAD_BANK ∧
    (∀ e, e < 8 → e ≠ 0 → tables.dev.lamp.eotfLoad.look none e = none ∧ tables.dev.lamp.outLoad.look none e = none) ∧
    tables.dev.lamp.outLoad.look none 0 = some 0x2000 ∧
    tables.wf (LAMP_OUT_CTL 0) LAMP_OUT_CTL.OUT_BANK ≠ tables.f (LAMP_OUT_STATUS 0) LAMP_OUT_STATUS.LOAD_BANK ∧
    base.admits .host (LAMP_DYN_CLR 0) ∧ base.live 0 = true := by decide +kernel
/-- Four blocks of die 1 and four cells of a fifth are fenced. -/
def fourBlocks : State :=
  ((running.setReg (PE_FENCE 1 0) 0xF0).setReg (PE_FENCE 1 1) 0xFFFFFFFF).setReg (PE_FENCE 1 2) 0xFFFFFFFF
theorem witness_CellFences : running.live 7 = true ∧ cellFenced (running.cellsNow 7) 127 = false ∧ running.fencedIn 7 7 < 4 ∧ running.mode ≠ .reset ∧
    running.fencedIn 7 7 < 16 ∧
    ((List.range 8).filter fun k => running.fencedIn 7 k = 16).length < 4 ∧ running.admits .host (PE_FENCE_REQ 7) := by decide +kernel
theorem witness_UndefinedInstructions : running.engineRuns 130 = true ∧ 130 < 1024 ∧ running.mode ≠ .reset ∧ running.fencedIn 1 0 < 4 ∧
    (running.setReg (PE_FENCE 1 0) 0xF0).engineRuns 130 = true ∧ 4 ≤ (running.setReg (PE_FENCE 1 0) 0xF0).fencedIn 1 0 ∧
    ((List.range 8).filter fun k => (running.setReg (PE_FENCE 1 0) 0xF0).fencedIn 1 k = 16).length < 4 ∧
    fourBlocks.engineRuns 130 = true ∧ 4 ≤ fourBlocks.fencedIn 1 0 ∧
    4 ≤ ((List.range 8).filter fun k => fourBlocks.fencedIn 1 k = 16).length ∧
    (Instr.shr 130 15 14 13 true 31 true true 6).wf = true ∧ insWord (.shr 130 15 14 13 true 31 true true 6) = some 0x8FFB77F4 ∧
    opcodeListed (bits 0x10000000 31 26) = false ∧ (false || (0 : Nat) = 0) = true := by decide +kernel
/-- In mode `m` with the Lanyard layer on, its buffer on die 0, its rectangle on both sections; with the transition to Lanyard-only under way;
with the control star of die 2 lost in this frame. -/
def lanyard (m : Mode) : State :=
  let s := (((inMode shown m).setF LANY_CTL LANY_CTL.EN 1).setF LANY_SRC_SIZE LANY_SRC_SIZE.SW 4).setF LANY_SRC_SIZE LANY_SRC_SIZE.SH 4
  withDev (s.setF LANY_DST_POS LANY_DST_POS.DX 6) fun d => { d with image := some { picture with sections := [⟨0, 0, 8, 4⟩, ⟨8, 0, 8, 4⟩] } }
def leaving (n : Nat) : State := withDev shown fun d => { d with boot := { d.boot with lanyLeft := n } }
def starless : State := withDev shown fun d => { d with boot := { d.boot with starLost := [2] } }
theorem witness_FatalErrorsAndDieFences : testing.mode = .test ∧ loading.mode = .load ∧ 15 < 16 ∧ dormant.mode = .dormant ∧
    dormant.fatalReset = false ∧ (0 : Nat) ≠ 1 ∧ (lanyard .idle).mode ∉ [Mode.reset, .test, .load] ∧ (lanyard .idle).fatalReset = false ∧
    ((lanyard .idle).setBoot { (lanyard .idle).dev.boot with die0Fault := true }).fatalReset = true ∧
    ((lanyard .dormant).setBoot { (lanyard .dormant).dev.boot with die0Fault := true }).fatalReset = true ∧
    (lanyard .dormant).mode = .dormant ∧ (lanyard .idle).mode ≠ .dormant ∧ (lanyard .idle).mode ≠ .lanyardOnly ∧
    (lanyard .idle).dev.boot.lanyLeft = 0 ∧ (∀ n ∈ [1, 2], (leaving n).rasterOn = true ∧ (leaving n).dev.image.isSome = true ∧
    (leaving n).dev.boot.lanyLeft = n) ∧ shown.live 7 = true ∧ shown.mode ∉ [Mode.reset, .lanyardOnly] ∧ shown.dev.boot.lanyLeft = 0 ∧
    shown.dev.boot.starLost = [] ∧ (lanyard .lanyardOnly).mode = .lanyardOnly ∧ (lanyard .lanyardOnly).live 1 = true ∧
    (lanyard .lanyardOnly).lanyOn (lanyard .lanyardOnly).reg = true ∧
    ((lanyard .lanyardOnly).section 1).meets ((lanyard .lanyardOnly).lanyRect (lanyard .lanyardOnly).reg) = true ∧
    starless.rasterOn = true ∧ starless.lanyOn starless.reg = false ∧ starless.fenced 0 = false ∧ 2 ∈ starless.dev.boot.starLost ∧
    starless.live 3 = true := by decide +kernel
/-! ### Witnesses: partner chips -/

/-- Partner 1 with a keep limit of 9 at most, and without one. -/
def limited (m : Nat) : State := active.setPartner 0 1 { active.partner 0 1 with decl := { declH with keepMax := m } }
theorem witness_PartnerCommands : active.reached 0 1 = [1] ∧ (1 : Nat) ≠ 0x3FF ∧ 1 < 512 ∧ (active.partner 0 1).backOff = false ∧ 255 ≤ 255 ∧
    255 < 256 ∧ bitOf (active.partner 0 1).decl.widths (15 - 10) = true ∧ 0x10 ≤ 0x10 ∧ 0xFF ≤ 0xFF ∧ 4 < 5 ∧ 5 ≤ 5 ∧ (1 : Nat) ≠ 0 ∧
    65535 ≤ 65535 ∧ (∀ m ∈ [0, 9], (limited m).reached 0 1 = [1] ∧ ((limited m).partner 0 1).backOff = false ∧
      ((limited m).partner 0 1).decl.keepMax = m) ∧ (0 < 9 ∧ 9 ≤ 9) ∧ 9 < 10 ∧ 1 < 2 ∧ 1 ≤ 1 := by decide +kernel
theorem witness_PartnerBroadcasts : (active.reached 0 0x3FF).Nodup ∧ active.reached 0 0x3FF = [0, 1] ∧
    (∀ k, k < 512 → (active.partner 0 k).skip = false) := by decide +kernel
/-- Partner 0 of strand 0 with a vetoed marker; the same when it has missed the marker of frame 4. -/
def vetoing : State := active.setPartner 0 0 { active.partner 0 0 with
  launch := some (2, true, 500)
  missed := some 4 }
/-- The class L partner about to launch frame 4. -/
def lowLaunch : State := active.setPartner 4 0 { active.partner 4 0 with launch := some (4, true, 500) }
theorem witness_PartnerLaunches : (active.partner 0 0).missed ≠ some 4 ∧ (vetoing.partner 0 0).missed = some 4 ∧
    (vetoing.partner 0 0).addr = some 0 ∧ (vetoing.partner 0 0).launch = some (2, true, 500) ∧ (vetoing.partner 0 0).decl.classL = false ∧
    2 ∈ (vetoing.partner 0 0).veto ∧ (active.partner 0 0).addr = some 0 ∧ (active.partner 0 0).launch = some (4, true, 500) ∧
    (active.partner 0 0).decl.classL = false ∧ 4 ∉ (active.partner 0 0).veto ∧ (active.partner 0 0).spoiled = false ∧ 511 < 512 ∧ 512 ≤ 512 ∧
    (active.partner 0 1).addr = some 1 ∧ (active.partner 0 1).launch = none ∧ (active.partner 0 1).last = some (3, 100) ∧
    (active.partner 0 1).decl.classL = false ∧ (active.partner 4 0).row = some ⟨10, 5, 2⟩ ∧ (5 : Nat) ≠ 0 ∧ (active.partner 4 0).fwd = 0 ∧
    (lowLaunch.partner 4 0).addr = some 0 ∧ (lowLaunch.partner 4 0).launch = some (4, true, 500) ∧
    (lowLaunch.partner 4 0).decl.classL = true := by decide +kernel
/-- A broadcast ROW waits for the class L partner. -/
def bcastRow : State := withDev active fun d => { d with scan := { d.scan with queue := [(4, [.row 0 0 0x3FF 2 10 5])] } }
theorem witness_PacketsLeave : (bcastRow.packs 4).2 = [.row 0 0 0x3FF 2 10 5] ∧ bcastRow.reached 4 0 = [0] ∧ bcastRow.rowFree 0 = true ∧
    (bcastRow.partner 4 0).decl.classL = true ∧ (bcastRow.partner 4 0).last.isSome = true ∧ (∀ k, k < 512 → (bcastRow.partner 4 k).skip = false) ∧
    bcastRow.reached 4 0x3FF = [0] ∧ onePartner.reached 0 0x3FF = [0] ∧ (onePartner.partner 0 0).addr = some 0 ∧ (0 : Nat) ≠ 0x3FF ∧
    (onePartner.packs 0).2 = [.drive 1 0 0 0 [5, 6] [0], .drive 1 1 1 0 [9] [1]] ∧ (onePartner.strand 0).run = 0 ∧
    (withStrand onePartner 0 fun t => { t with run := 8 }).reached 0 0x3FF = [0] ∧ active.reached 4 0x3FF = [0] ∧
    (active.partner 4 0).addr = some 0 ∧ (active.packs 4).2 = [.row 0 0 0 2 10 5] ∧ active.reached 4 0 = [0] ∧
    (active.partner 4 0).decl.classL = true ∧ (active.partner 4 0).last.isSome = true ∧ active.rowFree 0 = true ∧
    (∀ k, k < 512 → (onePartner.partner 0 k).skip = false) ∧ (∀ k, k < 512 → (active.partner 4 k).skip = false) ∧
    (Ctl.ack 1023 63 255 255 255 0xFFFFFFFF).wf false = true ∧ (Ctl.cmd 255 1023 63 0xFFFFFFFF 0xFFFFFFFF 0xFFFF).wf true = true ∧
    1023 < 1024 ∧ 0xFFFF < 2 ^ 16 ∧ ([1, 0xFFFF] : List Nat).length < 2 ^ 16 ∧ (∀ c ∈ [1, 0xFFFF], c < 2 ^ 16) ∧ 2 ^ 48 - 1 < 2 ^ 48 ∧
    2 ^ 24 - 1 < 2 ^ 24 := by decide +kernel

/-! ### Witnesses: strands -/

/-- Partner k of strand 0 sends these messages. -/
def speaking (k : Nat) (q : List BackMsg) : State := active.setPartner 0 k { active.partner 0 k with queue := q }
/-- A partner in excess of strand 0; a sleeping one. -/
def tooMany : State := active.setPartner 0 2 { PartnerSt.reset with queue := [.decl 0 true] }
def dozing : State := asleep.setPartner 0 0 { asleep.partner 0 0 with fwd := 2 }
theorem witness_BackMessages : active.sends 0 (active.holders 0 0) (.echo 9 9) = false ∧ active.sends 0 (active.holders 0 0) (.echo 3 1) = true ∧
    active.cmdOf 0 0 3 = none ∧ (speaking 0 [.echo 7 1]).hears 0 = true ∧
    (speaking 0 [.echo 7 1]).sends 0 ((speaking 0 [.echo 7 1]).holders 0 0) (.echo 7 1) = true ∧
    (speaking 0 [.echo 7 1]).cmdOf 0 0 7 = some ⟨0, 3, 7, 1, 0, 0, false, false⟩ ∧ (speaking 1 [.ack 6 8 0 4 5]).hears 0 = true ∧
    (speaking 1 [.ack 6 8 0 4 5]).sends 0 ((speaking 1 [.ack 6 8 0 4 5]).holders 0 1) (.ack 6 8 0 4 5) = true ∧
    (speaking 1 [.ack 6 8 0 4 5]).cmdOf 0 1 8 = some ⟨1, 6, 8, 4, 0, 0, true, false⟩ ∧ tooMany.hears 0 = true ∧ tooMany.excess 0 0 = [2] ∧
    tooMany.sends 0 (tooMany.excess 0 0) (.decl 0 true) = true ∧
    (speaking 0 [.status 1 127 2 3 4]).sends 0 ((speaking 0 [.status 1 127 2 3 4]).holders 0 0) (.status 1 127 2 3 4) = true ∧
    (speaking 0 [.fault [(5, true)]]).sends 0 ((speaking 0 [.fault [(5, true)]]).holders 0 0) (.fault [(5, true)]) = true ∧
    dozing.hears 0 = true ∧ dozing.mayWake 0 0 = true ∧ dozing.fwdState 0 = 2 ∧ dozing.b (strReg STR_SLEEP_CTL 0) STR_SLEEP_CTL.WAKE_ACT = true ∧ active.hears 0 = true ∧ 0 < active.partners 0 ∧ 1 < active.partners 0 ∧
    active.cmdOf 0 0 7 = some ⟨0, 3, 7, 1, 0, 0, false, false⟩ ∧ ((active.strand 0).rtts.look [] 0).length < 15 ∧
    active.cmdOf 0 1 8 = some ⟨1, 6, 8, 4, 0, 0, true, false⟩ ∧ 2 ^ 32 - 1 < 2 ^ 32 ∧ (0x7F : Nat) ≠ 0x80 ∧ 255 < 256 ∧
    asleep.hears 0 = true ∧ asleep.fwdState 0 = 2 ∧ asleep.b (strReg STR_SLEEP_CTL 0) STR_SLEEP_CTL.WAKE_ACT = true ∧
    asleep.mode ≠ .dormant ∧ active.dev.hold = [] ∧ active.holdsBack 0 = false ∧
    dozing.dev.hold = [] ∧ dozing.holdsBack 0 = false := by decide +kernel
/-- Strand 0 collects DECLs and has none. -/
def collecting : State := withStrand (bringUp 9) 0 fun t => { t with stage := 0 }
theorem witness_BringUpSteps : (∀ c ∈ [2, 3, 4, 6, 7, 8, 11], (bringUp c).strandOk 0 = true ∧ (bringUp c).strState 0 = c) ∧
    bitOf 1 0 = true ∧ (bringUp 3).detects 0 1 = true ∧ 15 < 16 ∧ (((bringUp 7).strand 0).eqReq.look 0 0 % 256) < 256 ∧
    Nat.land (setBit ((bringUp 4).strand 0).eqDone 0) ((bringUp 4).f (strReg STR_TRAIN_STAT 0) STR_TRAIN_STAT.LANES_SEEN) =
      (bringUp 4).f (strReg STR_TRAIN_STAT 0) STR_TRAIN_STAT.LANES_SEEN ∧ ((bringUp 6).strand 0).stage = 1 ∧
    (bondLanes ((bringUp 7).strand 0).width).contains 0 = true ∧ bitOf ((bringUp 7).strand 0).eqDone 0 = false ∧
    (∀ c ∈ bondLanes ((bringUp 7).strand 0).width, c ≠ 0 → bitOf ((bringUp 7).strand 0).eqDone c = true) ∧
    ((bringUp 8).strand 0).stage = 1 ∧ ((bringUp 11).strand 0).stage = 4 ∧ (bringUp 3).training 0 = true ∧ (bringUp 9).training 0 = true ∧
    (bringUp 3).enumerating 0 = false ∧ (collecting.training 0 = true ∧ collecting.enumerating 0 = true ∧ (collecting.strand 0).stage = 0 ∧
    collecting.declared 0 ≠ List.range (collecting.strEnt 0).chain.length) ∧
    (bringUp 2).mode ≠ .dormant ∧ active.admits .host (strReg STR_CTL 0) ∧ active.strState 0 ≠ 0 ∧ active.strandOk 0 = true ∧
    active.mode ≠ .dormant := by decide +kernel
/-- The region of die 0 is in Nap. -/
def regionNap : State := active.setPwr 0 8 2
theorem witness_StrandLosses : active.dev.hold = [] ∧ active.holdsBack 0 = false ∧ regionNap.strandOk 0 = true ∧ regionNap.strState 0 = 10 ∧
    regionNap.b (strReg STR_SLEEP_STAT 0) STR_SLEEP_STAT.BACK = false ∧ regionNap.dev.hold = [] ∧ regionNap.holdsBack 0 = true ∧ active.strandOk 0 = true ∧ active.strState 0 = 10 ∧ active.b (strReg STR_SLEEP_STAT 0) STR_SLEEP_STAT.BACK = false ∧
    backWaking.strandOk 0 = true ∧ backWaking.strState 0 = 10 ∧ (backWaking.strand 0).backWake = true ∧
    backWaking.b (strReg STR_ADAPT 0) STR_ADAPT.WINDOW = false ∧ backWaking.b (strReg STR_SLEEP_STAT 0) STR_SLEEP_STAT.BACK = true := by decide +kernel
/-- No measurement is ever due; one is. -/
def never : State := quiet.setF TB_STAMP TB_STAMP.PERIOD 0
def due : State := withDev (quiet.setF TB_STAMP TB_STAMP.PERIOD 2) fun d => { d with tb := { d.tb with place := 5 } }
theorem witness_StrandCommands : quiet.strandOk 0 = true ∧ quiet.strState 0 = 10 ∧ 0x3FE < 0x3FF ∧ 255 < 256 ∧
    quiet.admits .host (strReg STR_PCMD 0) ∧ quiet.b (strReg STR_PCMD_STAT 0) STR_PCMD_STAT.BUSY = false ∧
    quiet.backHeld 0 = false ∧ backWaking.b (strReg STR_PCMD_STAT 0) STR_PCMD_STAT.BUSY = false ∧ backWaking.admits .mgmt (strReg STR_PCMD 0) ∧
    backWaking.strState 0 = 10 ∧ backWaking.b (strReg STR_SLEEP_STAT 0) STR_SLEEP_STAT.BACK = true ∧ (never.f TB_STAMP TB_STAMP.PERIOD = 0 ∧
    never.strandOk 0 = true ∧ never.strState 0 = 10) ∧ (due.strandOk 0 = true ∧ due.strState 0 = 10 ∧ due.backHeld 0 = false ∧ due.fwdShut 0 = false ∧
    (due.strand 0).out = [] ∧ due.f TB_STAMP TB_STAMP.PERIOD ≠ 0 ∧ (due.strand 0).meas + due.f TB_STAMP TB_STAMP.PERIOD ≤ due.dev.tb.place) ∧
    frozen.backHeld 0 = false ∧ ((quiet.strand 0).out.any fun c => c.addr = 0x3FE) = false ∧
    ¬ (3 ≤ 2 ∨ (6 ≤ 3 ∧ 3 ≤ 15)) ∧ ¬ (16 ≤ 2 ∨ (6 ≤ 16 ∧ 16 ≤ 15)) ∧ oneCmd.strandOk 0 = true ∧ oneCmd.strState 0 = 10 ∧
    (oneCmd.strand 0).out = [⟨1, 5, 8, 4, 0, 2, true, false⟩] ∧ oneCmd.fwdShut 0 = false ∧ 2 < 3 ∧ quiet.fwdShut 0 = false ∧ frozen.fwdShut 0 = false ∧ (quiet.strand 0).out = [] ∧
    frozen.strandOk 0 = true ∧ frozen.strState 0 = 10 ∧ frozen.b (laneReg STR_ADAPT 0 0) STR_ADAPT.WINDOW = false ∧
    frozen.b (laneReg STR_ADAPT 0 1) STR_ADAPT.WINDOW = true ∧ frozen.b (strReg STR_ADAPT 0) STR_ADAPT.FROZEN = true ∧
    (frozen.strand 0).primer = false ∧ (frozen.strand 0).out = [] ∧ 0 % 16 + 15 < 16 := by decide +kernel
theorem witness_LinkTests : linkTest.strandOk 0 = true ∧ 4 < 5 ∧ linkTest.admits .host (strReg STR_PRBS_CTL 0) ∧ linkTest.strState 0 = 12 ∧
    (linkTest.strand 0).out = [] ∧ linkTest.f (strReg STR_PRBS_TIME 0) STR_PRBS_TIME.US ≠ 0 ∧
    linkTest.b (strReg STR_PRBS_STAT 0) STR_PRBS_STAT.BUSY = false ∧ 0 % 16 + laneCount (linkTest.strand 0).width ≤ 16 ∧ 1023 < 1024 ∧
    quiet.strandOk 0 = true ∧ quiet.admits .host (strReg STR_PRBS_CTL 0) ∧ quiet.strState 0 ≠ 12 ∧ testRuns.strandOk 0 = true ∧
    (testRuns.strand 0).test = some (0, 0, 1) ∧ (testRuns.strand 0).width = 0 ∧ quiet.admits .mgmt (STR_PRBS_INJ 0 1) ∧ linkTest.backHeld 0 = false ∧
    quiet.live 0 = true ∧ quiet.present (STR_PRBS_INJ 0 0) = true ∧ quiet.admits .host (STR_PRBS_INJ 0 0) ∧ quiet.laneStrand 0 0 / 16 = 0 ∧
    (∀ k, k < 512 → (quiet.partner (quiet.laneStrand 0 0) k).skip = false) := by decide +kernel
/-- Every line of segment 0 has been taken and has left. -/
def allSent : State := withDev scanning fun d => { d with scan := { d.scan with
  taken := (List.range 4).map (fun y => (0, y))
  queue := [] } }
theorem witness_ScanOut : scanning.hasFrame 0 = true ∧ scanning.marked 0 = true ∧ (inMode scanning .reload).hasFrame 0 = true ∧
    (inMode scanning .reload).marked 0 = true ∧ scanning.img.segs[0]? = some ⟨0, 0, 8, 4, 0, 0, 0, 0, 0, 0⟩ ∧
    (⟨0, 0, 8, 4, 0, 0, 0, 0, 0, 0⟩ : Seg).on = true ∧ scanning.strandSends 0 0 = true ∧
    scanning.unsent 0 0 ⟨0, 0, 8, 4, 0, 0, 0, 0, 0, 0⟩ 0 = true ∧ (0, 0) ∉ scanning.dev.scan.under ∧
    allSent.hasFrame 0 = true ∧ allSent.img.segs[0]? = some ⟨0, 0, 8, 4, 0, 0, 0, 0, 0, 0⟩ ∧ allSent.strandSends 0 0 = true ∧
    allSent.unsent 0 0 ⟨0, 0, 8, 4, 0, 0, 0, 0, 0, 0⟩ 3 = false ∧ scanning.live 0 = true ∧
    scanning.dev.scan.done.look 0 0 ≤ scanning.placeOf 0 ∧ (0, 0) ∈ scanning.dev.scan.sentAny ∧ scanning.drivesLeft 0 0 = false := by decide +kernel

/-! ### Witnesses: content store, memory -/

/-- Low addresses of die 0 are plain memory when no region of it is protected. -/
theorem plain_low {s : State} {a n : Nat} (h : a + n ≤ 2 ^ 33) (live : s.live 0 = true) (cap : s.capacity 0 = 2 ^ 33)
    (prot : ((List.range 8).all fun k => !s.protEn 0 k) = true) (lany : s.inLany a n = false) : s.plain a n := by
  have p : ∀ k, k < 8 → s.protEn 0 k = false := by simpa [List.all_eq_true] using prot
  refine ⟨by omega, lany, fun i hi => ?_⟩
  have hd : dieOf (a + i) = 0 := by unfold dieOf; omega
  have ho : offOf (a + i) = a + i := by unfold offOf; omega
  have hw : dieOf (wordOf (a + i)) = 0 := by unfold wordOf dieOf; omega
  constructor
  · have hc : s.inCheck 0 (a + i) = false := by
      unfold State.inCheck; simp only [List.any_eq_false, List.mem_range]; intro k hk; simp [p k hk]
    unfold State.addrBad; rw [hd, ho, live, cap, hc]; simp; omega
  · rw [hw]; unfold State.protOf; simp only [List.find?_eq_none, List.mem_range]; intro k hk; simp [p k hk]

/-- The drive of die 0 holds a superblock in CU 0. -/
def withSuper : State := withDev (store 0 false) fun d => { d with coil := { d.coil with
  disk :=
    let bs := leBytes 4 0x454F485A ++ leBytes 4 0x01000100 ++ List.replicate 52 0
    (bs ++ leBytes 4 (crc32c bs).toNat).zipIdx.filterMap fun x => if x.1 = 0 then none else some (x.2, x.1) } }
/-- Every command of the drive has been answered but the table read. -/
def tabling : State := withDev (store 0 false) fun d => { d with coil := { d.coil with drives := d.coil.drives.map fun e => (e.1, { e.2 with io := [] }) } }
theorem witness_ContentStore : (store 0 false).driveReady 0 = true ∧ ((store 0 false).drive 0).down = false ∧ ((store 1 false).drive 0).errs < 2 ∧
    ((store 1 false).drive 0).io ≠ [] ∧ (store 1 false).driveReady 0 = true ∧ ((store 1 false).drive 0).down = false ∧
    (65535 : Nat) ≠ 0 ∧ 65535 < 2 ^ 16 ∧ (store 2 false).driveReady 0 = true ∧ ((store 2 false).drive 0).down = false ∧
    ((store 2 false).drive 0).errs = 2 ∧ tabling.driveReady 0 = true ∧ (tabling.drive 0).down = false ∧ (tabling.drive 0).errs < 2 ∧
    tabling.dev.coil.loading.isSome = true ∧ tabling.tableDie = some 0 ∧ (tabling.drive 0).io = [] ∧
    ((store 0 true).drive 0).down = true ∧ (withSuper.findSuper 0).isSome = true ∧ base.live 1 = true ∧ (base.drive 1).down = false ∧
    (store 0 false).dev.coil.loading = some 0 ∧ (store 0 false).tableDie = some 0 ∧
    COIL_CTL.PL.get ((store 0 false).shW COIL_CTL).toNat = 0 ∧ 1 < (store 0 false).slots ∧
    ((store 0 false).slot 1).map (·.full) = some false ∧ ((store 0 false).slot 0).map (·.full) = some true ∧
    (store 0 false).coilRuns = false ∧ ((store 0 false).drive 0).id.lba = 4096 ∧
    (((store 0 false).slot 1).bind fun r => (store 0 false).frameAt r.clip r.frame) = some (0, 16384) ∧
    ringAddr (store 0 false).reg 1 = 0x2000 := by decide +kernel
theorem witness_ring_plain : (store 0 false).plain 0x2000 4096 :=
  plain_low (by decide) (by decide +kernel) (by decide +kernel) (by decide +kernel) (by decide +kernel)
/-- The region of die 0 is in Deep. -/
def deepRegion : State := filled.setPwr 0 8 3
theorem witness_DramAccesses : filled.up = true ∧ 2 ^ 40 - 1 < 2 ^ 40 ∧ (⟨7, 7⟩ : DramReq).cls < 8 ∧ (⟨7, 7⟩ : DramReq).die < 8 ∧ filled.plain (2 ^ 33 - 2) 2 ∧ filled.portOn .host = true ∧
    filled.pwr (dieOf (2 ^ 33 - 2)) 8 = 0 ∧ filled.plain (filled.bar2Addr 0x2000) 2 ∧ ([1, 2] : List Byte) ≠ [] ∧ filled.rangeBad (2 ^ 33 - 1) 2 = true ∧
    filled.addrBad (2 ^ 33 - 1) = false ∧ filled.inLany (2 ^ 33 - 1) 2 = false ∧
    (∀ i, i < 2 → filled.protOf (dieOf (wordOf (2 ^ 33 - 1 + i))) (offOf (wordOf (2 ^ 33 - 1 + i))) = none) ∧ filled.addrBad (2 ^ 33) = true ∧
    filled.rangeBad 0x1000000 1 = false ∧ filled.inLany 0x1000000 1 = true ∧ filled.rangeBad 0x300F 1 = false ∧
    filled.inLany 0x300F 1 = false ∧ (∃ p ∈ filled.pinHits 0x300F 1, p.policy = 1) ∧ filled.dev.mem.merge = [] ∧
    (∀ s ∈ [napping, deepRegion], s.up = true ∧ s.mode ≠ .dormant ∧ s.live (dieOf 0x2000) = true ∧ 0 < s.pwr (dieOf 0x2000) 8 ∧ s.pwr (dieOf 0x2000) 8 < 4) ∧
    filled.rangeBad (filled.bar2Addr (2 ^ 33)) 1 = true := by decide +kernel
/-- No pin meets the first bytes of DRAM. -/
theorem witness_unpinned : filled.unpinned 0x2000 2 := by
  intro d p hp
  by_cases h : d = 0
  · subst h
    have : p = ⟨.layer 0 0, 0x3000, 0x3010, 1, none⟩ ∨ p = ⟨.layer 1 0, 0x3010, 0x3020, 0, none⟩ := by
      simpa [filled, withDev, State.pins, AMap.look, AMap.get] using hp
    rcases this with rfl | rfl <;> decide
  · simp [filled, withDev, State.pins, AMap.look, AMap.get] at hp
    exact absurd hp.1 h
theorem witness_ProtectedWords : guarded.up = true ∧ guarded.journal = [] ∧ 0x200000 < 2 ^ 40 ∧ 0x200000 % 8 = 0 ∧
    guarded.rangeBad 0x200000 8 = false ∧ guarded.inLany 0x200000 8 = false ∧ guarded.pwr (dieOf 0x200000) 8 = 0 ∧ merging.pwr (dieOf 0x200010) 8 = 0 ∧ guarded.protOf (dieOf 0x200000) (offOf 0x200000) = some 1 ∧
    0x11FFFF8 % 8 = 0 ∧ guarded.protOf (dieOf 0x11FFFF8) (offOf 0x11FFFF8) = some 1 ∧ guarded.rangeBad 0x11FFFF8 8 = false ∧
    guarded.mergeOf 0x200000 = none ∧ 6 + 1 < 8 ∧ (guarded.dev.mem.merge.filter (·.die = 0)).length < 8 ∧
    merging.up = true ∧ merging.journal = [] ∧ (merging.mergeOf 0x200000).map (·.die) = some 0 ∧ eccDecode (merging.syndrome 0x200000) = .ok ∧
    merging.protOf 0 0x200000 = some 1 ∧ merging.protOf 0 0x200010 = some 1 ∧ (merging.mergeOf 0x200010).map (·.die) = some 0 ∧
    eccDecode (merging.syndrome 0x200010) = .ue ∧ guarded.mergeOf 0x200010 = none ∧ eccDecode (guarded.syndrome 0x200010) = .ue ∧
    guarded.mergeOf 0x200008 = none ∧ eccDecode (guarded.syndrome 0x200008) = .data 0 ∧ 1 ≤ 8 ∧ 8 ≤ 8 := by decide +kernel
theorem witness_ProtectedRegions : filled.admits .host (MEM_PROT_BASE 7 7) ∧ filled.live 7 = true ∧ filled.protEn 7 7 = false ∧
    filled.protFits 7 7 (65535 * 2 ^ 21) (filled.protLen 7 7) = false ∧ ¬ guarded.protFits 0 2 (1 * 2 ^ 21) (guarded.protLen 0 1) = true ∧
    (guarded.setF (MEM_PROT_LEN 0 2) MEM_PROT_LEN.LEN 1).protFits 0 2 (4095 * 2 ^ 20) (2 ^ 24) = true ∧
    (guarded.setF (MEM_PROT_LEN 0 2) MEM_PROT_LEN.LEN 1).protEn 0 2 = false ∧
    guarded.admits .mgmt (MEM_PROT_BASE 0 1) ∧ guarded.live 0 = true ∧ guarded.protEn 0 1 = true ∧
    1 = guarded.f (MEM_PROT_BASE 0 1) MEM_PROT_BASE.BASE ∧ guarded.dev.mem.merge = [] ∧
    starting.protEn 0 1 = true ∧ starting.b (MEM_PROT_BASE 0 1) MEM_PROT_BASE.INIT = true ∧
    starting.protLo 0 1 + starting.protLen 0 1 + starting.protLen 0 1 / 8 ≤ 2 ^ 37 := by decide +kernel
/-- The four spare columns of the macro under test are used. -/
def spent : State := withDev scrubbing fun d => { d with mem := { d.mem with repairs := [(0, List.replicate 4 (repairEntry 1 16 0 1 9))] } }
/-- DRAM is not scrubbed; die 0's region naps; cell 16 of die 0 is fenced. -/
def unscrubbed : State := scrubbing.setF (ECC_SCRUB_CTL 0) ECC_SCRUB_CTL.RATE 0
def scrubNap : State := scrubbing.setPwr 0 8 2
def scrubDead : State := scrubbing.setReg (PE_FENCE 0 0) 0x10000
theorem witness_MemoryUpkeep : unscrubbed.b (ECC_SCRUB_CTL 0) ECC_SCRUB_CTL.EN = true ∧ unscrubbed.f (ECC_SCRUB_CTL 0) ECC_SCRUB_CTL.RATE = 0 ∧
    unscrubbed.dramLapped 0 = false ∧ scrubNap.napping 0 (whipUnit 8 0) = true ∧ scrubDead.cellDead 0 1 16 = true ∧ scrubbing.napping 0 (whipUnit 1 0) = false ∧
    scrubbing.napping 0 (whipUnit 8 0) = false ∧ scrubbing.cellDead 0 8 0 = false ∧ scrubbing.up = true ∧ scrubbing.live 0 = true ∧ scrubbing.b (ECC_SCRUB_CTL 0) ECC_SCRUB_CTL.EN = true ∧
    scrubbing.f (ECC_SCRUB_CTL 0) ECC_SCRUB_CTL.RATE ≠ 0 ∧ scrubbing.scrubNext 0 = some 0x200000 ∧
    scrubbing.mergeOf (0 * 2 ^ 37 + 0x200000) = none ∧ scrubbing.journal = [] ∧ scrubbing.napping 0 8 = false ∧ scrubbing.napping 0 0 = false ∧
    scrubbing.whipHolds 0 3 0 0 = false ∧ scrubbing.whipHolds 0 8 0 0 = false ∧ scrubbing.cellDead 0 1 0 = false ∧ scrubbing.whipHolds 0 1 16 0 = true ∧
    (let b := whipBatch (whipMems 0 1) (scrubbing.dev.mem.whipPos.look 0 1)
     scrubbing.cellDead 0 b.1 b.2.1 = false ∧ ((([(0, 5)] ++ [(3, 5)] ++ [] : List (Nat × Nat))).map (·.2)).eraseDups = [5] ∧
      0 < scrubbing.freeSpares 0 (repairEntry b.1 b.2.1 b.2.2.1 1 5) ∧ spent.freeSpares 0 (repairEntry b.1 b.2.1 b.2.2.1 1 5) = 0 ∧
      spent.fencedIn 0 (b.2.1 / 16) < 4 ∧ spent.mode ≠ .reset ∧ spent.dev.mem.whipBusy.look false (0 * 9 + 1) = true) ∧
    eccDecode (scrubbing.syndrome (0 * 2 ^ 37 + 0x200000)) = .ok ∧ eccDecode 0xFF = .ue ∧ eccDecode 0x07 = .data 0 ∧ 1 ≤ 1 ∧ 8 ≤ 8 ∧
    scrubbing.b (ECC_WHIP_CTL 0) ECC_WHIP_CTL.EN = true ∧ scrubbing.dev.mem.whipBusy.look false (0 * 9 + 8) = false ∧
    scrubbing.dev.mem.whipBusy.look false (0 * 9 + 1) = true ∧ 0 < 1 ∧ (scrubbing.dev.mem.repairs.look [] 0).length < 32 ∧
    scrubbing.b (ECC_WHIP_CTL 0) ECC_WHIP_CTL.SAVE = true ∧ 0 ∈ scrubbing.dev.mem.unsaved ∧
    (scrubbing.setF NVM_BP NVM_BP.BP 1).nvmProt 3 = true := by decide +kernel

/-! ### Witnesses: host link, jobs, records -/

theorem witness_HostLink : base.dev.boot.fused = true ∧ base.dev.jobs.queue = [] ∧ 2 < 3 ∧ base.f HOST_LINK HOST_LINK.SPEED ≠ 0 ∧
    bitOf 1 0 = true ∧ (0xFFFFFFFF#32).toNat % 4 = 3 ∧ 15 < 16 ∧ 1 < 2 ∧ 1 < base.dies ∧ base.dev.host.cfg.look 0 0 = 0 ∧ base.hostOn = true ∧
    0x1000 ≤ 0x13FC ∧ 0x13FC < 0x1400 ∧ 0x40 ≤ 0x40 ∧ 0x40 < 0x1000 ∧ 0x1400 ≤ 0x1400 := by decide +kernel
/-- A copy of two bytes; the same once it has run. -/
def copyJob : State := withJob [1, 0x2000, 0, 0x6000, 2, 0, 0, 0] none
def copied : State := withJob [1, 0x2000, 0, 0x6000, 2, 0, 0, 0] (some ⟨.ok, 0, 2, 2, 0⟩)
theorem witness_JobQueue : jobless.hostOn = true ∧ jobless.up = true ∧ 15 < jobless.ringSize 1 ∧ jobless.ringSize 1 ≤ 16 ∧ 8 ≤ 8 ∧ 511 < 512 ∧
    jobless.dev.jobs.ended = [] ∧ jobless.hostMaster = true ∧ jobless.dev.jobs.queue.length < 512 ∧ jobless.nextRing = some 1 ∧
    jobless.f (JOB_SIZE 1) JOB_SIZE.LOG2 ≤ 12 ∧ jobless.mode ≠ .lanyardOnly ∧ (jobless.ring 1).part = [] ∧ opZlc (1 % 256) = false ∧
    jobless.admits .host (JOB_CTL 2) ∧ jobless.ringEn 2 = false ∧ 4 ≤ jobless.f (JOB_SIZE 2) JOB_SIZE.LOG2 ∧
    jobless.f (JOB_SIZE 2) JOB_SIZE.LOG2 ≤ 12 ∧ bitOf (0#32).toNat 30 = false ∧ jobless.dev.jobs.queue = [] ∧
    (∀ x ∈ [copyJob, copied], x.dev.jobs.queue.map (fun j => (j.id, j.ring, j.comp, bitOf (j.w 7) 30)) = [(0, 1, false, false)] ∧
      x.dev.jobs.ended = [] ∧ x.dev.mem.merge = [] ∧ x.dev.mem.jobUe = [] ∧ x.ringEn 1 = true ∧ x.f HOST_LINK HOST_LINK.SPEED ≠ 0 ∧
      x.dev.host.busMaster = true ∧ x.f (JOB_SIZE 1) JOB_SIZE.LOG2 ≤ 12 ∧
      (x.f (JOB_STAT 1) JOB_STAT.CQ_TAIL + 1) % x.ringSize 1 ≠ (x.ring 1).head ∧ x.admits .mgmt (JOB_CTL 1)) ∧
    copyJob.dev.jobs.queue.map (·.res) = [none] ∧ copied.dev.jobs.queue.map (·.res) = [some ⟨.ok, 0, 2, 2, 0⟩] := by decide +kernel
/-- Job 0 of `s` can start as a job of `op`. -/
def startsOk (s : State) (op : Nat) : Bool := match s.startable 0 op with
  | some j => !s.descBad j && (s.overlapping j).isEmpty && s.dev.mem.merge.isEmpty
  | none => false
theorem witness_JobTransfers : startsOk copyJob 1 = true ∧ copyJob.plain 0x2000 2 ∧ copyJob.plain 0x6000 2 ∧ copyJob.pins 0 = [] ∧
    startsOk (withJob [2, 0, 0, 0x6000, 4, 5, 0, 0] none) 2 = true ∧ startsOk (withJob [3, 0, 0, 0x6000, 3, 0x5000, 0, 0] none) 3 = true ∧
    copyJob.hostMaster = true ∧ 3 ≤ 3 ∧ startsOk (withJob [4, 0x2000, 0, 0, 3, 0x5000, 0, 0] none) 4 = true ∧ 3 < 2 ^ 32 ∧
    startsOk (withJob [0x31, 0x2000, 0, 0, 4096, 5, 0, 0] none) 0x31 = true ∧ copyJob.member 0 = true ∧
    startsOk (withJob [0x32, 0, 0, 0x6000, 4096, 4, 0, 0] none) 0x32 = true ∧ startsOk (withJob [0x33, 0, 0, 0, 0, 0, 0, 0] none) 0x33 = true := by decide +kernel
theorem witness_drive_plain : copyJob.plain 0x2000 4096 ∧ copyJob.plain 0x6000 4096 := by
  constructor <;>
    exact plain_low (by decide) (by decide +kernel) (by decide +kernel) (by decide +kernel) (by decide +kernel)
/-- A compression job of `s` that can start, passes its check and overlaps nothing, its ranges in the low memory of die 0. -/
def compressOk (s : State) (op : Nat) : Bool := match s.startable 0 op with
  | some j => !s.descBad j && (s.overlapping j).isEmpty && s.dev.mem.merge.isEmpty &&
      (j.output :: j.inputs).all fun r => decide (r.1 + r.2 ≤ 2 ^ 33) && !s.inLany r.1 r.2
  | none => false
/-- Nothing is pinned or protected, and die 0 has 8 GiB. -/
abbrev openLow (s : State) : Prop := s.live 0 = true ∧ s.capacity 0 = 2 ^ 33 ∧ ((List.range 8).all fun k => !s.protEn 0 k) = true ∧ s.dev.knot.pins = []
theorem compresses_of_ok {s : State} {op : Nat} (h : compressOk s op = true) (o : openLow s) : ∃ j, s.startable 0 op = some j ∧ s.compresses 0 op j := by
  obtain ⟨live, cap, prot, pins⟩ := o
  unfold compressOk at h
  split at h
  · rename_i j hj
    simp only [Bool.and_eq_true, List.all_cons, List.all_eq_true, decide_eq_true_eq, Bool.not_eq_true', List.isEmpty_iff] at h
    obtain ⟨⟨⟨d, ov⟩, me⟩, ⟨ho, lo⟩, hi⟩ := h
    refine ⟨j, hj, hj, d, ov, me, plain_low ho live cap prot lo, ?_, fun r hr => plain_low (hi r hr).1 live cap prot (hi r hr).2⟩
    intro e p hp
    simp [State.pins, pins, AMap.look, AMap.get] at hp
  · cases h

/-- A compression job with its input at 0x2000. -/
def coding (ws : List Nat) (bytes : List Byte) : State :=
  { withJob ws none with dram := ((List.range bytes.length).zip bytes).filterMap fun x => if x.2 = 0 then none else some (0x2000 + x.1, x.2) }
/-- The ZLC job of `s` codes or decodes `bytes`, into a room of `cap`, in blocks of `blk` KiB, without a flush. -/
def codes (s : State) (op : Nat) (bytes : List Byte) (cap blk : Nat) : Bool := match s.startable 0 op with
  | some j => j.total = bytes.length && (j.inputs.flatMap fun r => s.dramBytes r.1 r.2) = bytes && j.w 5 = cap && j.w 6 = blk && j.flushes.isEmpty
  | none => false

/-- ZBC jobs of a plane of two by four pixels; ZLC decompress jobs of a stored byte, of two into a room for one, of a block of TYPE 3; ZLC
compress jobs of one byte, with room and without, and of 32 equal bytes. -/
def oneByte : State := coding [0x23, 0x2000, 0, 0x6000, 1, 64, 1, 0] [0x5A]
def noRoom : State := coding [0x23, 0x2000, 0, 0x6000, 1, 0, 1, 0] [0x5A]
def equalBytes : State := coding [0x23, 0x2000, 0, 0x6000, 32, 64, 1, 0] (List.replicate 32 7)
theorem witness_codings :
    (∀ x ∈ [(withJob [0x21, 0x2000, 0, 0x6000, 0x40004, 64, 0x9000100, 0] none, 0x21), (withJob [0x22, 0x6000, 0, 0x2000, 0x40004, 0x100, 0x9000040, 0] none, 0x22)],
      compressOk x.1 x.2 = true ∧ openLow x.1 ∧ ((x.1.startable 0 x.2).bind (·.zbc)).isSome = true ∧ (x.1.startable 0 x.2).map (·.zbcEmpty) = some false) ∧
    (∀ x ∈ [(coding [0x24, 0x2000, 0, 0x6000, 4, 1, 0, 0] [1, 0, 0, 0x5A], 0x24), (coding [0x24, 0x2000, 0, 0x6000, 5, 1, 0, 0] [1, 1, 0, 5, 6], 0x24),
        (coding [0x24, 0x2000, 0, 0x6000, 1, 1, 0, 0] [7], 0x24), (oneByte, 0x23), (noRoom, 0x23), (equalBytes, 0x23)],
      compressOk x.1 x.2 = true ∧ openLow x.1) := by decide +kernel
theorem witness_codes :
    codes (coding [0x24, 0x2000, 0, 0x6000, 4, 1, 0, 0] [1, 0, 0, 0x5A]) 0x24 [1, 0, 0, 0x5A] 1 0 = true ∧
    zlcDecode 1 [1, 0, 0, 0x5A] = .ok [0x5A] [] ∧
    codes (coding [0x24, 0x2000, 0, 0x6000, 5, 1, 0, 0] [1, 1, 0, 5, 6]) 0x24 [1, 1, 0, 5, 6] 1 0 = true ∧
    zlcDecode 1 [1, 1, 0, 5, 6] = .full ∧
    codes (coding [0x24, 0x2000, 0, 0x6000, 1, 1, 0, 0] [7]) 0x24 [7] 1 0 = true ∧ zlcDecode 1 [7] = .bad 1 ∧
    codes oneByte 0x23 [0x5A] 64 1 = true ∧ codes noRoom 0x23 [0x5A] 0 1 = true ∧
    codes equalBytes 0x23 (List.replicate 32 7) 64 1 = true := by decide +kernel
/-- A block at the start of the input copies nothing. -/
theorem tokens_one (b : Byte) : zlcTokens ⟨false, 1024, []⟩ [b] 1 1 0 = [.lit b] := by
  have h : ∀ l d, matchOk [b] 0 1 l d = false := by
    intro l d; unfold matchOk; by_cases x : 1 ≤ d <;> simp [x]; omega
  simp [zlcTokens, h]
/-- One byte gives no gain, and overflows a room of none. -/
theorem witness_no_gain : (zlcEncode ⟨false, 1 * 1024, []⟩ [0x5A]).length = 3 := by
  have e : zlcEnds 1024 1 [] 1 0 = [1] := by decide
  simp only [zlcEncode, List.length_singleton, Nat.one_mul, e, List.foldl_cons, List.foldl_nil, zlcBlock, Nat.sub_zero, tokens_one]
  decide +kernel
/-- 32 equal bytes are coded in fewer, for a search that proposes to copy the first one (the search is a free value). -/
theorem witness_gain (h : Config.zlcMatch false 1024 [] (List.replicate 32 7) 1 = (31, 1)) :
    (zlcEncode ⟨false, 1 * 1024, []⟩ (List.replicate 32 7)).length < 32 := by
  have t : zlcTokens ⟨false, 1024, []⟩ (List.replicate 32 7) 32 32 0 = [.lit 7, .copy 31 1] := by
    have z : ∀ l d, matchOk (List.replicate 32 7) 0 32 l d = false := by
      intro l d; unfold matchOk; by_cases x : 1 ≤ d
      · have : ¬ d ≤ 0 := by omega
        simp [x, this]
      · simp [x]
    have c : matchOk (List.replicate 32 7) 1 32 31 1 = true := by decide +kernel
    have e : ∀ k p, zlcTokens ⟨false, 1024, []⟩ (List.replicate 32 7) 32 (k + 1) p = if 32 ≤ p then [] else
        (let x := Config.zlcMatch false 1024 [] (List.replicate 32 7) p
         if matchOk (List.replicate 32 7) p 32 x.1 x.2 then .copy x.1 x.2 :: zlcTokens ⟨false, 1024, []⟩ (List.replicate 32 7) 32 k (p + x.1)
         else .lit ((List.replicate 32 7).getD p 0) :: zlcTokens ⟨false, 1024, []⟩ (List.replicate 32 7) 32 k (p + 1)) := fun _ _ => rfl
    rw [e 31 0, if_neg (by decide)]; simp only [z]; rw [if_neg (by decide), e 30 1, if_neg (by decide)]; simp only [h, c]
    rw [if_pos trivial, e 29 (1 + 31), if_pos (by decide)]; rfl
  have e : zlcEnds 1024 32 [] 32 0 = [32] := by decide +kernel
  simp only [zlcEncode, List.length_replicate, Nat.one_mul, e, List.foldl_cons, List.foldl_nil, zlcBlock, Nat.sub_zero, t]
  decide +kernel
/-- ZBC and ZLC jobs: two by four pixels, none; two bytes, none; and one with a descriptor error each. -/
theorem witness_CompressionJobs : startsOk (withJob [0x21, 0x2000, 0, 0x6000, 0x20004, 64, 0x9000100, 0] none) 0x21 = true ∧
    startsOk (withJob [0x21, 0x2000, 0, 0x6000, 0, 64, 0x9000100, 0] none) 0x21 = true ∧
    startsOk (withJob [0x22, 0x6000, 0, 0x2000, 0x20004, 0x100, 0x9000040, 0] none) 0x22 = true ∧
    startsOk (withJob [0x22, 0x6000, 0, 0x2000, 4, 0x100, 0x9000040, 0] none) 0x22 = true ∧
    startsOk (withJob [0x23, 0x2000, 0, 0x6000, 2, 64, 1, 0] none) 0x23 = true ∧ startsOk (withJob [0x23, 0x2000, 0, 0x6000, 0, 64, 1, 0] none) 0x23 = true ∧
    startsOk (withJob [0x24, 0x2000, 0, 0x6000, 2, 64, 0, 0] none) 0x24 = true ∧ startsOk (withJob [0x24, 0x2000, 0, 0x6000, 0, 64, 0, 0] none) 0x24 = true ∧
    (∀ x ∈ [(0x21, 0x121), (0x22, 0x122), (0x23, 0x923), (0x24, 0x924)],
      ((withJob [x.2, 0x2000, 0, 0x6000, 2, 64, 1, 0] none).startable 0 x.1).isSome = true ∧ startsOk (withJob [x.2, 0x2000, 0, 0x6000, 2, 64, 1, 0] none) x.1 = false) := by decide +kernel
/-- Both dies' stores work, die 1 as `lag` says: 2 for a ladder without a step, 1 for one with one. -/
def two (ty key lag : Nat) : State :=
  withDev ((recorded ty key).setF NVM_STATUS NVM_STATUS.DIE1_OK 1) fun d => { d with nvm := { d.nvm with
    secs := d.nvm.secs ++ d.nvm.secs.map fun e => (e.1 + 1024, e.2)
    cells := [(64, tagCell 3), (65, tagCell 3)] ++ ((List.range (2 - lag)).map fun i => (5952 * 32 + 64 + i, tagCell 3)) } }
/-- The slot of the counter is full. -/
def fullSlot : State := withDev (recorded 0xC000 7) fun d => { d with nvm := { d.nvm with cells := (List.range 32).map fun i => (64 + i, tagCell 3) } }
/-- A record of `s` put on die d after what `m` did. -/
def putOn (s : State) (r : NvmRec) (f : NvmFail) (d : Nat) (n : NvmRun) : Option (NvmRun × Bool) :=
  n.append s.nvmDies d (f.verify.getD d 0) (f.erase.contains d) r
def verifyFails : NvmFail := { nvmNoFail with verify := [0, 3] }
theorem witness_RecordStore :
    (∀ x ∈ [(recorded 0x30 5, [0]), (recorded 0x4001 8, [0]), (recorded 0xC000 7, [0]), (recorded 0xC000 4095, [0]), (fullSlot, [0]),
        (two 0x30 5 0, [0, 1]), (two 0xC000 7 1, [0, 1]), (two 0xC000 7 0, [0, 1])],
      x.1.admits .host (NVM_CMD 0) ∧ x.1.b (NVM_STAT 0) NVM_STAT.BUSY = false ∧ x.1.nvmDies = x.2 ∧ x.1.nvmProt 0 = false) ∧
    base.admits .mgmt (NVM_CMD 1) ∧ base.b (NVM_STAT 1) NVM_STAT.BUSY = false ∧
    (recorded 0x30 5).nvmResolve 0x30 5 = some ⟨0x30, 5, 3, [1, 2, 3, 4, 5], true⟩ ∧ (recorded 0x4001 8).nvmResolve 0x4001 8 = none ∧
    nvmAllowed 0 0x30 = none ∧ (0x30 : Nat) ≠ 0x21 ∧ nvmNoFail.cut = none ∧ verifyFails.cut = none ∧
    (∀ s ∈ [recorded 0x30 5, two 0x30 5 0], s.nvmProt (nvmZone 0x30) = false ∧ s.nvmTied 0x30 5 = false ∧ s.f (NVM_LEN 0) NVM_LEN.LEN ≤ 4044 ∧
      ∀ d ∈ s.nvmDies, s.dev.nvm.topSeq d 0x30 5 < 0xFFFFFFFE ∧
        s.dev.nvm.zoneLive d (nvmZone 0x30) - s.dev.nvm.liveSize d 0x30 5 + nvmSize 6 ≤ 524288) := by decide +kernel
theorem witness_append :
    (∀ s ∈ [recorded 0x30 5, two 0x30 5 0], ∀ p ∈ [s.nvmPayload 0, []],
      (allTake (putOn s ⟨0x30, 5, 4, p, true⟩ nvmNoFail) s.nvmDies ⟨s.dev.nvm, none⟩).isSome = true) ∧
    (let s := two 0x30 5 0
     let r : NvmRec := ⟨0x30, 5, 4, [], true⟩
     (putOn s r nvmNoFail 0 ⟨s.dev.nvm, none⟩).map (·.2) = some true ∧
       (((putOn s r verifyFails 0 ⟨s.dev.nvm, none⟩).bind fun y => putOn s r verifyFails 1 y.1).map (·.2)) = some false) := by decide +kernel
/-- What raises the lower die, steps and rolls the counter of key 7. -/
def ctrRaise (s : State) (d : Nat) (n : NvmRun) : Option (NvmRun × Bool) :=
  if n.st.ctr d 7 < s.ctrVal 7 then n.rollTo s.nvmDies nvmNoFail d 7 (s.ctrVal 7) else some (n, true)
def ctrRoll (s : State) (v d : Nat) (n : NvmRun) : Option (NvmRun × Bool) := n.rollTo s.nvmDies nvmNoFail d 7 v
def ctrStep (s : State) (d : Nat) (n : NvmRun) : Option (NvmRun × Bool) :=
  match (n.st.base d 7).bind fun b => ((List.range 32).find? fun c => n.st.cell d b.2.2 c = 0xFFFFFFFF).map fun c => (b, c) with
  | some (b, c) => some (n.setCell d b.2.2 c (tagCell b.1), true)
  | none => ctrRoll s (min (2 ^ 64 - 1) (n.st.ctr d 7 + 1)) d n
theorem witness_counters :
    (∀ s ∈ [recorded 0xC000 7, fullSlot, two 0xC000 7 0, two 0xC000 7 1],
      ((allTake (ctrRaise s) s.nvmDies ⟨s.dev.nvm, none⟩).map fun r =>
        ((allTake (ctrStep s) s.nvmDies r).isSome, (allTake (ctrRoll s (s.ctrVal 7 + 2)) s.nvmDies r).isSome,
          (allTake (ctrRoll s 5) s.nvmDies r).isSome)) = some (true, true, true)) ∧
    (two 0xC000 7 1).dev.nvm.ctr 1 7 < (two 0xC000 7 1).ctrVal 7 ∧ (recorded 0xC000 7).dev.nvm.base 0 7 = some (3, 10, 2) ∧
    ((List.range 32).find? fun i => (recorded 0xC000 7).dev.nvm.cell 0 2 i = 0xFFFFFFFF) = some 1 ∧
    ((List.range 32).find? fun i => fullSlot.dev.nvm.cell 0 2 i = 0xFFFFFFFF) = none := by decide +kernel
/-- Room in the open sector of zone 3, and in the ladder and the open sector of zone 0. -/
theorem witness_room : (recorded 0x30 5).dev.nvm.openSec 0 (nvmZone 0x30) = some (192 + 144 * 3) ∧
    ((recorded 0x30 5).dev.nvm.sec 0 (192 + 144 * 3)).used + nvmSize 5 ≤ 4096 ∧ (recorded 0x30 5).dev.nvm.topSeq 0 0x30 5 < 4 ∧
    (let n := (recorded 0xC000 7).dev.nvm
     64 ≤ n.freeSlots 0 ∧ (n.freeSlot 0 none).isSome = true ∧ n.topSeq 0 0xC000 7 < 0xFFFFFFFE ∧
       n.zoneLive 0 0 - n.liveSize 0 0xC000 7 + nvmSize 12 ≤ 524288 ∧ n.openSec 0 0 = some 192 ∧ (n.sec 0 192).used + nvmSize 12 ≤ 4096 ∧
       n.base 0 7 = some (3, 10, 2) ∧ n.cell 0 2 31 = 0xFFFFFFFF) := by decide +kernel
theorem witness_protection :
    base.admits .host NVM_BP ∧ base.b NVM_BP_LOCK NVM_BP_LOCK.LOCK = false ∧ base.f NVM_BP NVM_BP.BP ≤ (3#32).toNat % 4 ∧
    (base.setF NVM_BP NVM_BP.BP 3).admits .host NVM_BP ∧ (2#32).toNat % 4 < (base.setF NVM_BP NVM_BP.BP 3).f NVM_BP NVM_BP.BP ∧
    (base.setF NVM_BP_LOCK NVM_BP_LOCK.LOCK 1).b NVM_BP_LOCK NVM_BP_LOCK.LOCK = true ∧ base.admits .mgmt NVM_BP_LOCK ∧
    bitOf (1#32).toNat 0 = true ∧ bitOf (2#32).toNat 0 = false := by decide +kernel
/-! ### Witnesses: calibration, power, ports, images, steps -/

theorem witness_CalibrationAndPace : calibrating.mode = .calibrate ∧ (calibrating.setF CAL_CTL CAL_CTL.SEL 0).f CAL_CTL CAL_CTL.SEL = 0 ∧ (calibrating.setF CAL_CTL CAL_CTL.SEL 0).mode = .calibrate ∧ (pacing 0).mode ≠ .reset ∧ 7 < (pacing 0).dies ∧
    ([(8000, 0, 12000)] : List (Nat × Nat × Nat))[0]? = some (8000, 0, 12000) ∧ (pacing 0).dev.cal.mode = 1 ∧ (pacing 0).mode ≠ .calibrate ∧
    (pacing 0).live 0 = true ∧ refBad 0 12000 = true ∧ 0 ∉ (pacing 0).dev.cal.lost ∧ base.mode = .idle ∧
    (∀ d, d < 8 → dieTemp ((List.replicate 8 [109 * 256 + 255]).getD d []) < 110 * 256) ∧
    ((pacing 0).pace 0).cmd = some 9 ∧ ((pacing 0).pace 0).tries < 2 ∧ ((pacing 2).pace 0).cmd = some 9 ∧ 2 ≤ ((pacing 2).pace 0).tries := by
  decide +kernel
/-- Chip temperatures at WARN, below it, and below WARN − HYST. -/
theorem witness_ThermalWarning : base.mode ≠ .reset ∧ base.mode ≠ .dormant ∧ dormant.dev.boot.wake = none ∧ dormant.live 0 = true ∧ base.live 0 = true ∧ sext 8 (base.f CAL_THERM CAL_THERM.WARN) = 95 ∧
    base.f CAL_THERM CAL_THERM.HYST = 5 ∧ base.dev.cal.warned = false ∧ (withDev base fun d => { d with cal := { d.cal with warned := true } }).dev.cal.warned = true ∧
    (∀ t ∈ [95 * 256, 95 * 256 - 1, 90 * 256 - 1], ∀ d, d < 8 → dieTemp ((List.replicate 8 [t]).getD d []) ≤ dieTemp ((List.replicate 8 [t]).getD 0 [])) := by
  decide +kernel
/-- The region of die 0 in each state but Run, and a block asleep on it. -/
def regionIn (k : Nat) : State := base.setPwr 0 8 k
theorem witness_PowerStates : base.live 7 = true ∧ base.mode ≠ .dormant ∧ 7 < 8 ∧ base.pwr 7 8 < 2 ∧ base.unitWorks 7 8 = false ∧
    fed.live 0 = true ∧ fed.mode ≠ .dormant ∧ fed.unitWorks 0 8 = true ∧ napping.live 0 = true ∧
    napping.mode ≠ .dormant ∧ napping.pwr 0 8 = 1 ∧ (∀ k ∈ [1, 2, 3], (regionIn k).live 0 = true ∧ (regionIn k).mode ≠ .dormant ∧
      (regionIn k).pwr 0 8 = k ∧ (regionIn k).dev.hold.filter (·.1 / 16 = 0) = []) ∧ sleeping.live 7 = true ∧
    sleeping.mode = .dormant ∧ sleeping.dev.boot.wake = none ∧
    sleeping.f PWR_WAKE_MS PWR_WAKE_MS.MS ≠ 0 ∧ sleeping.admits .mgmt PWR_WAKE_REQ := by decide +kernel
/-- A buffer of the Lanyard layer is in force and lies in the protected range. -/
theorem witness_LanyardWrites : 1 < 2 ∧ base.admits .mgmt LANY_COMMIT ∧ base.admits .mgmt LANY_PROT_BASE ∧ base.admits .mgmt LANY_PROT_LEN ∧
    base.b LANY_LOCK LANY_LOCK.LOCK = false ∧ base.lanyFits (5 * 2 ^ 16) (5 * 2 ^ 16 + 0) = true ∧
    (base.setF LANY_CTL LANY_CTL.EN 1).b LANY_LOCK LANY_LOCK.LOCK = false ∧ (base.setF LANY_CTL LANY_CTL.EN 1).lanyFits (5 * 2 ^ 16) (5 * 2 ^ 16) = false ∧
    (base.setF LANY_LOCK LANY_LOCK.LOCK 1).b LANY_LOCK LANY_LOCK.LOCK = true ∧ base.admits .mgmt LANY_LOCK ∧
    bitOf (1#32).toNat 0 = true ∧ bitOf (2#32).toNat 0 = false := by decide +kernel
/-- A frame body with its CRC. -/
def framed (cmd : Nat) (body : List Byte) : List Byte := body ++ leBytes 2 (crc16 (BitVec.ofNat 8 cmd :: body)).toNat
theorem witness_ManagementFrames : base.dev.boot.fused = true ∧
    frameParse 0x02 3 13 true (framed 0x02 [0, 0, 4, 0x10, 1, 2, 3, 4]) = (.ok, 1, 0x410, [1, 2, 3, 4]) ∧ base.admits .mgmt 0x410 ∧
    base.there 0x410 ∧ plainReg 0x410 = true ∧ 0x8FFFC < 0x90000 ∧ (frameParse 0x02 3 13 true []).1 = .badFrame ∧
    (frameParse 0x02 3 13 true [0, 0, 4, 0x10, 1, 2, 3, 4, 0, 0]).1 = .crc ∧
    frameParse 0x0B 3 13 false (framed 0x0B [0, 8, 0xFF, 0xFC]) = (.ok, 1, 0x8FFFC, []) ∧ base.admits .mgmt 0x8FFFC ∧
    base.dev.latchHi.look none (halfKey .mgmt 0x8FFFC) = none ∧
    frameParse 0x12 5 12 true (framed 0x12 [0, 0, 0, 0, 0x20, 0, 1, 2, 3, 4]) = (.ok, 1, 0x2000, [1, 2, 3, 4]) ∧ base.pins 0 = [] ∧ frameParse 0x1B 5 12 false (framed 0x1B [1, 0, 0, 0, 0x20, 0]) = (.ok, 2, 0x2000, []) ∧
    base.dev.mem.merge = [] := by decide +kernel
theorem witness_frame_plain : base.plain 0x2000 4 ∧ base.plain 0x2000 8 := by decide +kernel
theorem witness_JtagPort : base.dev.boot.supplies = true ∧ (tapIn .capDr).dev.boot.supplies = true ∧ (tapIn .capDr).dev.tap.st = .capDr ∧
    (∀ d, d < (tapIn .capDr).dies → (tapIn .capDr).dev.tap.instr d = .idcode ∨ (tapIn .capDr).dev.tap.instr d = .bypass) ∧
    (tapIn .capIr).dev.tap.st = .capIr ∧ (tapIn .shDr).dev.tap.st = .shDr ∧ (tapIn .shDr).dev.tap.path = [true, false, true] ∧
    (tapIn .shIr).dev.tap.st = .shIr ∧ (tapIn .shIr).dev.tap.ir = [true, false, true, true] ∧ (tapIn .reset).dev.tap.st = .reset := by decide +kernel
/-- Update-IR with BYPASS, all ones, in the register of every die, whatever its length. -/
theorem witness_updIr : ∃ s : State, s.dev.boot.supplies = true ∧ s.dev.tap.st = .updIr ∧ s.dev.tap.ir.length = s.dies * tapIrLen ∧
    ∀ d, d < s.dies → ((s.dev.tap.ir.drop ((s.dies - 1 - d) * tapIrLen)).take tapIrLen).all id = true := by
  refine ⟨withDev base fun x => { x with tap := { x.tap with st := .updIr, ir := List.replicate (base.dies * tapIrLen) true } }, rfl, rfl, by simp [withDev], ?_⟩
  intro d _
  simp [withDev, List.drop_replicate, List.take_replicate]
theorem witness_ImageLoads : stage8.admits .mgmt CHIP_BOOT_CTL ∧ stage8.mode = .load ∧ stage8.f CHIP_BOOT_STATUS CHIP_BOOT_STATUS.STAGE = 8 ∧
    stage8.f CHIP_BOOT_STATUS CHIP_BOOT_STATUS.ERR ≠ 12 ∧ stage8.f CHIP_STAGE_LEN CHIP_STAGE_LEN.LEN ≠ 0 ∧
    stage8.rangeBad stage8.stageBase 544 = true ∧ lastSource.mode = .load ∧ lastSource.dev.boot.loading = some .spiPrimary ∧
    lastSource.dev.boot.sources = [] ∧ reloading.mode = .reload ∧ reloading.dev.boot.loading = some .spiPrimary ∧ ImgSource.spiPrimary ≠ .staged ∧
    reloading.dev.boot.sources = [] ∧ loading.dev.boot.loading = some .spiPrimary ∧ loading.mode ≠ .reload ∧
    loading.dev.boot.sources = [.store 1] ∧ stagedReload.mode = .reload ∧ stagedReload.dev.boot.loading = some .staged ∧
    (inMode stagedReload .load).mode = .load ∧ (inMode stagedReload .load).dev.boot.loading = some .staged := by decide +kernel
/-- The image passes the checks of its bytes. -/
theorem image_good : imgCheck1to7 2 (some 1572) imageBytes = none := by decide +kernel
/-- The words that a read of `n` bytes at `a` takes, and none of them in error. -/
def wordsRead (a n : Nat) : List Nat := (List.range ((a + n + 7 - wordOf a) / 8)).map fun i => (wordOf a + 8 * i) % 2 ^ 40
theorem read_clean (s : State) (cls rd a n : Nat) (hn : n ≠ 0) (hm : s.dev.mem.merge = []) (hf : s.firstBad a n = none)
    (hw : ∀ w ∈ wordsRead a n, s.addrBad w = false ∧ s.syndrome w = 0) :
    s.read cls rd a n = ((((wordsRead a n).flatMap fun w => leBytes 8 (s.wordVal w)).drop (a - wordOf a)).take n, false, s) := by
  have key : ∀ (l : List Nat) (acc : List Byte), (∀ i ∈ l, s.addrBad ((wordOf a + 8 * i) % 2 ^ 40) = false ∧ s.syndrome ((wordOf a + 8 * i) % 2 ^ 40) = 0) →
      l.foldl (fun (acc : List Byte × Bool × State) i =>
        let w := (wordOf a + 8 * i) % 2 ^ 40
        if s.addrBad w then (acc.1 ++ List.replicate 8 0, true, acc.2.2)
        else
          let x := acc.2.2.readWord cls w
          (acc.1 ++ leBytes 8 x.1, acc.2.1 || x.2.1, x.2.2)) (acc, false, s) =
      (acc ++ l.flatMap fun i => leBytes 8 (s.wordVal ((wordOf a + 8 * i) % 2 ^ 40)), false, s) := by
    intro l
    induction l with
    | nil => intro acc _; simp
    | cons i t ih =>
      intro acc h
      obtain ⟨h1, h2⟩ := h i (by simp)
      have hr : s.readWord cls ((wordOf a + 8 * i) % 2 ^ 40) = (s.wordVal ((wordOf a + 8 * i) % 2 ^ 40), false, s) := by
        have h0 : s.mergeOf ((wordOf a + 8 * i) % 2 ^ 40) = none := by simp [State.mergeOf, hm]
        have he : eccDecode 0 = .ok := by decide
        simp only [State.readWord, h0, h2, he]
      rw [List.foldl_cons]
      simp only [h1, hr, Bool.false_eq_true, if_false, Bool.false_or]
      rw [ih _ fun j hj => h j (by simp [hj])]
      simp
  unfold State.read
  simp only [hn, if_false, hf]
  rw [key _ [] fun i hi => hw _ (List.mem_map.2 ⟨i, hi, rfl⟩)]
  simp [wordsRead, List.flatMap_map]
/-- The bytes of the words that such a read takes. -/
def bytesRead (s : State) (a n : Nat) : List Byte := (wordsRead a n).flatMap fun w => leBytes 8 (s.wordVal w)
theorem staged_clean : stagedReload.dev.mem.merge = [] ∧ stagedReload.firstBad 0 544 = none ∧ stagedReload.firstBad 544 1028 = none ∧
    (∀ w ∈ wordsRead 0 544 ++ wordsRead 544 1028, stagedReload.addrBad w = false ∧ stagedReload.syndrome w = 0) ∧
    stagedReload.stageBase = 0 ∧ stagedReload.stageLen = 1572 := by decide +kernel
theorem staged_low : bytesRead stagedReload 0 544 = imageBytes.take 544 ∧ imgLen (imageBytes.take 544) = 1572 := by decide +kernel
theorem staged_mid : bytesRead stagedReload 544 512 = (imageBytes.drop 544).take 512 := by decide +kernel
theorem staged_high : bytesRead stagedReload 1056 516 = (imageBytes.drop 544).drop 512 ++ List.replicate 4 0 ∧
    wordsRead 544 1028 = wordsRead 544 512 ++ wordsRead 1056 516 ∧ (imageBytes.drop 544).length = 1028 ∧ (imageBytes.take 544).length = 544 := by decide +kernel
/-- Staged, the image is delivered whole, and the part stays as it is. -/
theorem image_staged : stagedReload.deliver .staged none = (some ⟨some 1572, imageBytes, false⟩, stagedReload) := by
  obtain ⟨hm, h1, h2, hw, hb, hl⟩ := staged_clean
  obtain ⟨hlow, hn⟩ := staged_low
  obtain ⟨hhigh, hcat, hlen, hlen'⟩ := staged_high
  have r1 : stagedReload.read 6 0 0 544 = (imageBytes.take 544, false, stagedReload) := by
    rw [read_clean stagedReload 6 0 0 544 (by decide) hm h1 fun w h => hw w (List.mem_append_left _ h)]
    have := hlow
    unfold bytesRead at this
    rw [this]
    simp [List.take_take]
  have r2 : stagedReload.read 6 0 544 1028 = (imageBytes.drop 544, false, stagedReload) := by
    rw [read_clean stagedReload 6 0 544 1028 (by decide) hm h2 fun w h => hw w (List.mem_append_right _ h)]
    have a := staged_mid
    have b := hhigh
    unfold bytesRead at a b
    rw [hcat, List.flatMap_append, a, b, ← List.append_assoc, List.take_append_drop, show 544 - wordOf 544 = 0 from rfl, List.drop_zero,
      List.take_append_of_le_length (by omega), List.take_of_length_le (by omega)]
  simp only [State.deliver, State.readStaged, hb, hl, r1, hn]
  simp [r2]
/-- Its content has no fault, in a Reload and at start-up. -/
theorem witness_image : stagedReload.dies = 2 ∧ stagedReload.mode = .reload ∧
    ((stagedReload.imageLock.2.2.setB CHIP_BOOT_STATUS CHIP_BOOT_STATUS.LOCKED stagedReload.imageLock.1).imageContentFault
      stagedReload.imageLock.1 stagedReload.imageLock.2.1 imageBytes true).isNone = true := by decide +kernel
theorem witness_image_start :
    ((stagedReload.imageLock.2.2.setB CHIP_BOOT_STATUS CHIP_BOOT_STATUS.LOCKED stagedReload.imageLock.1).imageContentFault
      stagedReload.imageLock.1 stagedReload.imageLock.2.1 imageBytes false).isNone = true := by decide +kernel
theorem witness_StepTakesFront : base.pending = [] := by decide +kernel
theorem witness_EveryStep : Memory.wf guarded.dram ∧ guarded.journal = [] ∧ (step { guarded with pending := [.frameStart] } matches .next _) = true ∧
    dramOpen .vbStart = false ∧ Memory.wf filled.dram := by decide +kernel
/-- A form of a format, a block of 32 of its pixels at their largest values, and one whose ranges fit the budget; bytes to compress. -/
theorem witness_CodecRoundTrip : ((zbcForm 8).map fun z => (z.n, decide (bitLen (1 - 0) + bitLen 0 + bitLen 0 ≤ z.budget))) = some (10, true) ∧
    (zbcForm 14).map (·.n) = some 16 ∧ (List.replicate 32 [0, 1, 1023]).length = 32 ∧
    (∀ p ∈ List.replicate 32 [0, 1, 1023], p.length = 3 ∧ ∀ x ∈ p, x < 2 ^ 10) ∧ ([0x5A] : List Byte) ≠ [] ∧
    ([0x5A] : List Byte).length ≤ 1 ∧ 0 < 65536 ∧ 65536 ≤ 65536 := by decide +kernel

/-! ### The spec's own figures -/

/-- R379: inverting data bit 0 gives syndrome 0x07, bits 0 and 1 an uncorrectable 0x0C. -/
theorem test_ecc_example : eccCheck 1 = 0x07 ∧ eccCheck 2 = 0x0B ∧ eccDecode 0x07 = .data 0 ∧ eccDecode 0x0C = .ue := by decide +kernel
/-- R146, the example of chapter 06: A = 24,672 and R′ = 29,780. -/
theorem test_blend_example : mul16 32896 49152 = 24672 ∧ mul16 65535 24672 + mul16 8192 40863 = 29780 := by decide
/-- Chapter 08, stages 1 and 3 of the example pixel. -/
theorem test_lamp_example : 228210 + rshift (245 * 8) 4 = 228333 ∧ seamGain [16896, 16320] 218880 = 224838 ∧
    seamGain [16768, 16352] 65325 = 66724 ∧ seamGain [16960, 16288] 543420 = 559241 := by decide +kernel
/-- Chapter 09, stages 5 to 7 of the example pixel. -/
theorem test_drive_example : overdrive (fun i j => if i = 6 then (if j = 6 then 6144 else 7400) else if j = 6 then 5900 else 7168) 199984 224838 = 230464 ∧
    lowGrey (fun i => if i = 48 then 48950 else 49975) 17 99224 = 98821 ∧ dither true 230464 4095 68 = 900 ∧
    dither true 98821 4095 228 = 386 ∧ dither true 559241 4095 100 = 2184 := by decide +kernel
/-- Chapter 16: the first bytes of the example block. -/
theorem test_zbc_example : (ZbcForm.encode ⟨false, 40⟩ (List.replicate 5 [512, 300, 100] ++ [530, 300, 163] :: List.replicate 26 [512, 300, 100])).take 6 =
    [0x00, 0x52, 0xB0, 0x04, 0x40, 0x06] := by decide +kernel
/-- R236: engine 1,000 is on die 7, block 6, cell 8. -/
theorem test_engine_number : 7 * 128 + 6 * 16 + 8 = 1000 ∧ engNo 1000 = true := by decide
/-- Saturation code 5 of R247 is the range of S24. -/
theorem test_sat_s24 : sat 5 0x800000 = 0x7FFFFF#32 ∧ sat 5 (-0x800001) = 0xFF800000#32 := by decide
/-- R245: ADD on the states above wraps only in code 0. -/
theorem test_add_wraps : sat 0 (0x7FFFFFFF + 1) = 0x80000000#32 ∧ sat 1 (0x7FFFFFFF + 1) = 0x7FFFFFFF#32 := by decide
/-- R269 and R342: the check values over the ASCII bytes of "123456789". -/
theorem test_crc_check_values : crc16 [0x31, 0x32, 0x33, 0x34, 0x35, 0x36, 0x37, 0x38, 0x39] = 0x29B1#16 ∧
    crc32 [0x31, 0x32, 0x33, 0x34, 0x35, 0x36, 0x37, 0x38, 0x39] = 0xCBF43926#32 := by decide +kernel
/-- R244 to R246: words written out from the tables, one at least of each family of the instructions. -/
theorem test_instruction_words :
    insCommand 7 0b10000000111111011110000000110000 = some (.add 7 3 15 7 true 6) ∧
    insCommand 7 0b00000100100000000001110000001010 = some (.feed 7 2 1 true 2 10) ∧
    insCommand 7 0b00100100000100010110000000011000 = some (.tst 7 4 5 2 24) ∧
    insCommand 7 0b01000000010010000000111000010000 = some (.lut1 7 1 2 3 16 2) ∧
    insCommand 7 0b01110010011000011101010000101000 = some (.mulr 7 9 8 7 false true 16 5) ∧
    insCommand 7 0b10110101100000011011111011101111 = some (.vldi 7 6 true 0xBEEF) ∧
    insCommand 7 0b11111001001000110000000000001001 = some (.skip 7 4 17 true 9) ∧
    insCommand 7 0b11100000001100000001101000000000 = some (.emit 7 12 1 2 true) ∧
    insCommand 7 0b11111100000000000000000000000000 = some (.end_ 7) ∧ insCommand 7 0x14000000 = some (.undefinedOpcode 7) ∧
    insCommand 7 0x00000001 = none := by decide +kernel
/-- R268 to R270, R273, R278: a STAMP of partner 5, an ACK of partner 511 and a MARK, byte for byte, with their CRCs. -/
theorem test_control_blocks :
    (Ctl.cmd 3 5 9 0x1234 0 0).bytes = [0x99, 0x03, 0x05, 0x24, 0x34, 0x12, 0, 0, 0, 0, 0, 0, 0, 0, 0xE7, 0x07] ∧
    ctlParse false [0x2B, 0x06, 0xFF, 0xFD, 0x00, 0x04, 0, 0, 0xEF, 0xBE, 0xAD, 0xDE, 0, 0, 0x6B, 0x67] = some (.ack 511 63 6 0 4 0xDEADBEEF) ∧
    (Ctl.mark 17 2 1 5 0x01020304).bytes = [0x55, 0x11, 0x56, 0, 4, 3, 2, 1, 0xAA, 0xEE, 0xA9, 0xFF, 0, 0, 0x45, 0x82] ∧
    ctlParse false [0x2B, 0x06, 0xFF, 0xFD, 0x00, 0x04, 0, 0, 0xEE, 0xBE, 0xAD, 0xDE, 0, 0, 0x6B, 0x67] = none ∧
    ctlParse true [0x2B, 0x06, 0xFF, 0xFD, 0x00, 0x04, 0, 0, 0xEF, 0xBE, 0xAD, 0xDE, 0, 0, 0x6B, 0x67] = none := by decide +kernel
/-- R274, R275: a DRIVE packet of frame 261 to partner 7 with two codes, byte for byte. -/
theorem test_drive_packet : drivePacket 261 7 9 3 [900, 386] =
    [0x51, 0, 7, 0, 3, 0, 2, 0, 9, 0, 0xF8, 0x36, 0x84, 3, 0x82, 1, 0xC1, 0xE1] := by decide +kernel
/-- R265: the first 32 bits of the scrambler of bond lane 1 after a MARK. -/
theorem test_scrambler : (scramble (scrSeed 1) (List.replicate 32 false)).1.map (·.toNat) =
    [0, 0, 0, 1, 0, 0, 1, 0, 0, 0, 0, 0, 0, 0, 0, 0, 0, 0, 0, 0, 0, 0, 0, 0, 0, 0, 0, 0, 1, 1, 1, 1] := by decide +kernel
/-- R264: a data block's header is 01, and each byte goes least significant bit first. -/
theorem test_block_bits : ((⟨false, [0x05, 0x80]⟩ : Block).bits).map (·.toNat) = [0, 1, 1, 0, 1, 0, 0, 0, 0, 0, 0, 0, 0, 0, 0, 0, 0, 1] := by decide

/-! ### Arbitration (R370, R371, R375) -/

/-- R370: FEED uses the scratchpad port in its first handshake, FEEDC in both, and a feeder's access waits for the longest run. -/
theorem test_port_wait : portWait [0x04000000, 0x08000000, 0x04000000] [0x0C000000] = 4 := by decide
/-- R371: the highest age is chosen; among equal ages the first at or past the pointer, and the others age. -/
theorem test_age_arbiter :
    (Arb.mk 4 2 [⟨0, 3, 2, 0⟩, ⟨1, 3, 2, 0⟩, ⟨3, 1, 2, 0⟩]).choice = some ⟨0, 3, 2, 0⟩ ∧
    (Arb.mk 4 2 [⟨0, 3, 2, 0⟩, ⟨1, 3, 2, 0⟩, ⟨3, 1, 2, 0⟩]).granted ⟨0, 3, 2, 0⟩ = Arb.mk 4 1 [⟨1, 4, 2, 0⟩, ⟨3, 2, 2, 0⟩] := by decide
/-- R375: class 1 by deadline comes before class 2, but after 31 grants of classes 1 and 2 a request of class 6 with age 15 is granted. -/
theorem test_dram_floor :
    dramChoice [] (Arb.mk 4 0 [⟨0, 0, 2, 0⟩, ⟨1, 0, 1, 9⟩, ⟨2, 0, 1, 5⟩, ⟨3, 15, 6, 0⟩]) = some ⟨2, 0, 1, 5⟩ ∧
    dramChoice (List.replicate 31 1) (Arb.mk 4 0 [⟨0, 0, 2, 0⟩, ⟨2, 0, 1, 5⟩, ⟨3, 15, 6, 0⟩]) = some ⟨3, 15, 6, 0⟩ := by decide

/-! ### Balls (R500 to R502): the two examples of the spec, and two balls of row DA -/

theorem test_balls : ballAt 8 24 44 = ⟨.dpLane, 3, 0, 2, 0⟩ ∧ ballAt 8 72 37 = ⟨.cs, 6, 7, 1, 0⟩ ∧
    (ballAt 8 77 7).net = .resetL ∧ ballAt 2 24 44 = { net := .noConnect } := by decide

end Sys2Proof.Tests
end

section
/-! Register accesses (R14 to R17, R172, R176, R475, R494 to R496): what a host write and a host read of one register come to, and the
statements O11 to O13. Every clause is one equation for the access (`writeReg_full`, `writeReg_half`, `writeReg_narrow`, `readReg_full`,
`readReg_narrow`) and one lemma about the state that it gives (`written_plainWrites`, `accErr_keeps`, `readSteps_onlyDev`). -/
namespace Sys2Proof.Machine

/-! ### The next state of a command that writes no DRAM -/

/-- The state in which a command begins: no DRAM write of it is made yet. -/
abbrev State.begun (s : State) : State := { s with journal := [] }

/-- `u` differs from `s` in the part only: die count, DRAM, journal and queue are the same. -/
def State.OnlyDev (s u : State) : Prop := u = { s with dev := u.dev }

theorem State.OnlyDev.trans {s t u : State} (h : s.OnlyDev t) (g : t.OnlyDev u) : s.OnlyDev u := by
  unfold State.OnlyDev at *
  rw [h] at g
  exact g

theorem State.OnlyDev.dies {s u : State} (h : s.OnlyDev u) : u.dies = s.dies := by
  rw [State.OnlyDev] at h
  rw [h]
theorem State.OnlyDev.dram {s u : State} (h : s.OnlyDev u) : u.dram = s.dram := by
  rw [State.OnlyDev] at h
  rw [h]
theorem State.OnlyDev.pending {s u : State} (h : s.OnlyDev u) : u.pending = s.pending := by
  rw [State.OnlyDev] at h
  rw [h]

theorem State.run_of_onlyDev {s : State} {f : State → State} (h : s.begun.OnlyDev (f s.begun)) : s.run f = f s.begun := by
  unfold State.OnlyDev at h
  unfold State.run
  rw [h]
  rfl

theorem State.runDev_of_onlyDev {s : State} {f : State → State} (h : s.begun.OnlyDev (f s.begun)) : s.runDev f = f s.begun := by
  unfold State.OnlyDev at h
  rw [h]
  rfl

/-- A change of the part only keeps all but the registers listed when it keeps each other register and `f` puts the rest back. -/
theorem State.OnlyDev.keeps {s u : State} {but : List Nat} {f : Dev → Dev} (h : s.OnlyDev u) (hr : KeepsRegs s u but)
    (hf : { f u.dev with regs := s.dev.regs } = s.dev) : Keeps s u but f :=
  ⟨fun a => by rw [State.dramByte, State.dramByte, h.dram], hr, h.dies, h.pending, hf⟩

theorem completes_run {c : Instr} {s u : State} {f : State → State} {e : State → Prop} (hc : exec c s = .next (s.run f))
    (hf : f s.begun = u) (hu : s.begun.OnlyDev u) (he : e u) : Completes c s e := by
  subst hf
  exact ⟨_, hc.trans (congrArg Host.Outcome.next (State.run_of_onlyDev hu)), he⟩

theorem completes_runDev {c : Instr} {s u : State} {f : State → State} {e : State → Prop} (hc : exec c s = .next (s.runDev f))
    (hf : f s.begun = u) (hu : s.begun.OnlyDev u) (he : e u) : Completes c s e := by
  subst hf
  exact ⟨_, hc.trans (congrArg Host.Outcome.next (State.runDev_of_onlyDev hu)), he⟩

theorem completes_regWrite {s u : State} {a n : Nat} {v : Word} {e : State → Prop} (ha : a < 0x100000)
    (hw : s.begun.writeReg .host nvmNoFail a n v.toNat = u) (hu : s.begun.OnlyDev u) (he : e u) : Completes (.regWrite a n v) s e := by
  refine completes_run (f := (·.writeReg .host nvmNoFail (a % 0x100000) n v.toNat)) rfl ?_ hu he
  rwa [Nat.mod_eq_of_lt ha]

/-! ### `_LO` registers that take writes (R16) -/

theorem isWriteLo_chip {a : Nat} (h : a < 0x10000) : isWriteLo a = true ↔
    (a = 0x50 ∨ a = 0xC00 ∨ a = 0x2004 ∨ a = 0x2010 ∨ a = 0x2C20 ∨ a = 0x2C28 ∨ a = 0x181C ∨ a = 0x185C) ∨
      ∃ r < 8, a = JOB_SQ_BASE_LO r ∨ a = JOB_CQ_BASE_LO r ∨ a = JOB_CQ_WB_LO r := by
  simp [isWriteLo, h, CHIP_STAGE_BASE_LO, HOST_WIN_BASE_LO, COIL_START_LO, COIL_RING_BASE_LO, LANY_BASE_A_LO, LANY_BASE_B_LO, NVM_VAL_LO,
    or_assoc]

theorem winDie_dieBase (d : Nat) {o : Nat} (h : o < 0x10000) : winDie (dieBase d + o) = d := by
  unfold winDie dieBase
  omega

theorem not_dieBase_lt (d o : Nat) : ¬dieBase d + o < 0x10000 := by
  unfold dieBase
  omega

theorem dieBase_mod (d : Nat) {o : Nat} (h : o < 0x10000) : (dieBase d + o) % 0x10000 = o := by
  unfold dieBase
  omega

/-- An offset of a die window as the base of its window and the offset in it. -/
theorem eq_dieBase_add {a : Nat} (h : ¬a < 0x10000) : a = dieBase (winDie a) + a % 0x10000 := by
  unfold dieBase winDie
  omega

theorem isWriteLo_die (d : Nat) {o : Nat} (h : o < 0x10000) : isWriteLo (dieBase d + o) = true ↔
    (o = 0x104 ∨ o = 0x10C ∨ o = 0x1810 ∨ o = 0x1818 ∨ o = 0x1828 ∨ o = 0x1840 ∨ o = 0x1888 ∨ o = 0x18E0 ∨ o = 0x1900 ∨
        o = 0x1908) ∨
      ∃ k < 3, o = 0x420 + 8 * k ∨ ∃ n < 7, o = 0x1020 + 0x100 * n + 8 * k := by
  simp only [isWriteLo, not_dieBase_lt d o, winDie_dieBase d h]
  simp [DIE_WB_BASE0_LO, DIE_WB_BASE1_LO, LAMP_TILE_BASE_LO, LAMP_PIX_BASE_LO, LAMP_SEAM_BASE_LO, LAMP_EOTF_SRC_LO, LAMP_DEAD_BASE_LO,
    LAMP_OUT_SRC_LO, LAMP_OD_HIST_BASE0_LO, LAMP_OD_HIST_BASE1_LO, SRC_BUF_LO, LYR_BASE_LO, or_assoc, Nat.add_assoc]

/-- Where the `_LO` registers of the chip window lie. -/
theorem isWriteLo_chip_place {a : Nat} (h : a < 0x10000) (hlo : isWriteLo a = true) :
    (a = 0x50 ∨ a = 0xC00 ∨ a = 0x2004 ∨ a = 0x2010 ∨ a = 0x2C20 ∨ a = 0x2C28 ∨ a = 0x181C ∨ a = 0x185C) ∨
      (0x3000 ≤ a ∧ a < 0x3200 ∧ a % 8 = 0) := by
  obtain hfix | ⟨r, hr, hring⟩ := (isWriteLo_chip h).1 hlo
  · exact .inl hfix
  · unfold JOB_SQ_BASE_LO JOB_CQ_BASE_LO JOB_CQ_WB_LO at hring
    omega

/-- Where the `_LO` registers of a die window lie. -/
theorem isWriteLo_die_place {d o : Nat} (h : o < 0x10000) (hlo : isWriteLo (dieBase d + o) = true) :
    o = 0x104 ∨ o = 0x10C ∨ (0x420 ≤ o ∧ o < 0x1910 ∧ o % 8 = 0) := by
  obtain hfix | ⟨k, hk, hbuf | ⟨n, hn, hbase⟩⟩ := (isWriteLo_die d h).1 hlo <;> omega

/-- The last word of a window is no `_LO`. -/
theorem isWriteLo_window_end (d : Nat) {o : Nat} (h : o < 4) : isWriteLo (dieBase d + o - 4) = false := by
  rw [← Bool.not_eq_true]
  intro hlo
  cases d with
  | zero =>
    have hp := isWriteLo_chip_place (by unfold dieBase; omega) hlo
    unfold dieBase at hp
    omega
  | succ d =>
    have e : dieBase (d + 1) + o - 4 = dieBase d + (0xFFFC + o) := by unfold dieBase; omega
    rw [e] at hlo
    have hp := isWriteLo_die_place (by omega) hlo
    omega

/-- The word after a `_LO` is no `_LO`. -/
theorem isWriteLo_next {a : Nat} (h : isWriteLo a = true) : isWriteLo (a + 4) = false := by
  rw [← Bool.not_eq_true]
  intro hn
  by_cases ha : a < 0x10000
  · have hp := isWriteLo_chip_place ha h
    have hq := isWriteLo_chip_place (by omega) hn
    omega
  · have ho : a % 0x10000 < 0x10000 := Nat.mod_lt _ (by decide)
    rw [eq_dieBase_add ha] at h
    have hp := isWriteLo_die_place ho h
    rw [eq_dieBase_add ha, Nat.add_assoc] at hn
    have hq := isWriteLo_die_place (by omega) hn
    omega

/-! ### Registers behind which nothing else stands -/

theorem lyrRegs_eq (d : Nat) {n : Nat} (hn : n < 7) :
    LYR_PAL_DATA d n = dieBase d + LYR_PAL_DATA 0 n % 0x10000 ∧ LYR_COEF_DATA d n = dieBase d + LYR_COEF_DATA 0 n % 0x10000 ∧
      LYR_LUT_DATA d n = dieBase d + LYR_LUT_DATA 0 n % 0x10000 ∧ LYR_LUT_IDX d n = dieBase d + LYR_LUT_IDX 0 n % 0x10000 ∧
      LYR_READY d n = dieBase d + LYR_READY 0 n % 0x10000 := by
  unfold LYR_PAL_DATA LYR_COEF_DATA LYR_LUT_DATA LYR_LUT_IDX LYR_READY dieBase
  omega

theorem lyrWrite_plain (s : State) (d o v : Nat) {n : Nat} (hn : n < 7)
    (h : ¬LYR_PAL_DATA 0 n % 0x10000 = o ∧ ¬LYR_COEF_DATA 0 n % 0x10000 = o ∧ ¬LYR_LUT_DATA 0 n % 0x10000 = o ∧
      ¬LYR_LUT_IDX 0 n % 0x10000 = o ∧ ¬LYR_READY 0 n % 0x10000 = o) :
    s.lyrWrite d n (dieBase d + o) v = s.plainWrite (dieBase d + o) v := by
  obtain ⟨epal, ecoef, elut, eidx, eready⟩ := lyrRegs_eq d hn
  obtain ⟨hpal, hcoef, hlut, hidx, hready⟩ := h
  simp [State.lyrWrite, epal, ecoef, elut, eidx, eready, Ne.symm hpal, Ne.symm hcoef, Ne.symm hlut, Ne.symm hidx, Ne.symm hready]

theorem strRegs_eq (d : Nat) {n : Nat} (hn : n < 16) :
    STR_CTL d n = dieBase d + STR_CTL 0 n % 0x10000 ∧ STR_PCMD d n = dieBase d + STR_PCMD 0 n % 0x10000 ∧
      STR_SLEEP_CTL d n = dieBase d + STR_SLEEP_CTL 0 n % 0x10000 ∧ STR_PRBS_CTL d n = dieBase d + STR_PRBS_CTL 0 n % 0x10000 ∧
      STR_PRBS_INJ d n = dieBase d + STR_PRBS_INJ 0 n % 0x10000 := by
  unfold STR_CTL STR_PCMD STR_SLEEP_CTL STR_PRBS_CTL STR_PRBS_INJ dieBase
  omega

theorem strWrite_plain (s : State) (d o v : Nat) {n : Nat} (hn : n < 16)
    (h : ¬STR_CTL 0 n % 0x10000 = o ∧ ¬STR_PCMD 0 n % 0x10000 = o ∧ ¬STR_SLEEP_CTL 0 n % 0x10000 = o ∧
      ¬STR_PRBS_CTL 0 n % 0x10000 = o ∧ ¬STR_PRBS_INJ 0 n % 0x10000 = o) :
    s.strWrite d n (dieBase d + o) v = s.plainWrite (dieBase d + o) v := by
  obtain ⟨ectl, epcmd, esleep, eprbs, einj⟩ := strRegs_eq d hn
  obtain ⟨hctl, hpcmd, hsleep, hprbs, hinj⟩ := h
  simp [State.strWrite, ectl, epcmd, esleep, eprbs, einj, Ne.symm hctl, Ne.symm hpcmd, Ne.symm hsleep, Ne.symm hprbs, Ne.symm hinj]

/-- What `plainReg` excludes in a die window, by offset: the single registers of its list, window 15 of the picture check, the protected
regions, and the registers of layers and strands that start something. -/
theorem plainReg_dieOffset {d o : Nat} (h : o < 0x10000) (p : plainReg (dieBase d + o) = true) :
    (¬0x400 = o ∧ ¬0x1848 = o ∧ ¬0x18E8 = o ∧ ¬0x18A4 = o ∧ ¬0x2024 = o ∧ ¬0x6044 = o ∧ ¬0x6400 = o) ∧
      (o % 4 = 0 → ¬(0x55E0 ≤ o ∧ o < 0x5600)) ∧ ¬(0x5810 ≤ o ∧ o < 0x5850) ∧
      (∀ n < 7, ¬LYR_PAL_DATA 0 n % 0x10000 = o ∧ ¬LYR_COEF_DATA 0 n % 0x10000 = o ∧ ¬LYR_LUT_DATA 0 n % 0x10000 = o ∧
        ¬LYR_LUT_IDX 0 n % 0x10000 = o ∧ ¬LYR_READY 0 n % 0x10000 = o) ∧
      ∀ n < 16, ¬STR_CTL 0 n % 0x10000 = o ∧ ¬STR_PCMD 0 n % 0x10000 = o ∧ ¬STR_SLEEP_CTL 0 n % 0x10000 = o ∧
        ¬STR_PRBS_CTL 0 n % 0x10000 = o ∧ ¬STR_PRBS_INJ 0 n % 0x10000 = o := by
  simp [plainReg, not_dieBase_lt, dieBase_mod d h] at p
  obtain ⟨-, ⟨⟨⟨hsrc, heotf, hout, hclr, hfence, htrim, hpwr, hpck⟩, hlyr⟩, hstr⟩, hprot⟩ := p
  have hpck' : ¬0x55E0 = o ∧ ¬0x55E4 = o ∧ ¬0x55E8 = o ∧ ¬0x55EC = o ∧ ¬0x55F0 = o ∧ ¬0x55F4 = o ∧ ¬0x55F8 = o ∧ ¬0x55FC = o := hpck
  have hprot' : o < 0x5810 ∨ 0x5850 ≤ o := hprot
  exact ⟨⟨hsrc, heotf, hout, hclr, hfence, htrim, hpwr⟩, by omega, by omega, hlyr, hstr⟩

theorem dieWrite_plain (s : State) (d v : Nat) {o : Nat} (h : o < 0x10000) (al : o % 4 = 0) (p : plainReg (dieBase d + o) = true) :
    s.dieWrite d (dieBase d + o) v = s.plainWrite (dieBase d + o) v := by
  obtain ⟨⟨hsrc, heotf, hout, hclr, hfence, htrim, hpwr⟩, hpck, hprot, hlyr, hstr⟩ := plainReg_dieOffset h p
  have lyr := fun hl => lyrWrite_plain s d o v (n := (o - 0x1000) / 0x100) hl (hlyr _ hl)
  have str := fun hl => strWrite_plain s d o v (n := (o - 0x4000) / 0x100) hl (hstr _ hl)
  simp only [State.dieWrite, dieBase_mod d h, SRC_CTL, LAMP_EOTF_LOAD, LAMP_OUT_LOAD, LAMP_DYN_CLR, PE_FENCE_REQ, CAL_TRIM_DATA,
    PWR_DIE_CTL, PCK_POS, MEM_PROT_BASE, Nat.add_assoc, Nat.add_right_inj, Nat.add_le_add_iff_left, Nat.add_lt_add_iff_left,
    Ne.symm hsrc, Ne.symm heotf, Ne.symm hout, Ne.symm hclr, Ne.symm hfence, Ne.symm htrim, Ne.symm hpwr, if_false, Bool.and_eq_true,
    decide_eq_true_eq, hpck al, hprot]
  split
  · exact lyr (by omega)
  · split
    · exact str (by omega)
    · rfl

/-- What `plainReg` excludes in the chip window. -/
theorem plainReg_chip {a : Nat} (h : a < 0x10000) (p : plainReg a = true) :
    a ∉ [CHIP_MODE_REQ, CHIP_BOOT_CTL, CHIP_SNAP, KNOT_REQ, HOST_IRQ_STAT, HOST_IRQ_JOB, HOST_IRQ_EN, HOST_IRQ_JOB_EN, HOST_MGMT_IRQ_STAT,
        HOST_MGMT_IRQ_EN, COIL_CTL, BLY_CTL, PWR_CTL, PWR_WAKE_REQ] ∧
      ¬(0x1800 ≤ a ∧ a < 0x1C00) ∧ ¬(0x2C00 ≤ a ∧ a < 0x3000) ∧ ∀ r < 8, ¬a = JOB_CTL r ∧ ¬a = JOB_SIZE r := by
  simp only [plainReg, h, if_true, Bool.and_eq_true, Bool.not_eq_true', Bool.or_eq_false_iff, List.any_eq_false, List.mem_range,
    List.contains_eq_mem, decide_eq_false_iff_not, Bool.and_eq_false_iff, decide_eq_true_eq, Bool.or_eq_true, not_or] at p
  obtain ⟨-, ⟨⟨hmem, hnvm⟩, hlany⟩, hring⟩ := p
  exact ⟨hmem, fun h => hnvm.elim (absurd h.1) (absurd h.2), fun h => hlany.elim (absurd h.1) (absurd h.2), hring⟩

theorem chipWrite_plain (s : State) (who : Requester) (f : NvmFail) (v : Nat) {a : Nat} (h : a < 0x10000) (p : plainReg a = true) :
    s.chipWrite who f a v = s.plainWrite a v := by
  obtain ⟨hmem, hnvm, hlany, hring⟩ := plainReg_chip h p
  simp only [List.mem_cons, List.not_mem_nil, or_false, not_or] at hmem
  obtain ⟨hmode, -, hsnap, hreq, hstat, hjob, hen, hjoben, -, -, hcoil, hbly, hpwr, hwake⟩ := hmem
  have hnone : ((List.range 8).find? fun r => a = JOB_CTL r || a = JOB_SIZE r) = none := by
    simpa using hring
  rw [State.chipWrite, if_neg hmode, if_neg hsnap, if_neg hreq, if_neg hstat, if_neg hjob, if_neg hen, if_neg hjoben, if_neg hcoil,
    if_neg hbly, if_neg hpwr, if_neg hwake, if_neg (by simpa using hnvm), if_neg (by simpa using hlany), hnone]

theorem plainReg_row {a : Nat} (p : plainReg a = true) : (rowAt a).isSome = true ∧ isWriteLo a = false ∧ isWriteLo (a - 4) = false := by
  simp only [plainReg, Bool.and_eq_true, Bool.not_eq_true'] at p
  obtain ⟨⟨⟨hrow, hlo⟩, hlo4⟩, -⟩ := p
  exact ⟨hrow, hlo, hlo4⟩

/-- A plain write is all that a register behind which nothing else stands makes of a write. -/
theorem regEffect_plain (s : State) (who : Requester) (f : NvmFail) (v : Nat) {a : Nat} (al : a % 4 = 0) (hp : s.present a = true)
    (p : plainReg a = true) : s.regEffect who f a v = s.plainWrite a v := by
  obtain ⟨hrow, hlo, hlo4⟩ := plainReg_row p
  have hlany : ¬(0x2C00 ≤ a ∧ a < 0x3000) := fun hl => (plainReg_chip (by omega) p).2.2.1 hl
  have h1 : ((rowAt a).isNone || !s.present a) = false := by simp [Option.isNone_eq_false_iff.2 hrow, hp]
  have h2 : (0x2C00 ≤ a && a < 0x3000 && s.b LANY_LOCK LANY_LOCK.LOCK && !lanyOpen a) = false := by
    simp only [Bool.and_eq_false_iff, decide_eq_false_iff_not]
    omega
  simp only [State.regEffect, h1, h2, hlo, hlo4, Bool.false_eq_true, if_false]
  by_cases ha : a < 0x10000
  · rw [if_pos ha]
    exact chipWrite_plain s who f v ha p
  · have e := eq_dieBase_add ha
    have ho : a % 0x10000 < 0x10000 := Nat.mod_lt _ (by decide)
    have h := dieWrite_plain s (winDie a) v ho (by omega) (e ▸ p)
    rw [if_neg ha]
    rwa [← e] at h

theorem rowAt_die (d : Nat) {o : Nat} (h : o < 0x10000) : rowAt (dieBase d + o) = findReg true o := by
  have := not_dieBase_lt d o
  simp [rowAt, dieBase_mod d h, Nat.le_of_not_lt this]

/-- Whether something stands behind a register of a die window is the same on every die. -/
theorem plainReg_die (d : Nat) {o : Nat} (h : o < 0x10000) : plainReg (dieBase d + o) = plainReg (dieBase 0 + o) := by
  have hlo (o : Nat) (h : o < 0x10000) : isWriteLo (dieBase d + o) = isWriteLo (dieBase 0 + o) :=
    Bool.eq_iff_iff.2 ((isWriteLo_die d h).trans (isWriteLo_die 0 h).symm)
  have hlo4 : isWriteLo (dieBase d + o - 4) = isWriteLo (dieBase 0 + o - 4) := by
    by_cases h4 : o < 4
    · rw [isWriteLo_window_end d h4, isWriteLo_window_end 0 h4]
    · rw [Nat.add_sub_assoc (by omega), Nat.add_sub_assoc (by omega), hlo _ (by omega)]
  simp only [plainReg, rowAt_die _ h, hlo o h, hlo4, dieBase_mod _ h, not_dieBase_lt, if_false]

/-! ### Plain writes: what they change (R17) -/

theorem regW_plainWrite (s : State) (a : Nat) (v : Word) (b : Nat) :
    (s.plainWrite a v.toNat).regW b = if b = a then s.writtenActive a v else s.regW b := by
  unfold State.plainWrite State.writtenActive
  cases rowAt a with
  | none => by_cases h : b = a <;> simp [h]
  | some r => by_cases hz : r.rws = 0 <;>
      simp only [hz, if_true, if_false, State.regW_setSh, State.regW_setReg, BitVec.ofNat_toNat, BitVec.setWidth_eq]

theorem shW_plainWrite (s : State) (a : Nat) (v : Word) (b : Nat) :
    (s.plainWrite a v.toNat).shW b = if b = a then s.writtenShadow a v else s.shW b := by
  unfold State.plainWrite State.writtenShadow
  cases rowAt a with
  | none => by_cases h : b = a <;> simp [h]
  | some r =>
    by_cases hz : r.rws = 0
    · by_cases h : b = a <;> simp [hz, h]
    · simp only [hz, if_false, State.shW_setSh, State.shW_setReg, BitVec.ofNat_toNat, BitVec.setWidth_eq]

/-- A plain write changes registers and shadows, nothing else of the part. -/
theorem plainWrite_spec (s : State) (a v : Nat) :
    ∃ r h, s.plainWrite a v = { s with dev := { s.dev with regs := r, shadow := h } } := by
  unfold State.plainWrite
  cases rowAt a with
  | none => exact ⟨_, _, rfl⟩
  | some r => by_cases hz : r.rws = 0 <;> simp only [hz, if_true, if_false] <;> exact ⟨_, _, rfl⟩

/-- The plain writes `ws`, each an offset and a value, in turn. -/
def State.plainWrites (s : State) (ws : List (Nat × Word)) : State := ws.foldl (fun s w => s.plainWrite w.1 w.2.toNat) s

theorem plainWrites_cons (s : State) (w : Nat × Word) (ws : List (Nat × Word)) :
    s.plainWrites (w :: ws) = (s.plainWrite w.1 w.2.toNat).plainWrites ws := rfl

theorem plainWrites_spec (ws : List (Nat × Word)) (s : State) :
    ∃ r h, s.plainWrites ws = { s with dev := { s.dev with regs := r, shadow := h } } := by
  induction ws generalizing s with
  | nil => exact ⟨_, _, rfl⟩
  | cons w ws ih =>
    obtain ⟨r, h, e⟩ := plainWrite_spec s w.1 w.2.toNat
    rw [plainWrites_cons, e]
    exact ih _

theorem plainWrites_onlyDev (s : State) (ws : List (Nat × Word)) : s.OnlyDev (s.plainWrites ws) := by
  obtain ⟨r, h, e⟩ := plainWrites_spec ws s
  rw [e]
  rfl

theorem plainWrites_heldLo (s : State) (ws : List (Nat × Word)) : (s.plainWrites ws).dev.heldLo = s.dev.heldLo := by
  obtain ⟨r, h, e⟩ := plainWrites_spec ws s
  rw [e]

theorem plainWrites_other {ws : List (Nat × Word)} {b : Nat} (hb : b ∉ ws.map (·.1)) (s : State) :
    (s.plainWrites ws).regW b = s.regW b ∧ (s.plainWrites ws).shW b = s.shW b := by
  induction ws generalizing s with
  | nil => exact ⟨rfl, rfl⟩
  | cons w ws ih =>
    simp only [List.map_cons, List.mem_cons, not_or] at hb
    obtain ⟨hr, hs⟩ := ih hb.2 (s.plainWrite w.1 w.2.toNat)
    rw [plainWrites_cons, hr, hs, regW_plainWrite, shW_plainWrite, if_neg hb.1, if_neg hb.1]
    exact ⟨rfl, rfl⟩

theorem plainWrites_written {ws : List (Nat × Word)} (nd : (ws.map (·.1)).Nodup) {w : Nat × Word} (hw : w ∈ ws) (s : State) :
    (s.plainWrites ws).regW w.1 = s.writtenActive w.1 w.2 ∧ (s.plainWrites ws).shW w.1 = s.writtenShadow w.1 w.2 := by
  induction ws generalizing s with
  | nil => cases hw
  | cons x ws ih =>
    rw [List.map_cons, List.nodup_cons] at nd
    rw [plainWrites_cons]
    obtain rfl | hw := List.mem_cons.1 hw
    · obtain ⟨hr, hs⟩ := plainWrites_other nd.1 (s.plainWrite w.1 w.2.toNat)
      rw [hr, hs, regW_plainWrite, shW_plainWrite, if_pos rfl, if_pos rfl]
      exact ⟨rfl, rfl⟩
    · have hne : w.1 ≠ x.1 := fun e => nd.1 (e ▸ List.mem_map_of_mem hw)
      obtain ⟨hr, hs⟩ := ih nd.2 hw (s.plainWrite x.1 x.2.toNat)
      rw [hr, hs, State.writtenActive, State.writtenShadow, regW_plainWrite, shW_plainWrite, if_neg hne, if_neg hne]
      exact ⟨rfl, rfl⟩

/-- Plain writes at different offsets, made from a state whose registers and shadows are those of `s`, have taken effect. -/
theorem written_plainWrites {s u : State} {ws : List (Nat × Word)} {f : Dev → Dev} (nd : (ws.map (·.1)).Nodup)
    (hu : s.OnlyDev u) (hregs : u.dev.regs = s.dev.regs) (hsh : u.dev.shadow = s.dev.shadow)
    (hf : ∀ r h, { f { u.dev with regs := r, shadow := h } with regs := s.dev.regs, shadow := s.dev.shadow } = s.dev) :
    Written s (u.plainWrites ws) ws f := by
  have hr (b : Nat) : u.regW b = s.regW b := by rw [State.regW, State.regW, hregs, hu.dies]
  have hs (b : Nat) : u.shW b = s.shW b := by rw [State.shW, State.shW, hsh, hu.dies]
  refine ⟨fun w hw => ?_, fun b hb => ?_, (hu.trans (plainWrites_onlyDev u ws)).keeps (fun b hb => ?_) ?_⟩
  · obtain ⟨h1, h2⟩ := plainWrites_written nd hw u
    rw [h1, h2, State.writtenActive, State.writtenActive, State.writtenShadow, State.writtenShadow, hr, hs]
    exact ⟨rfl, rfl⟩
  · rw [(plainWrites_other hb u).2, hs]
  · rw [(plainWrites_other hb u).1, hr]
  · obtain ⟨r, h, e⟩ := plainWrites_spec ws u
    rw [e]
    exact hf r h

/-! ### Who is written -/

theorem State.admits.portOn {s : State} {who : Requester} {a : Nat} (h : s.admits who a) : s.portOn who = true := by
  have := h.1
  rw [State.answers, Bool.and_eq_true] at this
  exact this.1

theorem writeReg_admitted {s : State} {who : Requester} {a n : Nat} (h : s.admits who (a / 4 * 4)) (f : NvmFail) (v : Nat) :
    s.writeReg who f a n v = s.applyWrite who f a n v := by
  simp [State.writeReg, h.portOn, h.2]

/-- An aligned 32-bit write that is answered at once goes to the registers that its offset reaches. -/
theorem writeReg_full {s : State} {who : Requester} {a : Nat} (h : s.admits who a) (al : a % 4 = 0) (hb : a ≠ CHIP_BOOT_CTL)
    (f : NvmFail) (v : Nat) : s.writeReg who f a 4 v = s.routeWrite who f a v := by
  have e : a / 4 * 4 = a := by omega
  rw [writeReg_admitted (e.symm ▸ h), State.applyWrite, e, h.1]
  simp [aligned32, al, hb]

/-- A host write of a register that the host may write, and that loads no table on all dies at once, is a write of each register reached. -/
theorem routeWrite_host {s : State} {f : NvmFail} {a v : Nat} (hl : ¬(0x2C00 ≤ a ∧ a < 0x3000)) (hm : a < 0x10000 → mgmtOnly a = false)
    (hx : 0xF0000 ≤ a → a % 0x10000 ≠ LAMP_EOTF_LOAD 0 % 0x10000 ∧ a % 0x10000 ≠ LAMP_OUT_LOAD 0 % 0x10000) :
    s.routeWrite .host f a v = (s.writeTargets a).foldl (fun s a => s.regEffect .host f a v) s := by
  unfold State.routeWrite
  rw [if_neg, if_neg, if_neg, if_neg]
  · simpa using fun h => (hx h).2
  · simpa using fun h => (hx h).1
  · simpa using fun h _ => hm h
  · simpa using fun _ _ h => not_and.1 hl h

theorem writeTargets_there {s : State} {a : Nat} (h : s.there a) : s.writeTargets a = [a] := by
  obtain ⟨-, hw | ⟨hlt, hlive⟩, -⟩ := h
  · rw [State.writeTargets, if_pos hw]
  · by_cases hc : a < 0x10000
    · rw [State.writeTargets, if_pos hc]
    · rw [State.writeTargets, if_neg hc, if_pos hlt, if_pos hlive]

/-! ### Register writes (R14, R16, R17, R176, R495, R496) -/

theorem completes_regWrite_plain {s : State} {a : Nat} (v : Word) (h : s.admits .host a) (ht : s.there a) (p : plainReg a = true) :
    Completes (.regWrite a 4 v) s fun t => Written s t [(a, v)] id := by
  have hw := writeTargets_there ht
  obtain ⟨al, hwin, -, hp⟩ := ht
  have hlt : a < 0x90000 := by omega
  have hchip := fun hc => plainReg_chip (a := a) hc p
  have hb : a ≠ CHIP_BOOT_CTL := by
    rintro rfl
    exact (hchip (by decide)).1 (by decide)
  have hm : a < 0x10000 → mgmtOnly a = false := by
    intro hc
    obtain ⟨hmem, hnvm, -⟩ := hchip hc
    simp only [List.mem_cons, List.not_mem_nil, or_false, not_or] at hmem
    obtain ⟨-, -, -, -, -, -, -, -, hstat, hen, -, -, -, hwake⟩ := hmem
    have hk : ¬(NVM_CMD 1 ≤ a ∧ a < NVM_CMD 2) := fun ⟨h1, h2⟩ =>
      hnvm ⟨Nat.le_trans (by decide) h1, Nat.lt_trans h2 (by decide)⟩
    simpa [mgmtOnly, hstat, hen, hwake] using hk
  refine completes_regWrite (by omega) (u := s.begun.plainWrites [(a, v)]) ?_ (plainWrites_onlyDev _ _)
    (written_plainWrites (s := s.begun) (List.nodup_cons.2 ⟨List.not_mem_nil, List.nodup_nil⟩) rfl rfl rfl fun _ _ => rfl)
  rw [writeReg_full (s := s.begun) h al hb, routeWrite_host (fun hl => (hchip (by omega)).2.2.1 hl) hm (by omega),
    show s.begun.writeTargets a = [a] from hw]
  exact regEffect_plain _ _ _ _ al hp p

theorem present_plainWrite (s : State) {a : Nat} (ha : 0x10000 ≤ a) (v : Word) (b : Nat) :
    (s.plainWrite a v.toNat).present b = s.present b := by
  have hf : (s.plainWrite a v.toNat).fenced (winDie b) = s.fenced (winDie b) := by
    have hne : CHIP_DIES ≠ a := fun e => absurd (e ▸ ha) (by decide)
    rw [State.fenced, State.fenced, State.f, State.f, State.reg, State.reg, regW_plainWrite, if_neg hne]
  obtain ⟨r, h, e⟩ := plainWrite_spec s a v.toNat
  unfold State.present
  rw [hf, e]
  rfl

theorem foldl_regEffect_plain {who : Requester} {f : NvmFail} {v : Word} (l : List Nat) (s : State)
    (h : ∀ a ∈ l, 0x10000 ≤ a ∧ a % 4 = 0 ∧ s.present a = true ∧ plainReg a = true) :
    l.foldl (fun s a => s.regEffect who f a v.toNat) s = s.plainWrites (l.map fun a => (a, v)) := by
  induction l generalizing s with
  | nil => rfl
  | cons a l ih =>
    obtain ⟨hge, al, hp, p⟩ := h a List.mem_cons_self
    rw [List.foldl_cons, regEffect_plain s who f _ al hp p, List.map_cons, plainWrites_cons]
    refine ih _ fun b hb => ?_
    rw [present_plainWrite s hge]
    exact h b (List.mem_cons_of_mem a hb)

theorem rowAt_aligned {a : Nat} (h : (rowAt a).isSome = true) : a % 4 = 0 := by
  by_cases hal : a % 4 = 0
  · exact hal
  · have hmod : ¬a % 0x10000 % 4 = 0 := by omega
    rw [rowAt, findReg, if_neg hmod] at h
    cases h

theorem completes_regWrite_broadcast {s : State} {o : Nat} (v : Word) (h : s.admits .host (0xF0000 + o)) (ho : o < 0x10000)
    (p : plainReg (0x10000 + o) = true) (ht : ∀ d ∈ s.liveDies, s.there (dieBase d + o)) :
    Completes (.regWrite (0xF0000 + o) 4 v) s fun t => Written s t (s.liveDies.map fun d => (dieBase d + o, v)) id := by
  have hpd (d : Nat) : plainReg (dieBase d + o) = true := (plainReg_die d ho).trans p
  have hmod : (0xF0000 + o) % 0x10000 = o := by omega
  have al : (0xF0000 + o) % 4 = 0 := by
    have := rowAt_aligned (plainReg_row p).1
    omega
  have hload : o ≠ LAMP_EOTF_LOAD 0 % 0x10000 ∧ o ≠ LAMP_OUT_LOAD 0 % 0x10000 := by
    constructor <;> rintro rfl <;> exact absurd p (by decide)
  have hnd : ((s.liveDies.map fun d => (dieBase d + o, v)).map (·.1)).Nodup := by
    rw [List.map_map]
    refine List.Pairwise.map _ (fun d e hne he => hne ?_) (List.Pairwise.filter _ List.nodup_range)
    simp only [Function.comp, dieBase] at he
    omega
  refine completes_regWrite (by omega) (u := s.begun.plainWrites (s.liveDies.map fun d => (dieBase d + o, v))) ?_
    (plainWrites_onlyDev _ _) (written_plainWrites (s := s.begun) hnd rfl rfl rfl fun _ _ => rfl)
  have htgt : s.begun.writeTargets (0xF0000 + o) = s.liveDies.map fun d => dieBase d + o := by
    rw [State.writeTargets, if_neg (by omega), if_neg (by omega), if_pos (by simp only [Bool.and_eq_true, decide_eq_true_eq]; omega), hmod]
    rfl
  rw [writeReg_full (s := s.begun) h al (by unfold CHIP_BOOT_CTL; omega), routeWrite_host (by omega) (by omega) (fun _ => by rwa [hmod]), htgt,
    foldl_regEffect_plain, List.map_map]
  · rfl
  · intro a ha
    obtain ⟨d, hd, rfl⟩ := List.mem_map.1 ha
    obtain ⟨al, -, -, hp⟩ := ht d hd
    exact ⟨Nat.le_of_not_lt (not_dieBase_lt d o), al, hp, hpd d⟩

/-- Nothing takes a write in a reserved window or in that of a die that is fenced or not there (R3, R14, R496). -/
theorem completes_regWrite_nowhere {s : State} {a : Nat} (v : Word) (h : s.admits .host a) (hge : 0x10000 ≤ a) (hlt : a < 0xF0000)
    (al : a % 4 = 0) (hno : 0x90000 ≤ a ∨ s.live (winDie a) = false) :
    Completes (.regWrite a 4 v) s fun t => KeepsButRegs s t [] := by
  have htgt : s.begun.writeTargets a = [] := by
    rw [State.writeTargets, if_neg (by omega)]
    by_cases h9 : a < 0x90000
    · have hdead : s.begun.live (winDie a) = false := hno.resolve_left (by omega)
      rw [if_pos h9, hdead, if_neg (by decide)]
    · rw [if_neg h9, if_neg]
      simp only [Bool.and_eq_true, decide_eq_true_eq]
      omega
  refine completes_regWrite (by omega) (u := s.begun) ?_ rfl (State.OnlyDev.keeps (s := s.begun) rfl (fun _ _ => rfl) rfl)
  rw [writeReg_full (s := s.begun) h al (by unfold CHIP_BOOT_CTL; omega), routeWrite_host (by omega) (by omega) (by omega), htgt]
  rfl

/-! ### Pairs and the shadow transfer window (R16, R176) -/

/-- The half that a requester's key `k` holds becomes `x`. -/
def State.setHeldLo (s : State) (k : Nat) (x : Option Word) : State :=
  { s with dev := { s.dev with heldLo := s.dev.heldLo.put none k x } }

theorem setHeldLo_look (s : State) (k : Nat) (x : Option Word) :
    (s.setHeldLo k x).dev.heldLo.look none k = x ∧
      ∀ j, j ≠ k → (s.setHeldLo k x).dev.heldLo.look none j = s.dev.heldLo.look none j := by
  refine ⟨?_, fun j hj => ?_⟩
  · rw [State.setHeldLo, AMap.look_put, if_pos rfl]
  · rw [State.setHeldLo, AMap.look_put, if_neg hj]

/-- The plain writes that a `_HI` written with `w` makes of the pair at `lo`, whose held half is `x`. -/
def State.pairWrites (s : State) (lo : Nat) (x : Option Word) (w : Word) : List (Nat × Word) :=
  if (List.range 8).any fun r => s.ringEn r && (lo = JOB_SQ_BASE_LO r || lo = JOB_CQ_BASE_LO r) then []
  else (match x with
    | some x => [(lo, x)]
    | none => []) ++ [(lo + 4, w)]

theorem pairWrite_eq (s : State) (lo : Nat) (x : Option Word) (w : Word) :
    s.pairWrite lo (x.map (·.toNat)) w.toNat = s.plainWrites (s.pairWrites lo x w) := by
  unfold State.pairWrite State.pairWrites
  split
  · rfl
  · cases x <;> rfl

theorem pairWrites_nodup (s : State) (lo : Nat) (x : Option Word) (w : Word) : ((s.pairWrites lo x w).map (·.1)).Nodup := by
  unfold State.pairWrites
  split
  · exact List.nodup_nil
  · cases x <;> simp

theorem not_lanyLocked {a : Nat} {b c : Bool} (hl : ¬(0x2C00 ≤ a ∧ a < 0x3000)) : ¬(0x2C00 ≤ a && a < 0x3000 && b && c) = true := by
  simp only [Bool.and_eq_true, decide_eq_true_eq]
  exact fun h => hl h.1.1

/-- Outside the LANY_ block a write of the `_LO` of a pair is held. -/
theorem regEffect_lo {s : State} {a : Nat} (who : Requester) (f : NvmFail) (v : Word) (ht : s.there a) (hlo : isWriteLo a = true)
    (hl : ¬(0x2C00 ≤ a ∧ a < 0x3000)) : s.regEffect who f a v.toNat = s.setHeldLo (halfKey who a) (some v) := by
  obtain ⟨-, -, hrow, hp⟩ := ht
  rw [State.regEffect, if_neg (by simp [Option.isNone_eq_false_iff.2 hrow, hp]),
    if_neg (not_lanyLocked hl), if_pos hlo, BitVec.ofNat_toNat, BitVec.setWidth_eq]
  rfl

/-- Outside the LANY_ block a write of the `_HI` of a pair takes the held half with it. -/
theorem regEffect_hi {s : State} {a : Nat} (who : Requester) (f : NvmFail) (w : Word) (ht : s.there (a + 4)) (hlo : isWriteLo a = true)
    (hl : ¬(0x2C00 ≤ a + 4 ∧ a + 4 < 0x3000)) :
    s.regEffect who f (a + 4) w.toNat =
      (s.setHeldLo (halfKey who a) none).plainWrites (s.pairWrites a (s.dev.heldLo.look none (halfKey who a)) w) := by
  obtain ⟨-, -, hrow, hp⟩ := ht
  rw [State.regEffect, if_neg (by simp [Option.isNone_eq_false_iff.2 hrow, hp]),
    if_neg (not_lanyLocked hl), if_neg (by simp [isWriteLo_next hlo]), Nat.add_sub_cancel, if_pos hlo]
  exact pairWrite_eq (s.setHeldLo (halfKey who a) none) a _ w

theorem mgmtOnly_iff (a : Nat) : mgmtOnly a = true ↔ a = 0x140C ∨ a = 0xC20 ∨ a = 0xC24 ∨ (0x1840 ≤ a ∧ a < 0x1880) := by
  simp only [mgmtOnly, Bool.or_eq_true, Bool.and_eq_true, decide_eq_true_eq, or_assoc]
  rfl

/-- A host write of the `_LO` of a pair, or of the `_HI` after it, that the host may write reaches that register alone. -/
theorem writeReg_half {s : State} {a b : Nat} (v : Nat) (h : s.admits .host b) (ht : s.there b) (hlo : isWriteLo a = true)
    (hb : b = a ∨ b = a + 4) (hl : ¬(0x2C00 ≤ a ∧ a < 0x3000)) (hm : mgmtOnly a = false) :
    ¬(0x2C00 ≤ b ∧ b < 0x3000) ∧ s.writeReg .host nvmNoFail b 4 v = s.regEffect .host nvmNoFail b v := by
  have hplace := fun ha => isWriteLo_chip_place (a := a) ha hlo
  have hlt : b < 0xF0000 := by
    obtain ⟨-, hw, -⟩ := ht
    omega
  have hlb : ¬(0x2C00 ≤ b ∧ b < 0x3000) := by omega
  have hmb : b < 0x10000 → mgmtOnly b = false := by
    intro hc
    rw [← Bool.not_eq_true, mgmtOnly_iff] at hm ⊢
    omega
  have hboot : b ≠ CHIP_BOOT_CTL := by
    unfold CHIP_BOOT_CTL
    omega
  refine ⟨hlb, ?_⟩
  rw [writeReg_full h ht.1 hboot, routeWrite_host hlb hmb (by omega), writeTargets_there ht]
  rfl

theorem completes_regWrite_lo {s : State} {a : Nat} (v : Word) (h : s.admits .host a) (ht : s.there a) (hlo : isWriteLo a = true)
    (hl : ¬(0x2C00 ≤ a ∧ a < 0x3000)) (hm : mgmtOnly a = false) :
    Completes (.regWrite a 4 v) s fun t => t.dev.heldLo.look none (halfKey .host a) = some v ∧
      (∀ x, x ≠ halfKey .host a → t.dev.heldLo.look none x = s.dev.heldLo.look none x) ∧
      Keeps s t [] fun d => { d with heldLo := s.dev.heldLo } := by
  obtain ⟨hlb, hw⟩ := writeReg_half (s := s.begun) v.toNat h ht hlo (.inl rfl) hl hm
  obtain ⟨hk, hother⟩ := setHeldLo_look s.begun (halfKey .host a) (some v)
  have hu : s.begun.OnlyDev (s.begun.setHeldLo (halfKey .host a) (some v)) := rfl
  refine completes_regWrite ?_ (hw.trans (regEffect_lo _ _ _ ht hlo hlb)) hu
    ⟨hk, hother, hu.keeps (s := s.begun) (f := fun d => { d with heldLo := s.dev.heldLo }) (fun _ _ => rfl) rfl⟩
  obtain ⟨-, hwin, -⟩ := ht
  omega

theorem completes_regWrite_hi {s : State} {a : Nat} (w : Word) (hlo : isWriteLo a = true) (hl : ¬(0x2C00 ≤ a ∧ a < 0x3000))
    (hm : mgmtOnly a = false) (h : s.admits .host (a + 4)) (ht : s.there (a + 4)) :
    Completes (.regWrite (a + 4) 4 w) s fun t => t.dev.heldLo.look none (halfKey .host a) = none ∧
      (∀ x, x ≠ halfKey .host a → t.dev.heldLo.look none x = s.dev.heldLo.look none x) ∧
      Written s t (s.pairWrites a (s.dev.heldLo.look none (halfKey .host a)) w) fun d => { d with heldLo := s.dev.heldLo } := by
  obtain ⟨hlb, hw⟩ := writeReg_half (s := s.begun) w.toNat h ht hlo (.inr rfl) hl hm
  obtain ⟨hk, hother⟩ := setHeldLo_look s.begun (halfKey .host a) none
  have hu : s.begun.OnlyDev (s.begun.setHeldLo (halfKey .host a) none) := rfl
  refine completes_regWrite ?_ (hw.trans (regEffect_hi _ _ _ ht hlo hlb)) (hu.trans (plainWrites_onlyDev _ _)) ⟨?_, ?_, ?_⟩
  · obtain ⟨-, hwin, -⟩ := ht
    omega
  · rw [plainWrites_heldLo, hk]
  · intro x hx
    rw [plainWrites_heldLo, hother x hx]
  · exact written_plainWrites (s := s.begun) (f := fun d => { d with heldLo := s.dev.heldLo }) (pairWrites_nodup s _ _ _) hu rfl rfl
      fun _ _ => rfl

theorem completes_regWrite_window {s : State} {a : Nat} (n : Nat) (v : Word) (hport : s.portOn .host = true)
    (hbusy : s.b KNOT_STATUS KNOT_STATUS.BUSY = true) (ha : a < 0x100000) :
    Completes (.regWrite a n v) s fun t =>
      t.dev.knot.held = s.dev.knot.held ++ [.write .host a n v nvmNoFail] ∧
      Keeps s t [] fun d => { d with knot := { d.knot with held := s.dev.knot.held } } := by
  have hu : s.begun.OnlyDev (s.begun.setKnot { s.dev.knot with held := s.dev.knot.held ++ [.write .host a n v nvmNoFail] }) := rfl
  refine completes_regWrite ha ?_ hu
    ⟨rfl, hu.keeps (s := s.begun) (f := fun d => { d with knot := { d.knot with held := s.dev.knot.held } }) (fun _ _ => rfl) rfl⟩
  rw [State.writeReg, show s.begun.portOn .host = true from hport, show s.begun.b KNOT_STATUS KNOT_STATUS.BUSY = true from hbusy,
    BitVec.ofNat_toNat, BitVec.setWidth_eq]
  rfl

/-- Settles O11: each clause by what becomes of the write, a plain write by its access classes, a held half, a held access, or nothing. -/
theorem registerWriteClasses : Obligations.RegisterWriteClasses := by
  unfold Obligations.RegisterWriteClasses
  refine ⟨fun s a v h => ⟨?_, ?_, ?_, ?_⟩, fun s a n v hport hbusy ha => completes_regWrite_window n v hport hbusy ha⟩
  · exact completes_regWrite_plain v h
  · exact completes_regWrite_nowhere v h
  · rintro o rfl ho p ht
    exact completes_regWrite_broadcast v h ho p ht
  · intro ht hlo hl hm
    exact ⟨completes_regWrite_lo v h ht hlo hl hm, fun h4 ht4 w => completes_regWrite_hi w hlo hl hm h4 ht4⟩

/-! ### Access errors (R475, R482, R483) -/

@[simp] theorem State.regW_setHost (s : State) (h : HostSt) (a : Nat) : (s.setHost h).regW a = s.regW a := rfl
@[simp] theorem State.reg_setHost (s : State) (h : HostSt) (a : Nat) : (s.setHost h).reg a = s.reg a := rfl
@[simp] theorem State.f_setHost (s : State) (h : HostSt) (a : Nat) (f : Fd) : (s.setHost h).f a f = s.f a f := rfl

/-- A vector that is signalled changes the endpoint only. -/
theorem msix_spec (s : State) (v : Nat) : ∃ h, s.msix v = s.setHost h := by
  by_cases hs : s.dev.host.sent.contains v = true
  · exact ⟨s.dev.host, if_pos hs⟩
  · exact ⟨_, if_neg hs⟩

/-- An event in both copies changes the two status registers and the endpoint. -/
theorem ev_spec (s : State) (e : Ev) :
    ∃ v w h, s.ev e = ((s.setReg HOST_IRQ_STAT v).setReg HOST_MGMT_IRQ_STAT w).setHost h := by
  unfold State.ev State.evHost
  simp only
  split
  · obtain ⟨h, eh⟩ := msix_spec (s.setBitF HOST_IRQ_STAT HOST_IRQ_STAT.EVENT e.bit) e.bit
    rw [eh]
    exact ⟨_, _, h, rfl⟩
  · exact ⟨_, _, s.dev.host, rfl⟩

/-- The state after the first access error since the count was read has been latched. -/
def State.accLatched (s : State) (cause off : Nat) : State :=
  s.latchOnce HOST_ACC_ERR (·.setReg HOST_ACC_ERR (cause % 16 * 2 ^ 28 + off % 2 ^ 20))

/-- An access error latches its cause, is counted, sets ERR_STATUS.ACCESS and raises ERR. -/
theorem accErr_spec (s : State) (cause off : Nat) : ∃ v w h, s.accErr cause off =
    (((((s.accLatched cause off).count HOST_ACC_ERR_CNT).setF ERR_STATUS ERR_STATUS.ACCESS 1).setReg HOST_IRQ_STAT v).setReg
      HOST_MGMT_IRQ_STAT w).setHost h :=
  ev_spec (((s.accLatched cause off).count HOST_ACC_ERR_CNT).setF ERR_STATUS ERR_STATUS.ACCESS 1) .err

/-- What latching changes: HOST_ACC_ERR and the note that it holds an event. -/
theorem accLatched_spec (s : State) (cause off : Nat) : ∃ l r, s.accLatched cause off =
    { s with dev := { s.dev with latched := l, regs := r } } := by
  unfold State.accLatched State.latchOnce
  split
  · exact ⟨_, _, rfl⟩
  · exact ⟨_, _, rfl⟩

theorem accLatched_regW (s : State) (cause off : Nat) {a : Nat} (ha : a ≠ HOST_ACC_ERR) :
    (s.accLatched cause off).regW a = s.regW a := by
  unfold State.accLatched State.latchOnce
  split
  · rfl
  · rw [State.regW_setReg, if_neg ha]
    rfl

theorem accLatched_reg_same {s : State} (cause off : Nat) (hl : s.dev.latched.look false HOST_ACC_ERR = false) :
    (s.accLatched cause off).reg HOST_ACC_ERR = (cause % 16 * 2 ^ 28 + off % 2 ^ 20) % 2 ^ 32 := by
  unfold State.accLatched State.latchOnce
  rw [hl, if_neg (by decide), State.reg_setReg_same]

theorem accErr_onlyDev (s : State) (cause off : Nat) : s.OnlyDev (s.accErr cause off) := by
  obtain ⟨v, w, h, e⟩ := accErr_spec s cause off
  obtain ⟨l, r, el⟩ := accLatched_spec s cause off
  rw [e, el]
  rfl

theorem accErr_count (s : State) (cause off : Nat) :
    (s.accErr cause off).reg HOST_ACC_ERR_CNT = min 0xFFFFFFFF (s.reg HOST_ACC_ERR_CNT + 1) := by
  obtain ⟨v, w, h, e⟩ := accErr_spec s cause off
  have hc : (s.accLatched cause off).reg HOST_ACC_ERR_CNT = s.reg HOST_ACC_ERR_CNT :=
    congrArg BitVec.toNat (accLatched_regW s cause off (by decide))
  rw [e, State.reg_setHost, State.reg_setReg_other _ _ (by decide), State.reg_setReg_other _ _ (by decide),
    State.reg_setF_other _ _ _ (by decide), State.count, State.reg_countN_same, hc]

theorem accErr_access (s : State) (cause off : Nat) : (s.accErr cause off).f ERR_STATUS ERR_STATUS.ACCESS = 1 := by
  obtain ⟨v, w, h, e⟩ := accErr_spec s cause off
  rw [e, State.f_setHost, State.f, State.reg_setReg_other _ _ (by decide), State.reg_setReg_other _ _ (by decide)]
  exact State.f_setF_same _ _ _ _ (by decide)

/-- The first access error since the count was read is latched with its cause and offset. -/
theorem accErr_latched {s : State} {cause off : Nat} (hl : s.dev.latched.look false HOST_ACC_ERR = false) (hc : cause < 16)
    (ho : off < 2 ^ 20) :
    (s.accErr cause off).f HOST_ACC_ERR HOST_ACC_ERR.CAUSE = cause ∧ (s.accErr cause off).f HOST_ACC_ERR HOST_ACC_ERR.OFFSET = off := by
  obtain ⟨v, w, h, e⟩ := accErr_spec s cause off
  have hr : (s.accErr cause off).reg HOST_ACC_ERR = (cause % 16 * 2 ^ 28 + off % 2 ^ 20) % 2 ^ 32 := by
    rw [e, State.reg_setHost, State.reg_setReg_other _ _ (by decide), State.reg_setReg_other _ _ (by decide),
      State.reg_setF_other _ _ _ (by decide), State.reg_count_other _ (by decide), accLatched_reg_same cause off hl]
  rw [State.f, State.f, hr]
  show (cause % 16 * 2 ^ 28 + off % 2 ^ 20) % 2 ^ 32 / 2 ^ 28 % 2 ^ 4 = cause ∧
    (cause % 16 * 2 ^ 28 + off % 2 ^ 20) % 2 ^ 32 / 2 ^ 0 % 2 ^ 20 = off
  omega

theorem accErr_keeps (s : State) (cause off : Nat) :
    Keeps s (s.accErr cause off) [HOST_ACC_ERR, HOST_ACC_ERR_CNT, ERR_STATUS, HOST_IRQ_STAT, HOST_MGMT_IRQ_STAT] fun d =>
      { d with host := s.dev.host, latched := s.dev.latched } := by
  refine (accErr_onlyDev s cause off).keeps (fun a ha => ?_) ?_ <;> obtain ⟨v, w, h, e⟩ := accErr_spec s cause off
  · simp only [List.mem_cons, List.not_mem_nil, or_false, not_or] at ha
    obtain ⟨herr, hcnt, hstat, hirq, hmgmt⟩ := ha
    rw [e, State.regW_setHost, State.regW_setReg, if_neg hmgmt, State.regW_setReg, if_neg hirq, State.setF, State.regW_setReg, if_neg hstat,
      State.count, State.countN, State.regW_setReg, if_neg hcnt, accLatched_regW s cause off herr]
  · obtain ⟨l, r, el⟩ := accLatched_spec s cause off
    rw [e, el]
    rfl

/-! ### Reads depend on no DRAM write in progress -/

theorem nvmData_begun (s : State) (k : Nat) : (s.begun.nvmData k none).1 = (s.nvmData k none).1 := by
  simp only [State.nvmData, apply_ite Prod.fst]
  rfl

theorem coefData_begun (s : State) (d n : Nat) : (s.begun.coefData d n none).1 = (s.coefData d n none).1 := by
  simp only [State.coefData, apply_ite Prod.fst]
  rfl

theorem dieData_begun (s : State) (a : Nat) : (s.begun.dieData a).map (·.1) = (s.dieData a).map (·.1) := by
  simp only [State.dieData, apply_ite (Option.map Prod.fst), Option.map_some, Option.map_none, coefData_begun]
  rfl

theorem dataReg_begun (s : State) (a : Nat) : (s.begun.dataReg a).map (·.1) = (s.dataReg a).map (·.1) := by
  simp only [State.dataReg, apply_ite (Option.map Prod.fst), Option.map_some, Option.map_none, nvmData_begun, dieData_begun]
  rfl

theorem dataReg_begun_none {s : State} {a : Nat} (h : s.dataReg a = none) : s.begun.dataReg a = none := by
  have := dataReg_begun s a
  rw [h] at this
  exact Option.map_eq_none_iff.1 this

theorem regValue_begun (s : State) (who : Requester) (act : Bool) (a : Nat) : s.begun.regValue who act a = s.regValue who act a := by
  have h := dataReg_begun s a
  unfold State.regValue
  cases hs : s.dataReg a with
  | none =>
    rw [dataReg_begun_none hs]
    rfl
  | some x =>
    rw [hs] at h
    obtain ⟨y, hy, hyx⟩ := Option.map_eq_some_iff.1 h
    rw [hy]
    simp only [hyx]
    rfl

theorem seen_begun (s : State) (who : Requester) (a : Nat) : s.begun.seen who a = s.seen who a := by
  simp only [State.seen, regValue_begun]
  rfl

/-! ### Narrow accesses (R15, R475) -/

theorem aligned32_narrow {a n : Nat} (hn : n ≠ 4 ∨ a % 4 ≠ 0) : aligned32 a n = false := by
  rw [aligned32, Bool.and_eq_false_iff, decide_eq_false_iff_not, decide_eq_false_iff_not]
  exact hn

/-- A write that is no aligned 32-bit access only counts as an access error, and that at a listed register. -/
theorem writeReg_narrow {s : State} {who : Requester} {a n : Nat} (h : s.admits who (a / 4 * 4)) (hn : n ≠ 4 ∨ a % 4 ≠ 0) (f : NvmFail)
    (v : Nat) : s.writeReg who f a n v = if s.listed (a / 4 * 4) then s.accErr 1 a else s := by
  rw [writeReg_admitted h, State.applyWrite, h.1, aligned32_narrow hn]
  rfl

theorem completes_regWrite_narrow {s : State} {a n : Nat} (h : s.admits .host (a / 4 * 4)) (ha : a < 0x100000) (hn : n ≠ 4 ∨ a % 4 ≠ 0)
    (v : Word) :
    Completes (.regWrite a n v) s fun t =>
      (s.listed (a / 4 * 4) = false → KeepsButRegs s t []) ∧
      (s.listed (a / 4 * 4) = true →
        t.reg HOST_ACC_ERR_CNT = min 0xFFFFFFFF (s.reg HOST_ACC_ERR_CNT + 1) ∧ t.f ERR_STATUS ERR_STATUS.ACCESS = 1 ∧
        (s.dev.latched.look false HOST_ACC_ERR = false →
          t.f HOST_ACC_ERR HOST_ACC_ERR.CAUSE = 1 ∧ t.f HOST_ACC_ERR HOST_ACC_ERR.OFFSET = a) ∧
        Keeps s t [HOST_ACC_ERR, HOST_ACC_ERR_CNT, ERR_STATUS, HOST_IRQ_STAT, HOST_MGMT_IRQ_STAT] fun d =>
          { d with host := s.dev.host, latched := s.dev.latched }) := by
  have hw := writeReg_narrow (s := s.begun) h hn nvmNoFail v.toNat
  cases hlist : s.begun.listed (a / 4 * 4) with
  | false =>
    rw [hlist] at hw
    refine completes_regWrite ha hw rfl ⟨fun _ => State.OnlyDev.keeps (s := s.begun) (u := s.begun) (f := id) rfl (fun _ _ => rfl) rfl, ?_⟩
    exact fun hl => absurd (hl.symm.trans hlist) (by decide)
  | true =>
    rw [hlist] at hw
    refine completes_regWrite ha hw (accErr_onlyDev _ _ _) ⟨fun hl => absurd (hl.symm.trans hlist) (by decide), fun _ => ?_⟩
    exact ⟨accErr_count _ _ _, accErr_access _ _ _, fun hl => accErr_latched (s := s.begun) hl (by decide) ha, accErr_keeps s.begun 1 a⟩

/-- The low bytes of a number, as many as are asked for. -/
theorem leBytes_take (k v n : Nat) : (leBytes k v).take n = leBytes (min n k) v := by
  induction k generalizing v n with
  | zero => simp [leBytes]
  | succ k ih =>
    cases n with
    | zero => simp [leBytes]
    | succ n => rw [leBytes, List.take_succ_cons, ih, Nat.succ_min_succ, leBytes]

/-- The bytes of a number from a place on are those of its quotient. -/
theorem leBytes_drop (k v n : Nat) : (leBytes k v).drop n = leBytes (k - n) (v / 256 ^ n) := by
  induction n generalizing k v with
  | zero => simp
  | succ n ih =>
    cases k with
    | zero => simp [leBytes]
    | succ k => rw [leBytes, List.drop_succ_cons, ih, Nat.add_sub_add_right, Nat.div_div_eq_div_mul, Nat.pow_succ']

theorem readReg_admitted {s : State} {who : Requester} {a n : Nat} (h : s.admits who (a / 4 * 4)) :
    s.readReg who a n = s.applyRead who a n := by
  rw [State.readReg, h.2, Bool.and_false, Bool.false_and]
  rfl

/-- A narrow read returns the addressed bytes and has no other effect. -/
theorem readReg_narrow {s : State} {who : Requester} {a n : Nat} (h : s.admits who (a / 4 * 4)) (hn : n ≠ 4 ∨ a % 4 ≠ 0) :
    s.readReg who a n = s.setRead (((leBytes 4 (s.seen who (a / 4 * 4))).drop (a % 4)).take n) := by
  rw [readReg_admitted h, State.applyRead, h.portOn, aligned32_narrow hn, h.1, leBytes_drop, leBytes_take]
  rfl

theorem completes_rcRead {s u : State} {a n : Nat} {e : State → Prop} (ha : a < 0x100000) (hr : s.begun.readReg .host a n = u)
    (hu : s.begun.OnlyDev u) (he : e u) : Completes (.rcRead a n) s e := by
  refine completes_runDev (f := (·.readReg .host (a % 0x100000) n)) rfl ?_ hu he
  rwa [Nat.mod_eq_of_lt ha]

@[simp] theorem State.regW_setRead (s : State) (bs : List Byte) (a : Nat) : (s.setRead bs).regW a = s.regW a := rfl
@[simp] theorem State.f_setRead (s : State) (bs : List Byte) (a : Nat) (f : Fd) : (s.setRead bs).f a f = s.f a f := rfl

theorem setRead_keeps (s : State) (bs : List Byte) :
    (s.setRead bs).dev.host.rdData = bs ∧ Keeps s (s.setRead bs) [] fun d => { d with host := s.dev.host } :=
  ⟨rfl, State.OnlyDev.keeps (u := s.setRead bs) rfl (fun _ _ => rfl) rfl⟩

theorem completes_rcRead_narrow {s : State} {a n : Nat} (h : s.admits .host (a / 4 * 4)) (ha : a < 0x100000) (hn : n ≠ 4 ∨ a % 4 ≠ 0) :
    Completes (.rcRead a n) s fun t =>
      t.dev.host.rdData = ((leBytes 4 (s.seen .host (a / 4 * 4))).drop (a % 4)).take n ∧
      Keeps s t [] fun d => { d with host := s.dev.host } := by
  have hr := readReg_narrow (s := s.begun) h hn
  rw [seen_begun] at hr
  exact completes_rcRead ha hr rfl (setRead_keeps s.begun _)

/-- Settles O12: a narrow write is an access error or nothing, and a narrow read only shows the bytes it addresses. -/
theorem narrowAccesses : Obligations.NarrowAccesses := by
  unfold Obligations.NarrowAccesses
  exact fun s a n h ha hn => ⟨completes_regWrite_narrow h ha hn, fun _ _ => completes_rcRead_narrow h ha hn⟩

/-! ### Aligned 32-bit reads (R16, R17, R172) -/

theorem readTarget_of_lt {a : Nat} (h : a < 0x90000) : readTarget a = a := by
  rw [readTarget, if_neg]
  simp only [Bool.and_eq_true, decide_eq_true_eq]
  omega

/-- A read of a `_LO` latches the `_HI` of that requester. -/
def State.latchNext (s : State) (who : Requester) (a : Nat) : State :=
  if isLo a then
    { s with dev := { s.dev with latchHi := s.dev.latchHi.put none (halfKey who (a + 4)) (some (BitVec.ofNat 32 (s.regValue who false (a + 4)))) } }
  else s

/-- A host read of PE_FENCE_CAUSE clears the CELL and BLOCK bits of ERR_DIE. -/
def State.fenceNoted (s : State) (who : Requester) (a : Nat) : State :=
  if who = .host && 0x10000 ≤ a && a = PE_FENCE_CAUSE (winDie a) then
    (s.setF (ERR_DIE (winDie a)) ERR_DIE.CELL 0).setF (ERR_DIE (winDie a)) ERR_DIE.BLOCK 0
  else s

/-- The effects of a read of a register that is there and is no DATA register. -/
theorem readEffect_eq {s : State} (who : Requester) {a : Nat} (hlt : a < 0x90000) (hrow : (rowAt a).isSome = true)
    (hp : s.present a = true) (hw : a < 0x10000 ∨ s.live (winDie a) = true) (hd : s.dataReg a = none) :
    s.readEffect who a = ((s.latchNext who a).fenceNoted who a).rcClear a := by
  have hthere : (0x90000 ≤ a || (rowAt a).isNone || !s.present a || (0x10000 ≤ a && !s.live (winDie a))) = false := by
    have hwin : (decide (0x10000 ≤ a) && !s.live (winDie a)) = false := by
      obtain hc | hl := hw
      · rw [decide_eq_false (Nat.not_le.2 hc), Bool.false_and]
      · rw [hl, Bool.not_true, Bool.and_false]
    rw [hwin, decide_eq_false (Nat.not_le.2 hlt), Option.isNone_eq_false_iff.2 hrow, hp]
    rfl
  simp only [State.readEffect, readTarget_of_lt hlt, hthere, hd]
  rfl

/-- A read that is answered at once, of a register of which the requester holds no latched half. -/
theorem readReg_full {s : State} {who : Requester} {a : Nat} (h : s.admits who a) (al : a % 4 = 0) (hlt : a < 0x90000)
    (hlatch : s.dev.latchHi.look none (halfKey who a) = none) :
    s.readReg who a 4 = (s.readEffect who a).setRead (leBytes 4 (s.seen who a)) := by
  have e : a / 4 * 4 = a := by omega
  have hal : aligned32 a 4 = true := by simp [aligned32, al]
  rw [readReg_admitted (e.symm ▸ h), State.applyRead, h.portOn, hal, State.read32, h.1, State.readOnce, readTarget_of_lt hlt, hlatch]
  rfl

theorem latchNext_spec (s : State) (who : Requester) (a : Nat) :
    ∃ l, s.latchNext who a = { s with dev := { s.dev with latchHi := l } } := by
  unfold State.latchNext
  split
  · exact ⟨_, rfl⟩
  · exact ⟨_, rfl⟩

theorem latchNext_latched {s : State} {a : Nat} (who : Requester) (h : isLo a = true) :
    (s.latchNext who a).dev.latchHi.look none (halfKey who (a + 4)) = some (BitVec.ofNat 32 (s.regValue who false (a + 4))) := by
  rw [State.latchNext, if_pos h, AMap.look_put, if_pos rfl]

theorem setF_spec (s : State) (a : Nat) (f : Fd) (x : Nat) : ∃ r, s.setF a f x = { s with dev := { s.dev with regs := r } } := ⟨_, rfl⟩

theorem fenceNoted_spec (s : State) (who : Requester) (a : Nat) :
    ∃ r, s.fenceNoted who a = { s with dev := { s.dev with regs := r } } := by
  unfold State.fenceNoted
  split
  · obtain ⟨r, e⟩ := setF_spec s (ERR_DIE (winDie a)) ERR_DIE.CELL 0
    rw [e]
    exact setF_spec _ _ _ _
  · exact ⟨_, rfl⟩

/-- Clearing an RC register changes registers, the snapshot and the note of a latched event. -/
theorem rcClear_spec (s : State) (a : Nat) :
    ∃ r p l, s.rcClear a = { s with dev := { s.dev with regs := r, snap := p, latched := l } } := by
  unfold State.rcClear
  split
  · exact ⟨_, _, _, rfl⟩
  · cases s.inSnap a
    · cases rearms a <;> exact ⟨_, _, _, rfl⟩
    · cases rearms a <;> exact ⟨_, _, _, rfl⟩

theorem rcClear_of_no_rc {a : Nat} (s : State) (h : rcBits a = 0) : s.rcClear a = s := if_pos h

theorem rowAt_of_rc {a : Nat} (h : rcBits a ≠ 0) : (rowAt a).isSome = true := by
  unfold rcBits at h
  cases hr : rowAt a with
  | none => exact absurd (by rw [hr]) h
  | some r => rfl

/-- A live RC register that is cleared holds its reset value (notes/assumptions/27.md). -/
theorem rcClear_regW {s : State} {a : Nat} (h : rcBits a ≠ 0) (hs : s.inSnap a = false) : (s.rcClear a).regW a = resetWord s.dies a := by
  have hset : (s.setReg a (resetWord s.dies a).toNat).regW a = resetWord s.dies a := by
    rw [State.regW_setReg, if_pos rfl, BitVec.ofNat_toNat, BitVec.setWidth_eq]
  rw [State.rcClear, if_neg h]
  simp only [hs]
  cases rearms a <;> exact hset

/-- A read changes nothing but the part. -/
theorem readSteps_onlyDev (s : State) (who : Requester) (a : Nat) (bs : List Byte) :
    s.OnlyDev ((((s.latchNext who a).fenceNoted who a).rcClear a).setRead bs) := by
  obtain ⟨r, p, l, e⟩ := rcClear_spec ((s.latchNext who a).fenceNoted who a) a
  obtain ⟨r', e'⟩ := fenceNoted_spec (s.latchNext who a) who a
  obtain ⟨l', e''⟩ := latchNext_spec s who a
  rw [e, e', e'']
  rfl

/-- No fence cause is noted in CHIP_SNAP. -/
theorem fenceNoted_inSnap (s : State) (who : Requester) (a b : Nat) : (s.fenceNoted who a).inSnap b = s.inSnap b := by
  have hne (d : Nat) : CHIP_SNAP ≠ ERR_DIE d := by
    unfold CHIP_SNAP ERR_DIE
    omega
  have hv : (s.fenceNoted who a).f CHIP_SNAP CHIP_SNAP.VIEW = s.f CHIP_SNAP CHIP_SNAP.VIEW := by
    unfold State.fenceNoted
    split
    · rw [State.f_setF_reg _ _ _ _ (hne _), State.f_setF_reg _ _ _ _ (hne _)]
    · rfl
  obtain ⟨r, e⟩ := fenceNoted_spec s who a
  rw [State.inSnap, State.inSnap, State.b, State.b, hv, e]

theorem latchNext_inSnap (s : State) (who : Requester) (a b : Nat) : (s.latchNext who a).inSnap b = s.inSnap b := by
  obtain ⟨l, e⟩ := latchNext_spec s who a
  rw [e]
  rfl

section
variable {s : State} {a : Nat} (h : s.admits .host a) (al : a % 4 = 0) (hlt : a < 0x90000) (hrow : (rowAt a).isSome = true)
  (hp : s.present a = true) (hw : a < 0x10000 ∨ s.live (winDie a) = true) (hd : s.dataReg a = none)
  (hlatch : s.dev.latchHi.look none (halfKey .host a) = none)
include h al hlt hrow hp hw hd hlatch

/-- A host read of a register that is there and is no DATA register. -/
theorem readReg_host : s.begun.readReg .host a 4 =
    (((s.begun.latchNext .host a).fenceNoted .host a).rcClear a).setRead (leBytes 4 (s.seen .host a)) := by
  rw [readReg_full (s := s.begun) h al hlt hlatch, readEffect_eq (s := s.begun) .host hlt hrow hp hw (dataReg_begun_none hd), seen_begun]

theorem completes_rcRead_clears (hrc : rcBits a ≠ 0) :
    Completes (.rcRead a 4) s fun t =>
      t.dev.host.rdData = leBytes 4 (s.seen .host a) ∧ KeepsDram s t ∧ (s.inSnap a = false → t.regW a = resetWord s.dies a) := by
  have hu := readSteps_onlyDev s.begun .host a (leBytes 4 (s.seen .host a))
  refine completes_rcRead (by omega) (readReg_host h al hlt hrow hp hw hd hlatch) hu ⟨rfl, fun x => ?_, fun hs => ?_⟩
  · rw [State.dramByte, hu.dram]
    rfl
  · have hsnap : ((s.begun.latchNext .host a).fenceNoted .host a).inSnap a = false := by
      rw [fenceNoted_inSnap, latchNext_inSnap]
      exact hs
    have hc := rcClear_regW hrc hsnap
    obtain ⟨r, e⟩ := fenceNoted_spec (s.begun.latchNext .host a) .host a
    obtain ⟨l, e'⟩ := latchNext_spec s.begun .host a
    rw [show ((s.begun.latchNext .host a).fenceNoted .host a).dies = s.dies by rw [e, e']] at hc
    exact hc

theorem completes_loRead (hlo : isLo a = true) :
    Completes (.loRead a) s fun t =>
      t.dev.host.rdData = leBytes 4 (s.seen .host a) ∧
      t.dev.latchHi.look none (halfKey .host (a + 4)) = some (BitVec.ofNat 32 (s.regValue .host false (a + 4))) ∧ KeepsDram s t := by
  have hu := readSteps_onlyDev s.begun .host a (leBytes 4 (s.seen .host a))
  have hl := latchNext_latched (s := s.begun) .host hlo
  rw [regValue_begun] at hl
  refine completes_rcRead (a := a) (n := 4) (by omega) (readReg_host h al hlt hrow hp hw hd hlatch) hu ⟨rfl, ?_, fun x => ?_⟩
  · obtain ⟨r, p, l, e⟩ := rcClear_spec ((s.begun.latchNext .host a).fenceNoted .host a) a
    obtain ⟨r', e'⟩ := fenceNoted_spec (s.begun.latchNext .host a) .host a
    rw [e, e']
    exact hl
  · rw [State.dramByte, hu.dram]
    rfl

end

/-- KNOT_PEEK_DATA shows the active value of the register that KNOT_PEEK_ADDR names. -/
theorem seen_knotPeekData {s : State} (who : Requester) (hlt : s.reg KNOT_PEEK_ADDR < 0x90000)
    (hne : s.reg KNOT_PEEK_ADDR ≠ KNOT_PEEK_DATA) : s.seen who KNOT_PEEK_DATA = s.regValue who true (s.reg KNOT_PEEK_ADDR) := by
  have hk : ¬0x90000 ≤ KNOT_PEEK_DATA := by decide
  have hp : ¬0x90000 ≤ s.reg KNOT_PEEK_ADDR := by omega
  simp [State.seen, readTarget_of_lt (a := KNOT_PEEK_DATA) (by decide), readTarget_of_lt hlt, hk, hp, hne]

theorem present_knotPeekData (s : State) : s.present KNOT_PEEK_DATA = true := by
  unfold State.present
  cases s.dev.frozenShape.look none (winDie KNOT_PEEK_DATA) with
  | none => exact Bool.or_true _
  | some x => rfl

/-- A read of KNOT_PEEK_DATA has no effect. -/
theorem readEffect_knotPeekData (s : State) (who : Requester) : s.readEffect who KNOT_PEEK_DATA = s := by
  rw [readEffect_eq who (by decide) (by decide) (present_knotPeekData s) (.inl (by decide)) rfl, rcClear_of_no_rc _ (by decide),
    State.fenceNoted, if_neg (by cases who <;> decide), State.latchNext, if_neg (by decide)]

theorem completes_knotPeekDataRead {s : State} {who : Requester} (h : s.admits who KNOT_PEEK_DATA)
    (hlt : s.reg KNOT_PEEK_ADDR < 0x90000) (hne : s.reg KNOT_PEEK_ADDR ≠ KNOT_PEEK_DATA)
    (hlatch : s.dev.latchHi.look none (halfKey who KNOT_PEEK_DATA) = none) :
    Completes (.knotPeekDataRead who) s fun t =>
      t.dev.host.rdData = leBytes 4 (s.regValue who true (s.reg KNOT_PEEK_ADDR)) ∧
      Keeps s t [] fun d => { d with host := s.dev.host } := by
  have hr := readReg_full (s := s.begun) h (by decide) (by decide) hlatch
  rw [readEffect_knotPeekData, seen_begun, seen_knotPeekData who hlt hne] at hr
  exact completes_runDev (f := (·.readReg who KNOT_PEEK_DATA 4)) rfl hr rfl (setRead_keeps s.begun _)

/-- PE_FENCE_CAUSE of a die is listed in that die's window, no `_LO`, without RC bits. -/
theorem peFenceCause_class (d : Nat) :
    (rowAt (PE_FENCE_CAUSE d)).isSome = true ∧ rcBits (PE_FENCE_CAUSE d) = 0 ∧ isLo (PE_FENCE_CAUSE d) = false := by
  have hrow : rowAt (PE_FENCE_CAUSE d) = findReg true 0x2020 := rowAt_die d (by decide)
  have hw : isWriteLo (PE_FENCE_CAUSE d) = false := by
    rw [← Bool.not_eq_true]
    intro h
    have := isWriteLo_die_place (d := d) (o := 0x2020) (by decide) h
    omega
  have hr : isReadLo (PE_FENCE_CAUSE d) = false := by
    simp [isReadLo, PE_FENCE_CAUSE, not_dieBase_lt, winDie_dieBase, DIE_WB_FRAME_LO, DIE_PIN_VIOL_ADDR_LO, LAMP_NEUTRAL_ADDR_LO,
      SCAN_DONE_FRAME_LO, MEM_ADDR_ERR_ADDR_LO, ECC_CE_LAST_LO, ECC_UE_LAST_LO, ECC_UE_BG_LAST_LO, LYR_RELEASE_LO, STR_PRBS_BITS_LO]
    exact ⟨fun n _ => by omega, fun n _ => by omega⟩
  refine ⟨by rw [hrow]; decide, by rw [rcBits, hrow]; decide, by rw [isLo, hw, hr]; rfl⟩

theorem present_peFenceCause (s : State) (d : Nat) : s.present (PE_FENCE_CAUSE d) = true := by
  have h (en : Nat) (es : List StrandEnt) : presentIn en es (PE_FENCE_CAUSE d) = true := by
    simp [presentIn, PE_FENCE_CAUSE, dieBase_mod]
  unfold State.present
  cases s.dev.frozenShape.look none (winDie (PE_FENCE_CAUSE d)) with
  | none => simp only [h, Bool.or_true]
  | some x => exact h x.1 x.2

theorem dataReg_peFenceCause (s : State) (d : Nat) : s.dataReg (PE_FENCE_CAUSE d) = none := by
  have hge : ¬PE_FENCE_CAUSE d < 0x10000 := not_dieBase_lt d 0x2020
  have hne (b : Nat) (hb : b < 0x10000) : PE_FENCE_CAUSE d ≠ b := by omega
  rw [State.dataReg, if_neg (hne _ (by decide)), if_neg (hne _ (by decide)), if_neg (hne _ (by decide)), if_neg hge]
  simp [State.dieData, PE_FENCE_CAUSE, winDie_dieBase, dieBase_mod, LAMP_DYN_DATA, CAL_TRIM_DATA, ECC_REPAIR_DATA1]

/-- A host read of PE_FENCE_CAUSE clears CELL and BLOCK of ERR_DIE, nothing else. -/
theorem readEffect_peFenceCause {s : State} {d : Nat} (hd : d < 8) (hl : s.live d = true) :
    s.readEffect .host (PE_FENCE_CAUSE d) = (s.setF (ERR_DIE d) ERR_DIE.CELL 0).setF (ERR_DIE d) ERR_DIE.BLOCK 0 := by
  obtain ⟨hrow, hrc, hlo⟩ := peFenceCause_class d
  have hw : winDie (PE_FENCE_CAUSE d) = d := winDie_dieBase d (by decide)
  have hlt : PE_FENCE_CAUSE d < 0x90000 := by
    unfold PE_FENCE_CAUSE dieBase
    omega
  have hge : 0x10000 ≤ PE_FENCE_CAUSE d := Nat.le_of_not_lt (not_dieBase_lt d 0x2020)
  rw [readEffect_eq .host hlt hrow (present_peFenceCause s d) (.inr (hw.symm ▸ hl)) (dataReg_peFenceCause s d), rcClear_of_no_rc _ hrc,
    State.latchNext, if_neg (by simp [hlo]), State.fenceNoted, hw, if_pos (by simp [hge])]

theorem completes_peFenceCauseRead {s : State} {d : Nat} (hd : d < 8) (h : s.admits .host (PE_FENCE_CAUSE d)) (hl : s.live d = true)
    (hlatch : s.dev.latchHi.look none (halfKey .host (PE_FENCE_CAUSE d)) = none) :
    Completes (.peFenceCauseRead d) s fun t =>
      t.dev.host.rdData = leBytes 4 (s.seen .host (PE_FENCE_CAUSE d)) ∧
      t.f (ERR_DIE d) ERR_DIE.CELL = 0 ∧ t.f (ERR_DIE d) ERR_DIE.BLOCK = 0 ∧
      Keeps s t [ERR_DIE d] fun d => { d with host := s.dev.host } := by
  have hlt : PE_FENCE_CAUSE d < 0x90000 ∧ PE_FENCE_CAUSE d % 4 = 0 := by
    unfold PE_FENCE_CAUSE dieBase
    omega
  have hr := readReg_full (s := s.begun) h hlt.2 hlt.1 hlatch
  rw [readEffect_peFenceCause (s := s.begun) hd hl, seen_begun] at hr
  have hu : s.begun.OnlyDev (((s.begun.setF (ERR_DIE d) ERR_DIE.CELL 0).setF (ERR_DIE d) ERR_DIE.BLOCK 0).setRead
      (leBytes 4 (s.seen .host (PE_FENCE_CAUSE d)))) := rfl
  refine completes_runDev (f := fun s => if d < 8 then s.readReg .host (PE_FENCE_CAUSE d) 4 else s) rfl ((if_pos hd).trans hr) hu
    ⟨rfl, ?_, ?_, hu.keeps (s := s.begun) (f := fun x => { x with host := s.dev.host }) (fun a ha => ?_) rfl⟩
  · rw [State.f_setRead, State.f_setF_apart _ _ _ _ _ (by decide) (by decide)]
    exact State.f_setF_same _ _ _ _ (by decide)
  · rw [State.f_setRead]
    exact State.f_setF_same _ _ _ _ (by decide)
  · have hne : a ≠ ERR_DIE d := by simpa using ha
    rw [State.regW_setRead, State.setF, State.regW_setReg, if_neg hne, State.setF, State.regW_setReg, if_neg hne]

/-- Settles O13: the value shown, and the effects of the read, one lemma per kind of register. -/
theorem registerReads : Obligations.RegisterReads := by
  unfold Obligations.RegisterReads
  refine fun s => ⟨?_, ?_, ?_, ?_⟩
  · intro a h al hlt hrc hp hw hd hlatch
    exact completes_rcRead_clears h al hlt (rowAt_of_rc hrc) hp hw hd hlatch hrc
  · intro a h al hlt hlo hrow hp hw hd hlatch _
    exact completes_loRead h al hlt hrow hp hw hd hlatch hlo
  · intro who h hlt hne hlatch
    exact completes_knotPeekDataRead h hlt hne hlatch
  · intro d hd h hl hlatch
    exact completes_peFenceCauseRead hd h hl hlatch

end Sys2Proof.Machine
end

section
/-! Source ports (R100 to R119): what a source frame, its end and a write of SRC_CTL leave behind, the writeback surface (R160), and the
statements O22 to O24. Two relations carry the proofs. `BesidePorts` says that a step has to do with other things than source ports: no SRC_
register and no port changes (`KeepsPorts` says so of steps that write DRAM too). `KeepsSrcFields` says of a step on a port which fields of
its die's SRC_ registers it may write; every other field is then read through it. -/
namespace Sys2Proof.Machine

/-! ### The SRC_ block of a die window -/

/-- `a` lies in the SRC_ block of a die window. -/
def SrcReg (a : Nat) : Prop := 0x10000 ≤ a ∧ 0x400 ≤ a % 0x10000 ∧ a % 0x10000 < 0x480

theorem srcReg_die (d : Nat) {o : Nat} (h : 0x400 ≤ o ∧ o < 0x480) : SrcReg (dieBase d + o) := by
  unfold SrcReg dieBase
  omega

theorem not_srcReg_die (d : Nat) {o : Nat} (h : o < 0x400 ∨ (0x480 ≤ o ∧ o < 0x10000)) : ¬SrcReg (dieBase d + o) := by
  unfold SrcReg dieBase
  omega

theorem not_srcReg_chip {a : Nat} (h : a < 0x10000) : ¬SrcReg a := fun hs => absurd hs.1 (Nat.not_le.2 h)

/-! ### Steps beside the source ports -/

/-- Every SRC_ register and every source port is as before. -/
structure State.KeepsPorts (s t : State) : Prop where
  dies : t.dies = s.dies
  regs : ∀ a, SrcReg a → t.regW a = s.regW a
  src : t.dev.src = s.dev.src

/-- The same, and no DRAM write is made. -/
structure State.BesidePorts (s t : State) : Prop where
  onlyDev : s.OnlyDev t
  regs : ∀ a, SrcReg a → t.regW a = s.regW a
  src : t.dev.src = s.dev.src

namespace State.BesidePorts
variable {s t u : State}

theorem refl (s : State) : s.BesidePorts s := ⟨rfl, fun _ _ => rfl, rfl⟩

theorem trans (h : s.BesidePorts t) (g : t.BesidePorts u) : s.BesidePorts u :=
  ⟨h.onlyDev.trans g.onlyDev, fun a ha => (g.regs a ha).trans (h.regs a ha), g.src.trans h.src⟩

theorem keepsPorts (h : s.BesidePorts t) : s.KeepsPorts t := ⟨h.onlyDev.dies, h.regs, h.src⟩

theorem setReg (h : s.BesidePorts t) {a : Nat} (ha : ¬SrcReg a) (v : Nat) : s.BesidePorts (t.setReg a v) := by
  refine h.trans ⟨rfl, fun b hb => ?_, rfl⟩
  rw [State.regW_setReg, if_neg fun e : b = a => ha (e ▸ hb)]

/-- A write of a register or a field of the chip window. -/
theorem chip (h : s.BesidePorts t) {a : Nat} (ha : a < 0x10000) (v : Nat) : s.BesidePorts (t.setReg a v) := h.setReg (not_srcReg_chip ha) v

/-- A write of a register or a field of a die window outside the SRC_ block. -/
theorem die (h : s.BesidePorts t) (d : Nat) {o : Nat} (ho : o < 0x400 ∨ (0x480 ≤ o ∧ o < 0x10000)) (v : Nat) :
    s.BesidePorts (t.setReg (dieBase d + o) v) := h.setReg (not_srcReg_die d ho) v

theorem foldl {α : Type} {f : State → α → State} (hf : ∀ (s : State) x, s.BesidePorts (f s x)) (s : State) (l : List α) :
    s.BesidePorts (l.foldl f s) :=
  List.foldlRecOn l f (refl s) fun t h x _ => h.trans (hf t x)

theorem ev (h : s.BesidePorts t) (e : Ev) : s.BesidePorts (t.ev e) := by
  obtain ⟨v, w, x, he⟩ := ev_spec t e
  rw [he]
  exact ((h.chip (by decide) v).chip (by decide) w).trans ⟨rfl, fun _ _ => rfl, rfl⟩

theorem latchOnce {f : State → State} (hf : ∀ s : State, s.BesidePorts (f s)) (s : State) (k : Nat) : s.BesidePorts (s.latchOnce k f) := by
  unfold State.latchOnce
  split
  · exact refl s
  · exact trans (t := { s with dev := { s.dev with latched := s.dev.latched.put false k true } }) ⟨rfl, fun _ _ => rfl, rfl⟩ (hf _)

end State.BesidePorts

open State (BesidePorts KeepsPorts)

/-- What a change of leaf bits adds to the change itself is ERR_STATUS and ERR. -/
theorem leafOf_beside (s : State) (d : Nat) (f : State → State) : (f s).BesidePorts (s.leafOf d f) := by
  unfold State.leafOf
  simp only
  split
  · exact ((BesidePorts.refl _).chip (by decide) _).ev .err
  · exact .refl _

theorem setPwr_beside (s : State) (d u c : Nat) : s.BesidePorts (s.setPwr d u c) := by
  have hstat {t : State} (h : s.BesidePorts t) (f : Fd) (x : Nat) : s.BesidePorts (t.setF (PWR_DIE_STAT d) f x) :=
    h.die d (o := 0x6404) (by decide) _
  have hregion := hstat ((BesidePorts.refl s).chip (a := PWR_STATUS) (by decide) (Fd.put ⟨3 * d, 3⟩ (s.reg PWR_STATUS) c)) PWR_DIE_STAT.REGION c
  unfold State.setPwr
  split
  · split
    · exact hstat hregion _ _
    · exact hregion
  · exact hstat (.refl s) _ _

theorem pwrClamp_beside (s : State) : s.BesidePorts s.pwrClamp := by
  unfold State.pwrClamp State.pwrAll State.onDies
  split
  · exact .foldl (fun s d => .foldl (fun t u => setPwr_beside t d u _) s _) s _
  · refine .foldl (fun s d => .foldl (fun t u => ?_) s _) s _
    split
    · exact .refl t
    · exact setPwr_beside t d u _

theorem nvmTie_beside (s : State) (ty key : Nat) : s.BesidePorts (s.nvmTie ty key) := by
  have hlatch (s : State) := BesidePorts.latchOnce (f := (·.setReg NVM_TIE_LAST (ty * 2 ^ 16 + key)))
    (fun s => (BesidePorts.refl s).chip (by decide) _) s NVM_TIE_LAST
  unfold State.nvmTie
  split
  · exact .refl s
  · have hties : s.BesidePorts (s.setNvm { s.dev.nvm with ties := (ty, key) :: s.dev.nvm.ties }) := ⟨rfl, fun _ _ => rfl, rfl⟩
    exact (((hties.trans (hlatch _)).chip (a := NVM_TIE_CNT) (by decide) _).chip (a := NVM_STATUS) (by decide) _).ev .nvmTie

theorem nvmGet_beside (s : State) (ty key : Nat) : s.BesidePorts (s.nvmGet ty key).2 := by
  unfold State.nvmGet
  simp only
  split
  · exact nvmTie_beside s ty key
  · exact .refl s

theorem setPins_beside (s : State) (d : Nat) (ps : List Pin) : s.BesidePorts (s.setPins d ps) := ⟨rfl, fun _ _ => rfl, rfl⟩

theorem retirePins_beside (s : State) (own : PinOwner → Bool) : s.BesidePorts (s.retirePins own) := by
  unfold State.retirePins State.mapPins
  exact .foldl (fun s d => setPins_beside s d _) s _

/-! ### DRAM writes -/

namespace State.KeepsPorts
variable {s t u : State}

theorem refl (s : State) : s.KeepsPorts s := ⟨rfl, fun _ _ => rfl, rfl⟩

theorem trans (h : s.KeepsPorts t) (g : t.KeepsPorts u) : s.KeepsPorts u :=
  ⟨g.dies.trans h.dies, fun a ha => (g.regs a ha).trans (h.regs a ha), g.src.trans h.src⟩

theorem foldl {α : Type} {f : State → α → State} (hf : ∀ (s : State) x, s.KeepsPorts (f s x)) (s : State) (l : List α) : s.KeepsPorts (l.foldl f s) :=
  List.foldlRecOn l f (refl s) fun t h x _ => h.trans (hf t x)

theorem port (h : s.KeepsPorts t) (d : Nat) : t.port d = s.port d := congrArg (AMap.look · SrcSt.reset d) h.src

theorem f (h : s.KeepsPorts t) (d : Nat) {o : Nat} (ho : 0x400 ≤ o ∧ o < 0x480) (g : Fd) : t.f (dieBase d + o) g = s.f (dieBase d + o) g :=
  congrArg (fun w : Word => g.get w.toNat) (h.regs _ (srcReg_die d ho))

end State.KeepsPorts

theorem memPut_keepsPorts (s : State) (a : Nat) (b : Byte) : s.KeepsPorts (s.memPut a b) := ⟨rfl, fun _ _ => rfl, rfl⟩
theorem setMem_keepsPorts (s : State) (m : MemSt) : s.KeepsPorts { s with dev := { s.dev with mem := m } } := ⟨rfl, fun _ _ => rfl, rfl⟩
theorem setMerge_keepsPorts (s : State) (m : List Merge) : s.KeepsPorts (s.setMerge m) := ⟨rfl, fun _ _ => rfl, rfl⟩

theorem memPuts_keepsPorts (s : State) (a : Nat) (bs : List Byte) : s.KeepsPorts (s.memPuts a bs) := by
  induction bs generalizing s a with
  | nil => exact .refl s
  | cons b bs ih => exact (memPut_keepsPorts s a b).trans (ih _ _)

theorem putWord_keepsPorts (s : State) (a data : Nat) : s.KeepsPorts (s.putWord a data) := by
  have hdata := memPuts_keepsPorts s a (leBytes 8 data)
  unfold State.putWord
  simp only
  split
  · exact hdata
  · split
    · exact (hdata.trans (memPut_keepsPorts _ _ _)).trans (setMem_keepsPorts _ _)
    · exact hdata.trans (memPut_keepsPorts _ _ _)

theorem poison_keepsPorts (s : State) (a : Nat) : s.KeepsPorts (s.poison a) := by
  unfold State.poison
  split
  · exact .refl s
  · exact memPut_keepsPorts _ _ _

theorem ceEvent_beside (s : State) (d memid synd cls a : Nat) : s.BesidePorts (s.ceEvent d memid synd cls a) :=
  (((BesidePorts.latchOnce (fun s => ((BesidePorts.refl s).die d (o := 0x5C20) (by decide) _).die d (o := 0x5C24) (by decide) _) s _).die d
    (o := 0x5C04) (by decide) _).die d (o := 0x5C00) (by decide) _).ev .eccCe

theorem refusedEvent_beside (s : State) (d synd cls a : Nat) : s.BesidePorts (s.refusedEvent d synd cls a) :=
  (((BesidePorts.latchOnce (fun s => ((BesidePorts.refl s).die d (o := 0x5C28) (by decide) _).die d (o := 0x5C2C) (by decide) _) s _).die d
    (o := 0x5C10) (by decide) _).die d (o := 0x5C00) (by decide) _).ev .eccUe

theorem accErr_beside (s : State) (cause off : Nat) : s.BesidePorts (s.accErr cause off) :=
  (((BesidePorts.latchOnce (fun s => (BesidePorts.refl s).chip (by decide) _) s _).chip (a := HOST_ACC_ERR_CNT) (by decide) _).chip
    (a := ERR_STATUS) (by decide) _).ev .err

theorem lanyViol_beside (s : State) (a : Nat) : s.BesidePorts (s.lanyViol a) :=
  (BesidePorts.latchOnce (fun s => ((BesidePorts.refl s).chip (a := LANY_VIOL_ADDR_LO) (by decide) _).chip (a := LANY_VIOL_ADDR_HI)
    (by decide) _) s _).chip (a := LANY_VIOL_CNT) (by decide) _

theorem pinViol_beside (s : State) (a : Nat) (blocked : Bool) : s.BesidePorts (s.pinViol a blocked) :=
  ((BesidePorts.latchOnce (fun s => ((BesidePorts.refl s).die (dieOf a) (o := 0x144) (by decide) _).die (dieOf a) (o := 0x148)
    (by decide) _) s _).die (dieOf a) (o := 0x14C) (by decide) _).ev .pinViolation

theorem memStatusLeaf_beside (s : State) (d : Nat) (f : Fd) : s.BesidePorts (s.leaf d (MEM_STATUS d) f) :=
  ((BesidePorts.refl s).die d (o := 0x5864) (by decide) _).trans (leafOf_beside s d (·.setF (MEM_STATUS d) f 1))

theorem addrError_beside (s : State) (rd a : Nat) : s.BesidePorts (s.addrError rd a) := by
  have hleaf (s : State) (d : Nat) : s.BesidePorts ((((s.latchOnce (MEM_ADDR_ERR_ADDR_LO d)
      (·.setPair (MEM_ADDR_ERR_ADDR_LO d) (MEM_ADDR_ERR_ADDR_HI d) 8 (a % 2 ^ 40))).count (MEM_ADDR_ERR_CNT d)).leaf d (MEM_STATUS d)
      MEM_STATUS.ADDR_ERR)) :=
    ((BesidePorts.latchOnce (fun s => ((BesidePorts.refl s).die d (o := 0x586C) (by decide) _).die d (o := 0x5870) (by decide) _) s _).die d
      (o := 0x5868) (by decide) _).trans (memStatusLeaf_beside _ d _)
  unfold State.addrError
  generalize (if s.live (dieOf a) = true then dieOf a else rd) = d
  simp only
  split
  · exact (hleaf s d).trans (memStatusLeaf_beside _ d _)
  · exact hleaf s d

theorem leave_keepsPorts (s : State) (m : Merge) : s.KeepsPorts (s.leave m) := by
  have hout := setMerge_keepsPorts s (s.dev.mem.merge.filter (· != m))
  unfold State.leave
  simp only
  split
  · exact hout.trans (putWord_keepsPorts _ _ _)
  · exact (hout.trans (ceEvent_beside _ _ _ _ _ _).keepsPorts).trans (putWord_keepsPorts _ _ _)
  · exact (hout.trans (ceEvent_beside _ _ _ _ _ _).keepsPorts).trans (putWord_keepsPorts _ _ _)
  · have href := (hout.trans (poison_keepsPorts _ m.word)).trans
      (refusedEvent_beside _ m.die (State.syndrome (s.setMerge (s.dev.mem.merge.filter (· != m))) m.word) m.cls m.word).keepsPorts
    split
    · exact (href.trans (accErr_beside _ _ _).keepsPorts).trans (setMem_keepsPorts _ _)
    · exact href.trans (setMem_keepsPorts _ _)

theorem wordWrite_keepsPorts (s : State) (src : WrSrc) (w : Nat) (bs : List (Nat × Byte)) : s.KeepsPorts (s.wordWrite src w bs) := by
  unfold State.wordWrite
  simp only
  split
  · exact (setMerge_keepsPorts _ _).trans (putWord_keepsPorts _ _ _)
  split
  · exact .foldl (fun s b => memPut_keepsPorts s _ _) s bs
  split
  · exact (setMerge_keepsPorts _ _).trans (putWord_keepsPorts _ _ _)
  split
  · exact setMerge_keepsPorts _ _
  refine KeepsPorts.trans ?_ (setMerge_keepsPorts _ _)
  split
  · split
    · exact leave_keepsPorts s _
    · exact .refl s
  · exact .refl s

theorem writeGood_keepsPorts (s : State) (src : WrSrc) (a : Nat) (bs : List Byte) : s.KeepsPorts (s.writeGood src a bs).1 := by
  have hwords (s : State) : s.KeepsPorts ((splitWords a bs).foldl (fun s w => s.wordWrite src w.1 w.2) s) :=
    .foldl (fun s w => wordWrite_keepsPorts s src w.1 w.2) s (splitWords a bs)
  unfold State.writeGood
  simp only
  split
  · exact .refl s
  split
  · exact (lanyViol_beside s a).keepsPorts
  generalize (if src.pinned = true then s.pinHits a bs.length else []) = hits
  split
  · exact (pinViol_beside s a true).keepsPorts
  refine KeepsPorts.trans ?_ (hwords _)
  split
  · exact .refl s
  · exact (pinViol_beside s a false).keepsPorts

theorem write_keepsPorts (s : State) (src : WrSrc) (a : Nat) (bs : List Byte) : s.KeepsPorts (s.write src a bs).1 := by
  unfold State.write
  split
  · exact writeGood_keepsPorts s src a bs
  · exact (addrError_beside s _ _).keepsPorts.trans (.foldl (fun s r => writeGood_keepsPorts s src _ r.2) _ (s.goodRuns a bs))

theorem capture_keepsPorts (s : State) (d : Nat) (g : CapGeo) (fr : SrcFrame) : s.KeepsPorts (s.capture d g fr) :=
  .foldl (fun s _ => .foldl (fun s _ => write_keepsPorts s _ _ _) s _) s _

/-! ### Steps on a port -/

/-- The offset of a register family in its die's window. -/
abbrev ofs (r : Nat → Nat) : Nat := r 0 % 0x10000

/-- All bits of a register. -/
abbrev wholeReg : Fd := ⟨0, 32⟩

theorem setF_wholeReg (s : State) (a v : Nat) : s.setF a wholeReg v = s.setReg a v := by
  have hput : wholeReg.put (s.reg a) v = v % 2 ^ 32 := by
    rw [Fd.put_eq]
    have hlt := s.reg_lt a
    show s.reg a % 2 ^ 0 + 2 ^ 0 * (v % 2 ^ 32 + 2 ^ 32 * (s.reg a / 2 ^ 0 / 2 ^ 32)) = v % 2 ^ 32
    omega
  have hword : BitVec.ofNat 32 (v % 2 ^ 32) = BitVec.ofNat 32 v := BitVec.eq_of_toNat_eq (by simp)
  rw [State.setF, hput, State.setReg, State.setReg, hword]

/-- Field `g` at offset `o` lies in the SRC_ block and overlaps none of the fields `but`, each given with its register's offset. -/
abbrev SparesField (but : List (Nat × Fd)) (o : Nat) (g : Fd) : Prop :=
  (0x400 ≤ o ∧ o < 0x480) ∧ ∀ e ∈ but, e.1 = o → g.lsb + g.w ≤ e.2.lsb ∨ e.2.lsb + e.2.w ≤ g.lsb

/-- Of the SRC_ registers of die d only the fields `but` may have changed, and no DRAM write is made. -/
structure State.KeepsSrcFields (d : Nat) (but : List (Nat × Fd)) (s t : State) : Prop where
  onlyDev : s.OnlyDev t
  fields : ∀ o g, SparesField but o g → t.f (dieBase d + o) g = s.f (dieBase d + o) g

namespace State.KeepsSrcFields
variable {d : Nat} {but : List (Nat × Fd)} {s t u : State}

theorem refl (s : State) : KeepsSrcFields d but s s := ⟨rfl, fun _ _ _ => rfl⟩

theorem trans (h : KeepsSrcFields d but s t) (g : KeepsSrcFields d but t u) : KeepsSrcFields d but s u :=
  ⟨h.onlyDev.trans g.onlyDev, fun o f hf => (g.fields o f hf).trans (h.fields o f hf)⟩

theorem mono {but' : List (Nat × Fd)} (h : KeepsSrcFields d but s t) (sub : ∀ e ∈ but, e ∈ but') : KeepsSrcFields d but' s t :=
  ⟨h.onlyDev, fun o f ⟨ho, hf⟩ => h.fields o f ⟨ho, fun e he => hf e (sub e he)⟩⟩

theorem beside (h : KeepsSrcFields d but s t) (g : t.BesidePorts u) : KeepsSrcFields d but s u :=
  h.trans ⟨g.onlyDev, fun _ f hf => g.keepsPorts.f d hf.1 f⟩

theorem setPort (h : KeepsSrcFields d but s t) (e : Nat) (p : SrcSt) : KeepsSrcFields d but s (t.setPort e p) :=
  h.trans ⟨rfl, fun _ _ _ => rfl⟩

theorem setF (h : KeepsSrcFields d but s t) {o : Nat} {f : Fd} (hf : (o, f) ∈ but) (hw : f.lsb + f.w ≤ 32) (x : Nat) :
    KeepsSrcFields d but s (t.setF (dieBase d + o) f x) := by
  refine h.trans ⟨rfl, fun o' g ⟨_, hg⟩ => ?_⟩
  by_cases ho : o' = o
  · subst ho
    exact State.f_setF_apart t _ f g x hw (hg _ hf rfl)
  · exact State.f_setF_reg t f g x (by omega)

theorem setReg (h : KeepsSrcFields d but s t) {o : Nat} (hf : (o, wholeReg) ∈ but) (v : Nat) :
    KeepsSrcFields d but s (t.setReg (dieBase d + o) v) := by
  rw [← setF_wholeReg]
  exact h.setF hf (by decide) v

theorem leaf (h : KeepsSrcFields d but s t) {o : Nat} {f : Fd} (hf : (o, f) ∈ but) (hw : f.lsb + f.w ≤ 32) :
    KeepsSrcFields d but s (t.leaf d (dieBase d + o) f) :=
  (h.setF hf hw 1).beside (leafOf_beside t d (·.setF (dieBase d + o) f 1))

theorem b (h : KeepsSrcFields d but s t) (o : Nat) (g : Fd) (hg : SparesField but o g) : t.b (dieBase d + o) g = s.b (dieBase d + o) g := by
  rw [State.b, State.b, h.fields o g hg]

end State.KeepsSrcFields

open State (KeepsSrcFields)

@[simp] theorem State.port_setPort_same (s : State) (d : Nat) (p : SrcSt) : (s.setPort d p).port d = p :=
  (AMap.look_put _ _ _ _ _).trans (if_pos rfl)

@[simp] theorem State.f_setPort (s : State) (d : Nat) (p : SrcSt) (a : Nat) (f : Fd) : (s.setPort d p).f a f = s.f a f := rfl
@[simp] theorem State.port_count (s : State) (d a : Nat) : (s.count a).port d = s.port d := rfl
@[simp] theorem State.port_setF (s : State) (d a : Nat) (f : Fd) (x : Nat) : (s.setF a f x).port d = s.port d := rfl

/-- A leaf bit in the SRC_ block that is set reads 1. -/
theorem f_srcEvt_same (s : State) (d : Nat) {f : Fd} (hw : f.lsb + f.w ≤ 32) (h1 : 1 % 2 ^ f.w = 1) :
    (s.srcEvt d f).f (SRC_EVT d) f = 1 := by
  have h := (leafOf_beside s d (·.setF (SRC_EVT d) f 1)).keepsPorts.f d (o := ofs SRC_EVT) (by decide) f
  exact h.trans ((State.f_setF_same s (SRC_EVT d) f 1 hw).trans h1)

theorem srcEvt_keeps (s : State) (d : Nat) {f : Fd} (hw : f.lsb + f.w ≤ 32) : KeepsSrcFields d [(ofs SRC_EVT, f)] s (s.srcEvt d f) :=
  (KeepsSrcFields.refl s).leaf (o := ofs SRC_EVT) List.mem_cons_self hw

/-! ### Damage (R110 to R112) -/

/-- What the end of line mode writes. -/
def lineModeFields : List (Nat × Fd) := [(ofs SRC_STATUS, SRC_STATUS.LM), (ofs SRC_STATUS, SRC_STATUS.FILT), (ofs SRC_EVT, SRC_EVT.LM_EXIT)]

theorem lmExit_keeps (s : State) (d : Nat) : KeepsSrcFields d lineModeFields s (s.lmExit d) := by
  unfold State.lmExit
  split
  · exact ((((KeepsSrcFields.refl s).setF (o := ofs SRC_STATUS) (by decide) (by decide) 0).setF (o := ofs SRC_STATUS) (by decide)
      (by decide) 0).setPort d _).leaf (o := ofs SRC_EVT) (by decide) (by decide)
  · exact (KeepsSrcFields.refl s).setPort d _

/-- The causes of damage are shown: GEOM and FORMAT. -/
def State.damageCause (s : State) (d : Nat) (geom : Bool) : State :=
  let p := s.port d
  let s := if geom || (p.live.isSome && (p.geo.w = 0 || p.geo.h = 0)) then s.srcEvt d SRC_EVT.GEOM else s
  if p.live.any (·.unsupported) then s.srcEvt d SRC_EVT.FORMAT else s

/-- Line mode ends, and the frame in capture leaves the port and its buffer. -/
def State.captureDropped (s : State) (d : Nat) : State :=
  let s := s.lmExit d
  let s := s.setPort d { s.port d with live := none, last := none }
  if s.sw d = 3 then s else (s.count (SRC_DAMAGED_CNT d)).setF (SRC_BUF_STATE d) SRC_BUF_STATE.W 3

theorem srcDamaged_eq (s : State) (d : Nat) (geom : Bool) :
    s.srcDamaged d geom = ((s.damageCause d geom).srcEvt d SRC_EVT.DAMAGED).captureDropped d := rfl

/-- What the drop of a capture writes. -/
def droppedFields : List (Nat × Fd) :=
  (ofs SRC_DAMAGED_CNT, wholeReg) :: (ofs SRC_BUF_STATE, SRC_BUF_STATE.W) :: lineModeFields

/-- What damage writes. -/
def damagedFields : List (Nat × Fd) :=
  (ofs SRC_EVT, SRC_EVT.GEOM) :: (ofs SRC_EVT, SRC_EVT.FORMAT) :: (ofs SRC_EVT, SRC_EVT.DAMAGED) :: droppedFields

theorem damageCause_keeps (s : State) (d : Nat) (geom : Bool) : KeepsSrcFields d damagedFields s (s.damageCause d geom) := by
  have hevt {t : State} {f : Fd} (h : KeepsSrcFields d damagedFields s t) (hf : (ofs SRC_EVT, f) ∈ damagedFields) (hw : f.lsb + f.w ≤ 32)
      (c : Bool) : KeepsSrcFields d damagedFields s (if c = true then t.srcEvt d f else t) := by
    split
    · exact h.leaf hf hw
    · exact h
  exact hevt (hevt (.refl s) (by decide) (by decide) _) (by decide) (by decide) _

theorem captureDropped_keeps (s : State) (d : Nat) : KeepsSrcFields d droppedFields s (s.captureDropped d) := by
  have hleft := ((lmExit_keeps s d).mono (but' := droppedFields) (by decide)).setPort d { (s.lmExit d).port d with live := none, last := none }
  unfold State.captureDropped
  simp only
  split
  · exact hleft
  · exact (hleft.setReg (o := ofs SRC_DAMAGED_CNT) (by decide) _).setF (o := ofs SRC_BUF_STATE) (by decide) (by decide) 3

theorem srcDamaged_keeps (s : State) (d : Nat) (geom : Bool) : KeepsSrcFields d damagedFields s (s.srcDamaged d geom) :=
  ((damageCause_keeps s d geom).leaf (o := ofs SRC_EVT) (by decide) (by decide)).trans ((captureDropped_keeps _ d).mono (by decide))

theorem srcDamaged_damaged (s : State) (d : Nat) (geom : Bool) : (s.srcDamaged d geom).f (SRC_EVT d) SRC_EVT.DAMAGED = 1 :=
  ((captureDropped_keeps _ d).fields (ofs SRC_EVT) SRC_EVT.DAMAGED (by decide)).trans (f_srcEvt_same _ d (by decide) (by decide))

theorem srcDamaged_geom (s : State) (d : Nat) : (s.srcDamaged d true).f (SRC_EVT d) SRC_EVT.GEOM = 1 := by
  have hcause : (s.damageCause d true).f (SRC_EVT d) SRC_EVT.GEOM = 1 := by
    have hgeom := f_srcEvt_same s d (f := SRC_EVT.GEOM) (by decide) (by decide)
    unfold State.damageCause
    simp only [Bool.true_or, if_true]
    split
    · exact ((srcEvt_keeps _ d (f := SRC_EVT.FORMAT) (by decide)).fields (ofs SRC_EVT) SRC_EVT.GEOM (by decide)).trans hgeom
    · exact hgeom
  have hmark := (srcEvt_keeps (s.damageCause d true) d (f := SRC_EVT.DAMAGED) (by decide)).fields (ofs SRC_EVT) SRC_EVT.GEOM (by decide)
  exact ((captureDropped_keeps _ d).fields (ofs SRC_EVT) SRC_EVT.GEOM (by decide)).trans (hmark.trans hcause)

theorem srcDamaged_sw (s : State) (d : Nat) (geom : Bool) : (s.srcDamaged d geom).sw d = 3 := by
  rw [srcDamaged_eq]
  generalize (s.damageCause d geom).srcEvt d SRC_EVT.DAMAGED = u
  unfold State.captureDropped
  simp only
  split
  case isTrue h => exact h
  case isFalse => exact State.f_setF_same _ _ _ _ (by decide)

theorem srcDamaged_live (s : State) (d : Nat) (geom : Bool) : ((s.srcDamaged d geom).port d).live = none := by
  rw [srcDamaged_eq]
  generalize (s.damageCause d geom).srcEvt d SRC_EVT.DAMAGED = u
  unfold State.captureDropped
  simp only [apply_ite (State.port · d), State.port_setF, State.port_count, State.port_setPort_same, ite_self]

theorem State.OnlyDev.keepsDram {s t : State} (h : s.OnlyDev t) : KeepsDram s t := fun a => by
  rw [State.dramByte, State.dramByte, h.dram]

/-! ### A source frame starts (R110) -/

/-- SRC_STATUS shows the frame. -/
def State.frameShown (s : State) (d : Nat) (fr : SrcFrame) (col : Nat) : State :=
  ((((s.setF (SRC_STATUS d) SRC_STATUS.VIDEO 1).pwrClamp).setF (SRC_STATUS d) SRC_STATUS.ENC fr.enc).setF (SRC_STATUS d) SRC_STATUS.BPC
    fr.bpc).setF (SRC_STATUS d) SRC_STATUS.COLORIMETRY col

/-- A frame that is still in capture is damaged by the start of the next one. -/
def State.captureCleared (s : State) (d : Nat) : State := if s.sw d = 3 && (s.port d).live.isNone then s else s.srcDamaged d false

/-- The frame goes into the buffer W, with the geometry in force. -/
def State.captureStarted (s : State) (d : Nat) (start : Int) (fr : SrcFrame) : State :=
  let s := if s.genlocked d start then s else s.lmExit d
  s.setPort d { s.port d with live := some fr, lmOfs := start, geo := s.capGeo d (s.sw d) }

/-- What a frame shows in SRC_STATUS besides VIDEO. -/
def formatFields : List (Nat × Fd) :=
  [(ofs SRC_STATUS, SRC_STATUS.ENC), (ofs SRC_STATUS, SRC_STATUS.BPC), (ofs SRC_STATUS, SRC_STATUS.COLORIMETRY)]

theorem formatShown_keeps (s : State) (d : Nat) (fr : SrcFrame) (col : Nat) :
    KeepsSrcFields d formatFields (s.setF (SRC_STATUS d) SRC_STATUS.VIDEO 1) (s.frameShown d fr col) :=
  ((((KeepsSrcFields.refl _).beside (pwrClamp_beside _)).setF (o := ofs SRC_STATUS) (by decide) (by decide) _).setF (o := ofs SRC_STATUS)
    (by decide) (by decide) _).setF (o := ofs SRC_STATUS) (by decide) (by decide) _

/-- What a frame's start may write before its buffer is chosen. -/
def startFields : List (Nat × Fd) := (ofs SRC_STATUS, SRC_STATUS.VIDEO) :: formatFields ++ damagedFields

theorem captureCleared_keeps (s : State) (d : Nat) : KeepsSrcFields d damagedFields s (s.captureCleared d) := by
  unfold State.captureCleared
  split
  · exact .refl s
  · exact srcDamaged_keeps s d false

theorem captureStarted_keeps (s : State) (d : Nat) (start : Int) (fr : SrcFrame) :
    KeepsSrcFields d lineModeFields s (s.captureStarted d start fr) := by
  unfold State.captureStarted
  refine KeepsSrcFields.setPort ?_ d _
  split
  · exact .refl s
  · exact lmExit_keeps s d

theorem captureStarted_port (s : State) (d : Nat) (start : Int) (fr : SrcFrame) :
    ((s.captureStarted d start fr).port d).live = some fr ∧
      ((s.captureStarted d start fr).port d).geo.w = s.f (SRC_GEOM d) SRC_GEOM.W ∧
      ((s.captureStarted d start fr).port d).geo.h = s.f (SRC_GEOM d) SRC_GEOM.H ∧
      ((s.captureStarted d start fr).port d).geo.stride = s.f (SRC_STRIDE d) SRC_STRIDE.STRIDE := by
  have hkeep := captureStarted_keeps s d start fr
  have hport : ((s.captureStarted d start fr).port d).live = some fr ∧ ∃ b,
      ((s.captureStarted d start fr).port d).geo = (s.captureStarted d start fr).capGeo d b := by
    unfold State.captureStarted
    simp only [State.port_setPort_same, true_and]
    exact ⟨_, rfl⟩
  obtain ⟨hlive, b, hgeo⟩ := hport
  rw [hgeo]
  exact ⟨hlive, hkeep.fields (ofs SRC_GEOM) SRC_GEOM.W (by decide), hkeep.fields (ofs SRC_GEOM) SRC_GEOM.H (by decide),
    hkeep.fields (ofs SRC_STRIDE) SRC_STRIDE.STRIDE (by decide)⟩

/-- Port d once SRC_STATUS shows the frame and no other one is in capture. -/
def State.captureReady (s : State) (d : Nat) (fr : SrcFrame) (col : Nat) : State := (s.frameShown d fr col).captureCleared d

theorem captureReady_keeps (s : State) (d : Nat) (fr : SrcFrame) (col : Nat) : KeepsSrcFields d startFields s (s.captureReady d fr col) :=
  (((KeepsSrcFields.refl s).setF (o := ofs SRC_STATUS) (by decide) (by decide) 1).trans
    ((formatShown_keeps s d fr col).mono (by decide))).trans ((captureCleared_keeps _ d).mono (by decide))

theorem captureReady_video (s : State) (d : Nat) (fr : SrcFrame) (col : Nat) :
    (s.captureReady d fr col).f (SRC_STATUS d) SRC_STATUS.VIDEO = 1 := by
  have hclear := (captureCleared_keeps (s.frameShown d fr col) d).fields (ofs SRC_STATUS) SRC_STATUS.VIDEO (by decide)
  have hformat := (formatShown_keeps s d fr col).fields (ofs SRC_STATUS) SRC_STATUS.VIDEO (by decide)
  exact hclear.trans (hformat.trans (State.f_setF_same s _ _ 1 (by decide)))

/-- Port d once buffer k is chosen for the frame as well. -/
def State.bufferChosen (s : State) (d : Nat) (fr : SrcFrame) (col k : Nat) : State :=
  (s.captureReady d fr col).setF (SRC_BUF_STATE d) SRC_BUF_STATE.W k

theorem bufferChosen_spec (s : State) (d : Nat) (fr : SrcFrame) (col : Nat) {k : Nat} (hk : k ∈ [0, 1, 2]) :
    KeepsSrcFields d startFields s (s.bufferChosen d fr col k) ∧ (s.bufferChosen d fr col k).sw d = k ∧
      (s.bufferChosen d fr col k).f (SRC_STATUS d) SRC_STATUS.VIDEO = 1 := by
  have hready := captureReady_keeps s d fr col
  have hbuf : KeepsSrcFields d [(ofs SRC_BUF_STATE, SRC_BUF_STATE.W)] (s.captureReady d fr col) (s.bufferChosen d fr col k) :=
    (KeepsSrcFields.refl _).setF (o := ofs SRC_BUF_STATE) (by decide) (by decide) k
  have hmod : ∀ k ∈ [0, 1, 2], k % 2 ^ SRC_BUF_STATE.W.w = k := by decide
  exact ⟨hready.trans (hbuf.mono (by decide)), (State.f_setF_same _ _ _ k (by decide)).trans (hmod k hk),
    (hbuf.fields (ofs SRC_STATUS) SRC_STATUS.VIDEO (by decide)).trans (captureReady_video s d fr col)⟩

/-- A frame that starts on a linked port while buffer k is free. -/
theorem srcFrameStart_free {s : State} {d k : Nat} {fr : SrcFrame} (start : Int) (col : Nat) (ha : s.srcAnswers d = true) (hh : s.hpd d = true)
    (hl : s.b (SRC_STATUS d) SRC_STATUS.LINK_UP = true) (hk : ([0, 1, 2].find? fun b => !([s.sd d, s.sc d, s.sr d].contains b)) = some k) :
    s.srcFrameStart d start fr col =
      (s.bufferChosen d fr col k).captureStarted d start fr := by
  have hkeep := captureReady_keeps s d fr col
  have hsd : (s.captureReady d fr col).sd d = s.sd d := hkeep.fields (ofs SRC_BUF_STATE) SRC_BUF_STATE.D (by decide)
  have hsc : (s.captureReady d fr col).sc d = s.sc d := hkeep.fields (ofs SRC_BUF_STATE) SRC_BUF_STATE.C (by decide)
  have hsr : (s.captureReady d fr col).sr d = s.sr d := hkeep.fields (ofs SRC_BUF_STATE) SRC_BUF_STATE.REL (by decide)
  rw [← hsd, ← hsc, ← hsr] at hk
  rw [State.srcFrameStart, if_neg (by simp [ha, hh, hl])]
  extract_lets shown cleared used chosen ended
  have hcleared : cleared = s.captureReady d fr col := rfl
  have hfree : ((List.range 3).find? fun k => !used.contains k) = some k := hk
  have hchosen : chosen = cleared.setF (SRC_BUF_STATE d) SRC_BUF_STATE.W k := by simp only [chosen, hfree]
  rw [State.bufferChosen, ← hcleared, ← hchosen]
  rfl

theorem completes_sourceFrameStart {s : State} {d k : Nat} (start : Int) (enc bpc col : Nat) (rows : List (List (Nat × Nat × Nat)))
    (ha : s.srcAnswers d = true) (hh : s.hpd d = true) (hl : s.b (SRC_STATUS d) SRC_STATUS.LINK_UP = true)
    (hk : ([0, 1, 2].find? fun b => !([s.sd d, s.sc d, s.sr d].contains b)) = some k) :
    Completes (.sourceFrameStart d start enc bpc col rows) s fun t =>
      t.sw d = k ∧ t.sd d = s.sd d ∧ t.sc d = s.sc d ∧ t.sr d = s.sr d ∧ t.f (SRC_STATUS d) SRC_STATUS.VIDEO = 1 ∧
      (t.port d).live = some ⟨enc, bpc, rows⟩ ∧ (t.port d).geo.w = s.f (SRC_GEOM d) SRC_GEOM.W ∧
      (t.port d).geo.h = s.f (SRC_GEOM d) SRC_GEOM.H ∧ (t.port d).geo.stride = s.f (SRC_STRIDE d) SRC_STRIDE.STRIDE ∧ KeepsDram s t := by
  have heq := srcFrameStart_free (s := s.begun) (fr := ⟨enc, bpc, rows⟩) start col ha hh hl hk
  obtain ⟨hchosen, hw, hvideo⟩ := bufferChosen_spec s.begun d ⟨enc, bpc, rows⟩ col (List.mem_of_find?_eq_some hk)
  generalize s.begun.bufferChosen d ⟨enc, bpc, rows⟩ col k = c at heq hchosen hw hvideo
  have hstart := captureStarted_keeps c d start ⟨enc, bpc, rows⟩
  have hall := hchosen.trans (hstart.mono (by decide))
  obtain ⟨hlive, hgw, hgh, hgs⟩ := captureStarted_port c d start ⟨enc, bpc, rows⟩
  refine completes_runDev (f := (·.srcFrameStart d start ⟨enc, bpc, rows⟩ col)) rfl heq hall.onlyDev
    ⟨?_, ?_, ?_, ?_, ?_, hlive, ?_, ?_, ?_, hall.onlyDev.keepsDram⟩
  · exact (hstart.fields (ofs SRC_BUF_STATE) SRC_BUF_STATE.W (by decide)).trans hw
  · exact hall.fields (ofs SRC_BUF_STATE) SRC_BUF_STATE.D (by decide)
  · exact hall.fields (ofs SRC_BUF_STATE) SRC_BUF_STATE.C (by decide)
  · exact hall.fields (ofs SRC_BUF_STATE) SRC_BUF_STATE.REL (by decide)
  · exact (hstart.fields (ofs SRC_STATUS) SRC_STATUS.VIDEO (by decide)).trans hvideo
  · exact hgw.trans (hchosen.fields (ofs SRC_GEOM) SRC_GEOM.W (by decide))
  · exact hgh.trans (hchosen.fields (ofs SRC_GEOM) SRC_GEOM.H (by decide))
  · exact hgs.trans (hchosen.fields (ofs SRC_STRIDE) SRC_STRIDE.STRIDE (by decide))

/-! ### A source frame ends (R109 to R111) -/

/-- The frame in capture agrees with the geometry of its capture and has a supported encoding. -/
def CapGeo.fits (g : CapGeo) (fr : SrcFrame) : Prop :=
  g.w ≠ 0 ∧ g.h ≠ 0 ∧ fr.rows.length = g.h ∧ (∀ r ∈ fr.rows, r.length = g.w) ∧ fr.lineBytes g.w ≤ g.stride ∧ fr.unsupported = false

/-- The complete frame in buffer b becomes C. -/
def State.frameTaken (s : State) (d b : Nat) (fr : SrcFrame) : State :=
  let p := s.port d
  let s := s.setPort d { p with fmts := p.fmts.put ⟨0, false⟩ b ⟨fr.enc, fr.bpc = 1⟩, fresh := !p.powerSleep }
  let s := if s.sc d = 3 then s else s.count (SRC_DROP_CNT d)
  let s := (s.setF (SRC_BUF_STATE d) SRC_BUF_STATE.C b).setF (SRC_BUF_STATE d) SRC_BUF_STATE.W 3
  s.setF (SRC_BUF_STATE d) SRC_BUF_STATE.CAPTURED (s.f (SRC_BUF_STATE d) SRC_BUF_STATE.CAPTURED + 1)

theorem frameTaken_sc (s : State) (d : Nat) {b : Nat} (fr : SrcFrame) (hb : b < 3) : (s.frameTaken d b fr).sc d = b := by
  have hmod : b % 2 ^ SRC_BUF_STATE.C.w = b := Nat.mod_eq_of_lt (Nat.lt_of_lt_of_le hb (by decide))
  rw [State.sc, State.frameTaken, State.f_setF_apart _ _ _ _ _ (by decide) (by decide), State.f_setF_apart _ _ _ _ _ (by decide) (by decide),
    State.f_setF_same _ _ _ _ (by decide), hmod]

theorem frameTaken_sw (s : State) (d b : Nat) (fr : SrcFrame) : (s.frameTaken d b fr).sw d = 3 := by
  rw [State.sw, State.frameTaken, State.f_setF_apart _ _ _ _ _ (by decide) (by decide), State.f_setF_same _ _ _ _ (by decide)]
  rfl

theorem frameTaken_port (s : State) (d b : Nat) (fr : SrcFrame) :
    ((s.frameTaken d b fr).port d).live = (s.port d).live ∧ ((s.frameTaken d b fr).port d).last = (s.port d).last := by
  rw [State.frameTaken, State.port_setF, State.port_setF, State.port_setF, apply_ite (State.port · d), State.port_count, ite_self,
    State.port_setPort_same]
  exact ⟨rfl, rfl⟩

theorem frameTaken_dies (s : State) (d b : Nat) (fr : SrcFrame) : (s.frameTaken d b fr).dies = s.dies := by
  rw [State.frameTaken, State.setF_dies, State.setF_dies, State.setF_dies, apply_ite State.dies, State.count_dies, ite_self]
  rfl

/-- The frame in capture has arrived whole; a run of genlocked frames goes on with it or ends (R112). -/
def State.frameWhole (s : State) (d : Nat) (fr : SrcFrame) : State :=
  let p := s.port d
  let run := if (s.lmCond d).isSome && s.genlocked d p.lmOfs then p.lmRun + 1 else 0
  s.setPort d { p with live := none, last := some fr, lmRun := run }

/-- The end of an undamaged frame: its lines reach memory, and its buffer becomes C. -/
theorem srcFrameEnd_fits {s : State} {d : Nat} {fr : SrcFrame} (hl : (s.port d).live = some fr) (hw : s.sw d ≠ 3)
    (hg : (s.port d).geo.fits fr) :
    s.srcFrameEnd d false = ((s.frameWhole d fr).capture d (s.port d).geo fr).frameTaken d (s.sw d) fr := by
  obtain ⟨hgw, hgh, hrows, hcols, hbytes, hsup⟩ := hg
  have hcol : (fr.rows.any fun r => r.length != (s.port d).geo.w) = false := by
    simpa only [List.any_eq_false, bne_iff_ne, Decidable.not_not] using hcols
  have hsmall : decide ((s.port d).geo.stride < fr.lineBytes (s.port d).geo.w) = false := decide_eq_false (Nat.not_lt.2 hbytes)
  simp only [State.srcFrameEnd, hl, hgw, hgh, hrows, hcol, hsmall, hsup, bne_self_eq_false, decide_false, Bool.or_self, Bool.and_false,
    Bool.false_eq_true, if_false]
  exact if_neg hw

/-- The end of a frame that meets no geometry, or one of another height. -/
theorem srcFrameEnd_geom {s : State} {d : Nat} {fr : SrcFrame} (hl : (s.port d).live = some fr)
    (hg : (s.port d).geo.w = 0 ∨ (s.port d).geo.h = 0 ∨ fr.rows.length ≠ (s.port d).geo.h) : s.srcFrameEnd d false = s.srcDamaged d true := by
  have hgeom : (decide ((s.port d).geo.w = 0) || decide ((s.port d).geo.h = 0) || fr.rows.length != (s.port d).geo.h) = true := by
    simp only [Bool.or_eq_true, decide_eq_true_eq, bne_iff_ne, or_assoc]
    exact hg
  simp only [State.srcFrameEnd, hl, hgeom, Bool.true_or, Bool.or_true, if_true, Bool.false_eq_true, if_false]

/-- A field after a command that writes DRAM. -/
theorem f_run {s : State} {f : State → State} (h : (f s.begun).dies = s.dies) (a : Nat) (g : Fd) : (s.run f).f a g = (f s.begun).f a g := by
  rw [State.f, State.f, State.reg, State.reg, State.regW, State.regW, State.run_dev, State.run_dies, h]

theorem srcFrameEnd_fits_port {s : State} {d : Nat} {fr : SrcFrame} (hl : (s.port d).live = some fr) (hw : s.sw d < 3)
    (hg : (s.port d).geo.fits fr) :
    (s.srcFrameEnd d false).dies = s.dies ∧ (s.srcFrameEnd d false).sc d = s.sw d ∧ (s.srcFrameEnd d false).sw d = 3 ∧
      ((s.srcFrameEnd d false).port d).live = none ∧ ((s.srcFrameEnd d false).port d).last = some fr := by
  have hcap := capture_keepsPorts (s.frameWhole d fr) d (s.port d).geo fr
  have hwhole : ((s.frameWhole d fr).port d).live = none ∧ ((s.frameWhole d fr).port d).last = some fr := by
    simp only [State.frameWhole, State.port_setPort_same, and_self]
  rw [← hcap.port d] at hwhole
  rw [srcFrameEnd_fits hl (Nat.ne_of_lt hw) hg]
  generalize (s.frameWhole d fr).capture d (s.port d).geo fr = t at hcap hwhole
  obtain ⟨hlive, hlast⟩ := frameTaken_port t d (s.sw d) fr
  exact ⟨(frameTaken_dies t d _ fr).trans hcap.dies, frameTaken_sc t d fr hw, frameTaken_sw t d _ fr, hlive.trans hwhole.1,
    hlast.trans hwhole.2⟩

theorem completes_sourceFrameEnd_fits {s : State} {d : Nat} {fr : SrcFrame} (hl : (s.port d).live = some fr) (hw : s.sw d < 3)
    (hg : (s.port d).geo.fits fr) :
    Completes (.sourceFrameEnd d false) s fun t =>
      t.sc d = s.sw d ∧ t.sw d = 3 ∧ (t.port d).live = none ∧ (t.port d).last = some fr := by
  obtain ⟨hdies, hsc, hsw, hport⟩ := srcFrameEnd_fits_port (s := s.begun) hl hw hg
  exact ⟨s.run (·.srcFrameEnd d false), rfl, (f_run (f := (·.srcFrameEnd d false)) hdies _ _).trans hsc,
    (f_run (f := (·.srcFrameEnd d false)) hdies _ _).trans hsw, hport⟩

theorem completes_sourceFrameEnd_geom {s : State} {d : Nat} {fr : SrcFrame} (hl : (s.port d).live = some fr)
    (hg : (s.port d).geo.w = 0 ∨ (s.port d).geo.h = 0 ∨ fr.rows.length ≠ (s.port d).geo.h) :
    Completes (.sourceFrameEnd d false) s fun t =>
      t.f (SRC_EVT d) SRC_EVT.GEOM = 1 ∧ t.f (SRC_EVT d) SRC_EVT.DAMAGED = 1 ∧ t.sc d = s.sc d ∧ t.sd d = s.sd d ∧ t.sw d = 3 ∧
      (t.port d).live = none ∧ KeepsDram s t := by
  have hkeep := srcDamaged_keeps s.begun d true
  exact completes_run (f := (·.srcFrameEnd d false)) rfl (srcFrameEnd_geom (s := s.begun) hl hg) hkeep.onlyDev
    ⟨srcDamaged_geom _ d, srcDamaged_damaged _ d true, hkeep.fields (ofs SRC_BUF_STATE) SRC_BUF_STATE.C (by decide),
      hkeep.fields (ofs SRC_BUF_STATE) SRC_BUF_STATE.D (by decide), srcDamaged_sw _ d true, srcDamaged_live _ d true,
      hkeep.onlyDev.keepsDram⟩

/-- Settles O22: the start of a frame, its undamaged end, and its end against the geometry, one lemma each. -/
theorem sourceFrames : Obligations.SourceFrames := by
  unfold Obligations.SourceFrames
  refine fun s d _ => ⟨?_, ?_, ?_⟩
  · intro start enc bpc col rows k ha hh hl _ hk
    exact completes_sourceFrameStart start enc bpc col rows ha hh hl hk
  · intro fr hl hw hgw hrows hne hcols hbytes hsup
    have hgh : (s.port d).geo.h ≠ 0 := fun h0 => hne (List.eq_nil_of_length_eq_zero (hrows.trans h0))
    exact completes_sourceFrameEnd_fits hl hw ⟨hgw, hgh, hrows, hcols, hbytes, hsup⟩
  · intro fr hl hg
    exact completes_sourceFrameEnd_geom hl hg

/-! ### A trim that waits for a link (R443) -/

theorem setPort_dev_cal (s : State) (d : Nat) (p : SrcSt) : (s.setPort d p).dev.cal = s.dev.cal := rfl

theorem dropPortNew_look (s : State) (d : Nat) : (s.dropPortNew d).dev.cal.portNew.look [] d = [] := by
  show (s.dev.cal.portNew.put [] d []).look [] d = []
  rw [AMap.look_put, if_pos rfl]

/-- LINK_UP that rises on a port takes the trim set that waits for it: none waits any more. -/
theorem srcLinkUp_takes_portNew {s : State} {d : Nat} (lanes rate : Nat) (ha : s.srcAnswers d = true) (hh : s.hpd d = true)
    (hwait : (s.port d).trimWait = true) (hl : s.b (SRC_STATUS d) SRC_STATUS.LINK_UP = false) :
    (s.srcLinkUp d lanes rate).dev.cal.portNew.look [] d = [] := by
  have hcal : (s.srcLinkUp d lanes rate).dev.cal = (s.portTrims d).dev.cal := by
    rw [State.srcLinkUp, if_neg (by simp [ha, hh]), State.setF_dev_cal, State.setF_dev_cal, State.setF_dev_cal, setPort_dev_cal]
  rw [hcal, State.portTrims, if_neg (by simp [hwait, hl])]
  exact dropPortNew_look _ d

/-- A step that keeps everything but registers and ports keeps the calibration unit. -/
theorem cal_of_keeps_src {s t : State} {but : List Nat} (h : Keeps s t but fun x => { x with src := s.dev.src }) :
    t.dev.cal = s.dev.cal := by
  obtain ⟨-, -, -, -, hdev⟩ := h
  have hcal := congrArg Dev.cal hdev
  exact hcal

/-- Idle with port 0 enabled and its record read, its link down, and a trim set that waits for LINK_UP to rise. -/
def trimWaiting : State :=
  let s := (State.reset.setMode .idle 0xC).setF (SRC_CTL 0) SRC_CTL.EN 1
  (s.setPort 0 { s.port 0 with payload := some ([0x1E, 4, 0x80, 0] ++ List.replicate 140 0) }).portTrim 0 (List.replicate 63 0)

theorem trimWaiting_waits : trimWaiting.srcAnswers 0 = true ∧ trimWaiting.hpd 0 = true ∧
    trimWaiting.b (SRC_STATUS 0) SRC_STATUS.LINK_UP = false ∧ (trimWaiting.port 0).trimWait = true ∧
    trimWaiting.dev.cal.portNew.look [] 0 ≠ [] := by
  decide +kernel

/-- Refutes O23: on a port for whose link a trim set waits, training takes that set (R443), and with it the calibration unit changes, which
the clause on training says stays as it is. -/
theorem not_sourceLinks : ¬ Obligations.SourceLinks := by
  unfold Obligations.SourceLinks
  intro h
  obtain ⟨-, htrain, -⟩ := h trimWaiting 0 (by decide)
  obtain ⟨ha, hh, hl, hwait, hset⟩ := trimWaiting_waits
  have htaken := srcLinkUp_takes_portNew (s := trimWaiting.begun) 4 0x1E ha hh hwait hl
  obtain ⟨t, hnext, -, -, -, hkeeps⟩ := htrain 4 0x1E ha hh
  have ht : trimWaiting.runDev (·.srcLinkUp 0 4 0x1E) = t := Host.Outcome.next.inj hnext
  rw [← cal_of_keeps_src hkeeps, ← ht] at hset
  exact hset htaken

/-! ### A write of SRC_CTL (R102, R104) -/

/-- What SRC_CTL keeps of a value that is written to it. -/
def srcCtlWord (v : Nat) : Nat := v % 2 ^ 32 / 2 ^ 30 * 2 ^ 30 + SRC_CTL.RATE_CAP.get v * 2 ^ 20 + SRC_CTL.LANE_CAP.get v * 2 ^ 16

theorem srcCtlWord_en (v : Nat) : SRC_CTL.EN.get (srcCtlWord v % 2 ^ 32) = v / 2 ^ 31 % 2 := by
  have hrate : SRC_CTL.RATE_CAP.get v < 2 ^ 8 := Fd.get_lt _ _
  have hlane : SRC_CTL.LANE_CAP.get v < 2 ^ 2 := Fd.get_lt _ _
  have htop : v % 2 ^ 32 / 2 ^ 30 / 2 = v / 2 ^ 31 % 2 := by omega
  have hlow : srcCtlWord v / 2 ^ 30 = v % 2 ^ 32 / 2 ^ 30 := by
    unfold srcCtlWord
    omega
  show srcCtlWord v % 2 ^ 32 / 2 ^ 31 % 2 ^ 1 = v / 2 ^ 31 % 2
  omega

/-- SRC_CTL as it is written. -/
def State.srcCtlSet (s : State) (d v : Nat) : State := s.setReg (SRC_CTL d) (srcCtlWord v)

theorem srcCtlSet_en (s : State) (d v : Nat) : (s.srcCtlSet d v).b (SRC_CTL d) SRC_CTL.EN = bitOf v 31 := by
  rw [State.b, State.f, State.srcCtlSet, State.reg_setReg_same, srcCtlWord_en, bitOf]
  obtain h0 | h1 := Nat.mod_two_eq_zero_or_one (v / 2 ^ 31)
  · rw [h0]; rfl
  · rw [h1]; rfl

/-- The buffers of a port that starts are empty, and nothing is to be dropped. -/
def State.portEmptied (s : State) (d : Nat) : State :=
  (s.setReg (SRC_BUF_STATE d) (s.reg (SRC_BUF_STATE d) / 2 ^ 16 * 2 ^ 16 + 0x3333)).setPort d { s.port d with drop := false }

theorem srcCtlWrite_start {s : State} {d v : Nat} (hoff : s.b (SRC_CTL d) SRC_CTL.EN = false) (hon : bitOf v 31 = true) :
    s.srcCtlWrite d v = (((s.srcCtlSet d v).portEmptied d).retirePins (PinOwner.ofPort d)).srcReadRecord d := by
  rw [State.srcCtlWrite, hoff, hon]
  rfl

/-- EN cleared: the source is gone, nothing is written, and the buffers are to be dropped. -/
def State.portStopped (s : State) (d : Nat) : State :=
  (s.setF (SRC_BUF_STATE d) SRC_BUF_STATE.W 3).setPort d { s.port d with drop := true, hpdPulse := false, irqPulse := false }

theorem srcCtlWrite_stop {s : State} {d v : Nat} (hon : s.b (SRC_CTL d) SRC_CTL.EN = true) (hoff : bitOf v 31 = false) :
    s.srcCtlWrite d v = ((s.srcCtlSet d v).srcGone d).portStopped d := by
  rw [State.srcCtlWrite, hoff, hon]
  rfl

/-! #### What a port that starts holds -/

theorem portEmptied_bufState (s : State) (d : Nat) :
    (s.portEmptied d).sd d = 3 ∧ (s.portEmptied d).sc d = 3 ∧ (s.portEmptied d).sw d = 3 ∧ (s.portEmptied d).sr d = 3 := by
  have hfield (f : Fd) : (s.portEmptied d).f (SRC_BUF_STATE d) f = f.get ((s.reg (SRC_BUF_STATE d) / 2 ^ 16 * 2 ^ 16 + 0x3333) % 2 ^ 32) := by
    rw [State.portEmptied, State.f_setPort, State.f, State.reg_setReg_same]
  rw [State.sd, State.sc, State.sw, State.sr, hfield, hfield, hfield, hfield]
  simp only [Fd.get, SRC_BUF_STATE.D, SRC_BUF_STATE.C, SRC_BUF_STATE.W, SRC_BUF_STATE.REL]
  omega

theorem portEmptied_keeps (s : State) (d : Nat) : KeepsSrcFields d [(ofs SRC_BUF_STATE, wholeReg)] s (s.portEmptied d) :=
  ((KeepsSrcFields.refl s).setReg (o := ofs SRC_BUF_STATE) (by decide) _).setPort d _

/-- A record that is read changes NO_RECORD and the port's payload. -/
theorem srcReadRecord_keeps (s : State) (d : Nat) :
    KeepsSrcFields d [(ofs SRC_STATUS, SRC_STATUS.NO_RECORD)] s (s.srcReadRecord d) ∧
      ((s.srcReadRecord d).port d).drop = (s.port d).drop := by
  have hget := nvmGet_beside s 0x30 d
  have hkeep (p : SrcSt) (x : Nat) : KeepsSrcFields d [(ofs SRC_STATUS, SRC_STATUS.NO_RECORD)] s
      (((s.nvmGet 0x30 d).2.setPort d p).setF (SRC_STATUS d) SRC_STATUS.NO_RECORD x) :=
    (((KeepsSrcFields.refl s).beside hget).setPort d p).setF (o := ofs SRC_STATUS) (by decide) (by decide) x
  have hdrop (p : SrcSt) (x : Nat) : ((((s.nvmGet 0x30 d).2.setPort d p).setF (SRC_STATUS d) SRC_STATUS.NO_RECORD x).port d).drop = p.drop := by
    rw [State.port_setF, State.port_setPort_same]
  have hport : ((s.nvmGet 0x30 d).2.port d).drop = (s.port d).drop := congrArg SrcSt.drop (hget.keepsPorts.port d)
  unfold State.srcReadRecord
  simp only
  split
  · split
    · exact ⟨hkeep _ _, (hdrop _ _).trans hport⟩
    · exact ⟨hkeep _ _, (hdrop _ _).trans hport⟩
  · exact ⟨hkeep _ _, (hdrop _ _).trans hport⟩

/-- EN set on a port that is off. -/
theorem srcCtlWrite_start_port {s : State} {d v : Nat} (hoff : s.b (SRC_CTL d) SRC_CTL.EN = false) (hon : bitOf v 31 = true) :
    s.OnlyDev (s.srcCtlWrite d v) ∧ (s.srcCtlWrite d v).b (SRC_CTL d) SRC_CTL.EN = true ∧ (s.srcCtlWrite d v).sd d = 3 ∧
      (s.srcCtlWrite d v).sc d = 3 ∧ (s.srcCtlWrite d v).sw d = 3 ∧ (s.srcCtlWrite d v).sr d = 3 ∧
      ((s.srcCtlWrite d v).port d).drop = false := by
  have hset : s.OnlyDev (s.srcCtlSet d v) := rfl
  have hen := (srcCtlSet_en s d v).trans hon
  rw [srcCtlWrite_start hoff hon]
  generalize s.srcCtlSet d v = c at hset hen
  have hempty := portEmptied_keeps c d
  obtain ⟨hd, hc, hw, hr⟩ := portEmptied_bufState c d
  have hdrop : ((c.portEmptied d).port d).drop = false := by rw [State.portEmptied, State.port_setPort_same]
  generalize c.portEmptied d = e at hempty hd hc hw hr hdrop
  have hretire := retirePins_beside e (PinOwner.ofPort d)
  obtain ⟨hread, hport⟩ := srcReadRecord_keeps (e.retirePins (PinOwner.ofPort d)) d
  have hall := ((KeepsSrcFields.refl e).beside hretire).trans hread
  have hbuf (f : Fd) := hall.fields (ofs SRC_BUF_STATE) f ⟨by decide, by simp [ofs, SRC_BUF_STATE, SRC_STATUS, dieBase]⟩
  refine ⟨(hset.trans hempty.onlyDev).trans hall.onlyDev, ?_, (hbuf _).trans hd, (hbuf _).trans hc, (hbuf _).trans hw, (hbuf _).trans hr, ?_⟩
  · exact (hall.b (ofs SRC_CTL) SRC_CTL.EN (by decide)).trans ((hempty.b (ofs SRC_CTL) SRC_CTL.EN (by decide)).trans hen)
  · rw [hport, hretire.keepsPorts.port, hdrop]

/-! #### What a port that stops holds -/

/-- What the loss of the source writes. -/
def goneFields : List (Nat × Fd) := (ofs SRC_STATUS, SRC_STATUS.LINK_UP) :: (ofs SRC_STATUS, SRC_STATUS.VIDEO) :: damagedFields

theorem srcGone_keeps (s : State) (d : Nat) : KeepsSrcFields d goneFields s (s.srcGone d) := by
  have hdamage : KeepsSrcFields d goneFields s (if (s.port d).live.isSome then s.srcDamaged d false else s) := by
    split
    · exact (srcDamaged_keeps s d false).mono (by decide)
    · exact .refl s
  exact ((hdamage.setF (o := ofs SRC_STATUS) (by decide) (by decide) 0).setF (o := ofs SRC_STATUS) (by decide) (by decide) 0).setPort d _

theorem srcGone_linkUp (s : State) (d : Nat) : (s.srcGone d).f (SRC_STATUS d) SRC_STATUS.LINK_UP = 0 := by
  rw [State.srcGone, State.f_setPort, State.f_setF_apart _ _ _ _ _ (by decide) (by decide), State.f_setF_same _ _ _ _ (by decide)]
  rfl

theorem portStopped_keeps (s : State) (d : Nat) : KeepsSrcFields d [(ofs SRC_BUF_STATE, SRC_BUF_STATE.W)] s (s.portStopped d) :=
  ((KeepsSrcFields.refl s).setF (o := ofs SRC_BUF_STATE) (by decide) (by decide) 3).setPort d _

/-- EN cleared on a port that is on. -/
theorem srcCtlWrite_stop_port {s : State} {d v : Nat} (hon : s.b (SRC_CTL d) SRC_CTL.EN = true) (hoff : bitOf v 31 = false) :
    s.OnlyDev (s.srcCtlWrite d v) ∧ (s.srcCtlWrite d v).b (SRC_CTL d) SRC_CTL.EN = false ∧ (s.srcCtlWrite d v).sw d = 3 ∧
      ((s.srcCtlWrite d v).port d).drop = true ∧ (s.srcCtlWrite d v).f (SRC_STATUS d) SRC_STATUS.LINK_UP = 0 := by
  have hset : s.OnlyDev (s.srcCtlSet d v) := rfl
  have hen := (srcCtlSet_en s d v).trans hoff
  rw [srcCtlWrite_stop hon hoff]
  have hgone := srcGone_keeps (s.srcCtlSet d v) d
  have hlink := srcGone_linkUp (s.srcCtlSet d v) d
  generalize (s.srcCtlSet d v).srcGone d = g at hgone hlink
  have hstop := portStopped_keeps g d
  refine ⟨(hset.trans hgone.onlyDev).trans hstop.onlyDev, ?_, ?_, ?_, ?_⟩
  · exact (hstop.b (ofs SRC_CTL) SRC_CTL.EN (by decide)).trans ((hgone.b (ofs SRC_CTL) SRC_CTL.EN (by decide)).trans hen)
  · rw [State.sw, State.portStopped, State.f_setPort, State.f_setF_same _ _ _ _ (by decide)]
    rfl
  · rw [State.portStopped, State.port_setPort_same]
  · exact (hstop.fields (ofs SRC_STATUS) SRC_STATUS.LINK_UP (by decide)).trans hlink

/-! #### The way of the write -/

theorem present_srcCtl (s : State) (d : Nat) : s.present (SRC_CTL d) = true := by
  have h (en : Nat) (es : List StrandEnt) : presentIn en es (SRC_CTL d) = true := by simp [presentIn, SRC_CTL, dieBase_mod]
  unfold State.present
  cases s.dev.frozenShape.look none (winDie (SRC_CTL d)) with
  | none => simp only [h, Bool.or_true]
  | some x => exact h x.1 x.2

/-- SRC_CTL and the register before it are no `_LO`. -/
theorem isWriteLo_srcCtl (d : Nat) : isWriteLo (SRC_CTL d) = false ∧ isWriteLo (SRC_CTL d - 4) = false := by
  have hlo {o : Nat} (h : o < 0x10000) (hn : o = 0x400 ∨ o = 0x3FC) : isWriteLo (dieBase d + o) = false := by
    rw [← Bool.not_eq_true]
    intro hlo
    have := isWriteLo_die_place h hlo
    omega
  exact ⟨hlo (by decide) (.inl rfl), hlo (o := 0x3FC) (by decide) (.inr rfl)⟩

theorem regEffect_srcCtl (s : State) (who : Requester) (f : NvmFail) (d v : Nat) :
    s.regEffect who f (SRC_CTL d) v = s.srcCtlWrite d v := by
  have hrow : (rowAt (SRC_CTL d)).isSome = true := by
    rw [show rowAt (SRC_CTL d) = findReg true 0x400 from rowAt_die d (by decide)]
    decide
  have hge : ¬SRC_CTL d < 0x10000 := not_dieBase_lt d 0x400
  obtain ⟨hlo, hlo4⟩ := isWriteLo_srcCtl d
  rw [State.regEffect, if_neg (by simp [Option.isNone_eq_false_iff.2 hrow, present_srcCtl]), if_neg (not_lanyLocked (by omega)), hlo, hlo4,
    if_neg Bool.false_ne_true, if_neg Bool.false_ne_true, if_neg hge, show winDie (SRC_CTL d) = d from winDie_dieBase d (by decide), State.dieWrite]
  simp only [if_true]

/-- A host write of SRC_CTL of a live die that is answered at once. -/
theorem wrAt_srcCtl {s : State} {d : Nat} (v : Nat) (hd : d < 8) (h : s.admits .host (SRC_CTL d)) (hl : s.live d = true) :
    s.wrAt .host (fun o => o = SRC_CTL 0 % 0x10000) (SRC_CTL d) v = s.srcCtlWrite d v := by
  have haddr : 0x10000 ≤ SRC_CTL d ∧ SRC_CTL d < 0x90000 ∧ SRC_CTL d % 4 = 0 ∧ SRC_CTL d % 0x10000 = 0x400 := by
    unfold SRC_CTL dieBase
    omega
  obtain ⟨hge, hlt, hal, hofs⟩ := haddr
  have htgt : s.writeTargets (SRC_CTL d) = [SRC_CTL d] := by
    rw [State.writeTargets, if_neg (by omega), if_pos hlt, show winDie (SRC_CTL d) = d from winDie_dieBase d (by decide), if_pos hl]
  have hcond : (decide (0x10000 ≤ SRC_CTL d) && decide (SRC_CTL d < 0x100000) && decide (SRC_CTL d % 0x10000 = SRC_CTL 0 % 0x10000)) = true := by
    simp only [Bool.and_eq_true, decide_eq_true_eq]
    exact ⟨⟨hge, by omega⟩, hofs⟩
  rw [State.wrAt, if_pos hcond, State.wr, writeReg_full h hal (by unfold CHIP_BOOT_CTL; omega),
    routeWrite_host (by omega) (by omega) (by omega), htgt, List.foldl_cons, List.foldl_nil]
  exact regEffect_srcCtl s .host nvmNoFail d v

theorem completes_srcCtlWrite {s : State} {d : Nat} {v : Word} {e : State → Prop} (hd : d < 8) (h : s.admits .host (SRC_CTL d))
    (hl : s.live d = true) (hu : s.begun.OnlyDev (s.begun.srcCtlWrite d v.toNat)) (he : e (s.begun.srcCtlWrite d v.toNat)) :
    Completes (.srcCtlWrite (SRC_CTL d) v) s e :=
  completes_run (f := (·.wrAt .host (fun o => o = SRC_CTL 0 % 0x10000) (SRC_CTL d) v.toNat)) rfl
    (wrAt_srcCtl (s := s.begun) v.toNat hd h hl) hu he

theorem completes_srcCtlWrite_start {s : State} {d : Nat} {v : Word} (hd : d < 8) (h : s.admits .host (SRC_CTL d)) (hl : s.live d = true)
    (hoff : s.b (SRC_CTL d) SRC_CTL.EN = false) (hon : bitOf v.toNat 31 = true) :
    Completes (.srcCtlWrite (SRC_CTL d) v) s fun t =>
      t.b (SRC_CTL d) SRC_CTL.EN = true ∧ t.sd d = 3 ∧ t.sc d = 3 ∧ t.sw d = 3 ∧ t.sr d = 3 ∧ (t.port d).drop = false ∧ KeepsDram s t := by
  obtain ⟨hdev, hen, hbd, hbc, hbw, hbr, hdrop⟩ := srcCtlWrite_start_port (s := s.begun) hoff hon
  exact completes_srcCtlWrite hd h hl hdev ⟨hen, hbd, hbc, hbw, hbr, hdrop, hdev.keepsDram⟩

theorem completes_srcCtlWrite_stop {s : State} {d : Nat} {v : Word} (hd : d < 8) (h : s.admits .host (SRC_CTL d)) (hl : s.live d = true)
    (hon : s.b (SRC_CTL d) SRC_CTL.EN = true) (hoff : bitOf v.toNat 31 = false) :
    Completes (.srcCtlWrite (SRC_CTL d) v) s fun t =>
      t.b (SRC_CTL d) SRC_CTL.EN = false ∧ t.sw d = 3 ∧ (t.port d).drop = true ∧ t.f (SRC_STATUS d) SRC_STATUS.LINK_UP = 0 ∧ KeepsDram s t := by
  obtain ⟨hdev, hen, hw, hdrop, hlink⟩ := srcCtlWrite_stop_port (s := s.begun) hon hoff
  exact completes_srcCtlWrite hd h hl hdev ⟨hen, hw, hdrop, hlink, hdev.keepsDram⟩

/-! ### The writeback surface (R160) -/

/-- The surface of frame n that die d wrote into surface k is complete. -/
def State.surfaceDone (s : State) (d k n : Nat) : State :=
  (((s.setComp { s.dev.comp with wbDue := s.dev.comp.wbDue.put none d none }).setF (DIE_WB_STATUS d) DIE_WB_STATUS.LAST k).setF
    (DIE_WB_STATUS d) DIE_WB_STATUS.VALID 1).setPair (DIE_WB_FRAME_LO d) (DIE_WB_FRAME_HI d) 16 n

theorem wbComplete_composed {s : State} {d n : Nat} (hdue : s.dev.comp.wbDue.look none d = some n)
    (hall : ∀ i, i < (s.section d).h → (s.dev.comp.full.look [] (lineKey d ((s.section d).y + i))).isEmpty = false) :
    s.wbComplete d = s.surfaceDone d (s.wbTarget s.wReg d) n := by
  have hnone : ((List.range (s.section d).h).any fun i => (s.dev.comp.full.look [] (lineKey d ((s.section d).y + i))).isEmpty) = false := by
    simpa only [List.any_eq_false, List.mem_range, Bool.not_eq_true] using hall
  simp only [State.wbComplete, hdue, hnone, Bool.false_eq_true, if_false]
  rfl

/-- A completed surface changes registers and the composition unit. -/
theorem surfaceDone_dev (s : State) (d k n : Nat) :
    ∃ r, s.surfaceDone d k n =
      { s with dev := { s.dev with regs := r, comp := { s.dev.comp with wbDue := s.dev.comp.wbDue.put none d none } } } := by
  generalize hc : ({ s.dev.comp with wbDue := s.dev.comp.wbDue.put none d none } : CompSt) = c
  have hreg {t : State} (ht : ∃ r, t = { s with dev := { s.dev with regs := r, comp := c } }) (a v : Nat) :
      ∃ r, t.setReg a v = { s with dev := { s.dev with regs := r, comp := c } } := by
    obtain ⟨r, rfl⟩ := ht
    exact ⟨_, rfl⟩
  rw [State.surfaceDone, hc]
  exact hreg (hreg (hreg (hreg ⟨s.dev.regs, rfl⟩ _ _) _ _) _ _) _ _

theorem surfaceDone_onlyDev (s : State) (d k n : Nat) : s.OnlyDev (s.surfaceDone d k n) := by
  obtain ⟨r, hr⟩ := surfaceDone_dev s d k n
  rw [hr]
  rfl

theorem surfaceDone_spec (s : State) (d k n : Nat) :
    (s.surfaceDone d k n).f (DIE_WB_STATUS d) DIE_WB_STATUS.VALID = 1 ∧
      (s.surfaceDone d k n).pair (DIE_WB_FRAME_LO d) (DIE_WB_FRAME_HI d) 16 = n % 2 ^ 48 ∧
      (s.surfaceDone d k n).dev.comp.wbDue.look none d = none ∧
      Keeps s (s.surfaceDone d k n) [DIE_WB_STATUS d, DIE_WB_FRAME_LO d, DIE_WB_FRAME_HI d] fun x => { x with comp := s.dev.comp } := by
  have hne : DIE_WB_STATUS d ≠ DIE_WB_FRAME_LO d ∧ DIE_WB_STATUS d ≠ DIE_WB_FRAME_HI d ∧ DIE_WB_FRAME_LO d ≠ DIE_WB_FRAME_HI d := by
    simp [DIE_WB_STATUS, DIE_WB_FRAME_LO, DIE_WB_FRAME_HI]
  obtain ⟨hslo, hshi, hlohi⟩ := hne
  obtain ⟨r, hr⟩ := surfaceDone_dev s d k n
  refine ⟨?_, ?_, ?_, (surfaceDone_onlyDev s d k n).keeps (fun a ha => ?_) ?_⟩
  · rw [State.surfaceDone, State.setPair, State.f, State.reg_setReg_other _ _ hshi, State.reg_setReg_other _ _ hslo]
    exact State.f_setF_same _ _ _ _ (by decide)
  · rw [State.surfaceDone, State.setPair, State.pair, State.reg_setReg_same, State.reg_setReg_other _ _ hlohi, State.reg_setReg_same]
    omega
  · rw [hr, AMap.look_put, if_pos rfl]
  · simp only [List.mem_cons, List.not_mem_nil, or_false, not_or] at ha
    obtain ⟨hs, hlo, hhi⟩ := ha
    rw [State.surfaceDone, State.setPair, State.regW_setReg, if_neg hhi, State.regW_setReg, if_neg hlo, State.setF, State.regW_setReg,
      if_neg hs, State.setF, State.regW_setReg, if_neg hs]
    rfl
  · rw [hr]

theorem completes_wbSurfaceComplete {s : State} {d n : Nat} (hdue : s.dev.comp.wbDue.look none d = some n)
    (hall : ∀ i, i < (s.section d).h → (s.dev.comp.full.look [] (lineKey d ((s.section d).y + i))).isEmpty = false) :
    Completes (.wbSurfaceComplete d) s fun t =>
      t.f (DIE_WB_STATUS d) DIE_WB_STATUS.VALID = 1 ∧ t.pair (DIE_WB_FRAME_LO d) (DIE_WB_FRAME_HI d) 16 = n % 2 ^ 48 ∧
      t.dev.comp.wbDue.look none d = none ∧
      Keeps s t [DIE_WB_STATUS d, DIE_WB_FRAME_LO d, DIE_WB_FRAME_HI d] fun x => { x with comp := s.dev.comp } :=
  completes_runDev (f := (·.wbComplete d)) rfl (wbComplete_composed (s := s.begun) hdue hall) (surfaceDone_onlyDev s.begun d _ n)
    (surfaceDone_spec s.begun d _ n)

/-- Settles O24: a write of SRC_CTL by what it makes of EN, and the end of a surface whose lines are all composed. -/
theorem portAndWriteback : Obligations.PortAndWriteback := by
  unfold Obligations.PortAndWriteback
  refine fun s d hd => ⟨?_, ?_, ?_⟩
  · intro v h hl hoff hon
    exact completes_srcCtlWrite_start hd h hl hoff hon
  · intro v h hl hon hoff
    exact completes_srcCtlWrite_stop hd h hl hon hoff
  · intro n hdue hall
    exact completes_wbSurfaceComplete hdue hall

end Sys2Proof.Machine
end
